-- ==== Sys2Proof/Word.lean ====
section
/-! DEFINITION. The word types of the part and the collection "one of each for four channels or four classes". -/

namespace Sys2Proof

/-- A byte of the port or of the line. -/
abbrev Byte := BitVec 8

/-- A 16-bit word of the management port. -/
abbrev Word := BitVec 16

/-- A channel CH0 to CH3 (spec/00 section 3.2). -/
abbrev Channel := Fin 4

/-- A row number 0 to 255 (R1). -/
abbrev RowId := Fin 256

/-- A set of channels; bit c stands for CHc (R194). -/
abbrev ChannelMask := BitVec 4

/-- A set of reasons in the encoding of R194. -/
abbrev ReasonSet := BitVec 8

/-- One value for each of four channels (or four classes). -/
structure Quad (α : Type) where
  /-- of CH0 or class 0 -/
  q0 : α
  /-- of CH1 or class 1 -/
  q1 : α
  /-- of CH2 or class 2 -/
  q2 : α
  /-- of CH3 or class 3 -/
  q3 : α
  deriving DecidableEq, Repr

/-- The value of one index. -/
def Quad.get {α : Type} (q : Quad α) : Fin 4 → α
  | 0 => q.q0
  | 1 => q.q1
  | 2 => q.q2
  | 3 => q.q3

/-- The collection with one value replaced. -/
def Quad.set {α : Type} (q : Quad α) (i : Fin 4) (x : α) : Quad α :=
  match i with
  | 0 => { q with q0 := x }
  | 1 => { q with q1 := x }
  | 2 => { q with q2 := x }
  | 3 => { q with q3 := x }

/-- The collection whose value at each index is given. -/
def Quad.tabulate {α : Type} (f : Fin 4 → α) : Quad α := ⟨f 0, f 1, f 2, f 3⟩

/-- The same value at all four indexes. -/
def Quad.all {α : Type} (x : α) : Quad α := ⟨x, x, x, x⟩

/-- Each value replaced by its image. -/
def Quad.map {α β : Type} (f : α → β) (q : Quad α) : Quad β := ⟨f q.q0, f q.q1, f q.q2, f q.q3⟩

end Sys2Proof
end

