-- ==== Sys2Proof/Config.lean ====
section
/-! DEFINITION. The figures the manual fixes for the part. The manual leaves no implementation constant open, and every
value its rules leave to the moment of an event is fixed by the order of the commands. -/

namespace Sys2Proof.Config

/-- Reservations per channel, pending rows and the in-flight row together (R54). -/
def reservations : Nat := 24

/-- Places of an arrival queue (R34). -/
def arrivalPlaces : Nat := 4

/-- Places of a reply queue (R132). -/
def replyPlaces : Nat := 4

/-- The longest image in bytes (R2, R122). -/
def maxLength : Nat := 16

/-- Bit times of the end gap that closes a telegram (R120). -/
def endGapBits : Nat := 4

/-- The fewest and the most bytes a telegram may have on the line (R121). -/
def telegramMin : Nat := 5
def telegramMax : Nat := 25

/-- The highest station number (spec/00 section 3.2). -/
def maxStation : Nat := 31

/-- Where the error run stops (R154). -/
def errorRunStop : Nat := 31

/-- Slot times added to the own station before a claim from the ring (R144). -/
def ringSilence : Nat := 8

/-- Slot times added to the own station before a claim from LISTENING (R144). -/
def listenSilence : Nat := 40

/-- Ticks in one unit of the recovery interval (R85, R156). -/
def ticksPerRecoveryUnit : Nat := 10

/-- What IDENT reads (R190). -/
def ident : Word := 0x4B60

end Sys2Proof.Config
end

