-- ==== Sys2Proof/Syntax.lean ====
section
/-! DEFINITION. The commands of the part: one constructor of `Instr` for each row of spec/opcode_table.json, and the
data their operands are made of (the telegrams of R122 and the words of the management port). -/

namespace Sys2Proof

/-- The fields of a PUBLISH telegram (R122, R123). The length field is the payload's length. -/
structure Publish where
  cls : Fin 4
  source : Byte
  target : Byte
  topic : Word
  sequence : Byte
  payload : List Byte
  deriving DecidableEq, Repr

/-- The fields of a RECALL telegram (R122, R123). -/
structure Recall where
  cls : Fin 4
  source : Byte
  target : Byte
  topic : Word
  deriving DecidableEq, Repr

/-- The fields of a CONFIRM telegram (R122, R123). -/
structure Confirm where
  source : Byte
  target : Byte
  topic : Word
  sequence : Byte
  deriving DecidableEq, Repr

/-- A telegram of one of the six kinds (R122). -/
inductive Telegram
  | publish (p : Publish)
  | confirm (q : Confirm)
  | recall (r : Recall)
  | token (source target : Byte)
  | joinCall (source target : Byte)
  | joinReply (source target : Byte)
  deriving DecidableEq, Repr

/-- The three kinds the token logic alone uses (R127). -/
inductive RingKind
  | token
  | joinCall
  | joinReply
  deriving DecidableEq, Repr

/-- The four cases of a framing fault (R121). -/
inductive FramingCase
  /-- a stop bit read low -/
  | lowStopBit
  /-- the line high for 1 to 3 bit times after a stop bit, then a start bit -/
  | shortGap
  /-- a telegram that completes with fewer than 5 bytes -/
  | tooShort
  /-- a 26th byte begins -/
  | byte26
  deriving DecidableEq, Repr

/-- The four port words that hold a channel's configuration (R137, R194). -/
inductive ConfigWord
  | cfgA
  | cfgB
  | cfgCFirst
  | cfgCSecond
  deriving DecidableEq, Repr

/-- What of a CHnEVENT word an EVENT_READ is: the whole word, or one of its two ends, so that events can come between
(R113, log entry 2). -/
inductive ReadPart
  /-- first bit to last bit with no event between -/
  | whole
  /-- the first bit: the word is taken for output -/
  | firstBit
  /-- the last bit: the word has been shifted out -/
  | lastBit
  deriving DecidableEq, Repr

/-- The commands and events of the part, one constructor per row of spec/opcode_table.json, in its order.
A word command carries the data word and the mask word of a MASKED WRITE; when the open transaction is a WRITE the
mask is not used. A command of a channel engine carries its channel. -/
inductive Instr
  /-- PIN_RESET: `selLow` says whether SEL is low when RST rises (R192). -/
  | pinReset (selLow : Bool)
  /-- SOFT_RESET: a GCTRL word that carries the strobe completes (R191). -/
  | softReset (data mask : Word)
  /-- PORT_STATUS_BYTE: SEL falls and the control byte is shifted in (R180, R182). -/
  | portStatusByte (control : Byte)
  /-- END_INSIDE_TRANSACTION: SEL rises `bits` clocks after the last completed piece of the transaction (R187). -/
  | endInsideTransaction (bits : Nat)
  /-- REGISTER_WRITE: a WRITE or MASKED WRITE word completes at an address (R184, R185). -/
  | registerWrite (addr : Byte) (data mask : Word)
  /-- COMPARE: a whole comparison at an address (R186). -/
  | compare (addr : Byte) (expected mask : Word)
  /-- EVENT_READ: a READ word at CHnEVENT, whole unless the command names one of its two ends (R113). -/
  | eventRead (part : ReadPart := .whole)
  /-- ATTN_ENABLE: a GCTRL word without the strobe completes (R117). -/
  | attnEnable (data mask : Word)
  /-- EVENT_ENABLE_WRITE: a CHnEVENTEN word completes (R115). -/
  | eventEnableWrite (data mask : Word)
  /-- CONFIG_WRITE: a configuration word completes (R137). -/
  | configWrite (word : ConfigWord) (data mask : Word)
  /-- CHANNEL_ENABLE: a CHnCTRL word with ENABLE 1 completes (R138). -/
  | channelEnable (data mask : Word)
  /-- CHANNEL_DISABLE: a CHnCTRL word with ENABLE 0 completes (R139). -/
  | channelDisable (data mask : Word)
  /-- RESTART: a CHnCTRL word with the RESTART strobe completes (R140). -/
  | restart (data mask : Word)
  /-- RECOVER: a CHnCTRL word with the RECOVER strobe completes (R156). -/
  | recover (data mask : Word)
  /-- CLEAR_COUNTERS: a CHnCTRL word with the CLEAR_COUNTERS strobe completes (R141). -/
  | clearCounters (data mask : Word)
  /-- DECLARE: a CMDCODE word of value 1 completes (R159, R164). -/
  | declare
  /-- AMEND: a CMDCODE word of value 2 completes (R159, R166). -/
  | amend
  /-- FIND: a CMDCODE word of value 3 completes (R159, R167). -/
  | find
  /-- LIST: a CMDCODE word of value 4 completes (R159, R167). -/
  | list
  /-- FETCH: a CMDCODE word of value 5 completes (R159, R168). -/
  | fetch
  /-- POST: a CMDCODE word of value 6 completes (R159, R170). -/
  | post
  /-- SEND: a CMDCODE word of value 7 completes (R159, R171). -/
  | send
  /-- RECALL: a CMDCODE word of value 8 completes (R159, R171). -/
  | recall
  /-- CANCEL: a CMDCODE word of value 9 completes (R159, R172). -/
  | cancel
  /-- SUSPEND: a CMDCODE word of value 10 completes (R159, R173). -/
  | suspend
  /-- RESUME: a CMDCODE word of value 11 completes (R159, R174). -/
  | resume
  /-- RETIRE: a CMDCODE word of value 12 completes (R159, R175). -/
  | retire
  /-- TAKE: a CMDCODE word of value 13 completes (R159, R176). -/
  | take
  /-- CLEAR_TABLE: a CMDCODE word of value 14 completes (R159, R177). -/
  | clearTable
  /-- UNKNOWN_COMMAND: a CMDCODE word whose value names no command completes (R159). -/
  | unknownCommand (code : Word)
  /-- COMMAND_TRANSACTION: the table controller takes the command unit's transaction (R160). -/
  | commandTransaction
  /-- TICK: one tick of the interval unit (R85). -/
  | tick
  /-- DEADLINE_DUE: the next deadline that has reached its last tick becomes DUE (R86, R88). -/
  | deadlineDue
  /-- FRESHNESS_EXPIRY: the table controller takes a presented freshness expiry (R91). -/
  | freshnessExpiry
  /-- REFRESH_EXPIRY: the table controller takes a presented refresh expiry (R94). -/
  | refreshExpiry
  /-- INHIBIT_GAP_EXPIRY: the table controller takes a presented inhibit gap expiry (R96). -/
  | inhibitGapExpiry
  /-- RECOVERY_INTERVAL_EXPIRY: a SILENT channel's recovery interval runs out (R156). -/
  | recoveryIntervalExpiry (c : Channel)
  /-- PUBLISH_RECEIVED: a PUBLISH completes on the line (R33). -/
  | publishReceived (c : Channel) (p : Publish)
  /-- RECALL_RECEIVED: a RECALL completes on the line (R33). -/
  | recallReceived (c : Channel) (r : Recall)
  /-- CONFIRM_RECEIVED: a CONFIRM completes on the line (R130). -/
  | confirmReceived (c : Channel) (q : Confirm)
  /-- TOKEN_RECEIVED: a TOKEN addressed to the own station completes (R147). -/
  | tokenReceived (c : Channel) (source : Byte)
  /-- JOIN_CALL_RECEIVED: a JOIN_CALL addressed to the own station completes (R145). -/
  | joinCallReceived (c : Channel) (source : Byte)
  /-- JOIN_REPLY_RECEIVED: a JOIN_REPLY addressed to the own station completes (R150). -/
  | joinReplyReceived (c : Channel) (source : Byte)
  /-- CHECK_FAILURE: a telegram of these bytes completes and fails its check or size test (R125). -/
  | checkFailure (c : Channel) (bytes : List Byte)
  /-- FRAMING_FAULT: a telegram ends in a framing fault (R121). -/
  | framingFault (c : Channel) (kind : FramingCase)
  /-- PUBLISH_ARRIVAL: the table controller takes the arrival transaction of a PUBLISH (R35). -/
  | publishArrival (c : Channel)
  /-- RECALL_ARRIVAL: the table controller takes the arrival transaction of a RECALL (R48). -/
  | recallArrival (c : Channel)
  /-- SEND_REPLY: the head of the reply queue begins transmission (R132). -/
  | sendReply (c : Channel)
  /-- REPLY_LATEST_START: the latest start of the reply at the head passes (R132). -/
  | replyLatestStart (c : Channel)
  /-- REPLY_ECHO: a reply's transmission ends; `readBack` and `clean` as for ATTEMPT_ECHO (R132). -/
  | replyEcho (c : Channel) (readBack : List Byte) (clean : Bool)
  /-- ATTEMPT_START: the table controller takes an attempt-start transaction (R63). -/
  | attemptStart (c : Channel)
  /-- ATTEMPT_ECHO: an attempt's transmission ends; `readBack` is what LRX gave back and `clean` says that every
  stop bit was high and the line stayed high through the end gap (R66, R128). -/
  | attemptEcho (c : Channel) (readBack : List Byte) (clean : Bool)
  /-- REPLY_WINDOW_EXPIRY: an open reply window's length has passed (R130). -/
  | replyWindowExpiry (c : Channel)
  /-- ATTEMPT_OUTCOME: the table controller takes an outcome transaction (R68). -/
  | attemptOutcome (c : Channel)
  /-- JOIN_CALL_ECHO: a join call's transmission ends (R150). -/
  | joinCallEcho (c : Channel) (readBack : List Byte) (clean : Bool)
  /-- PASS_TOKEN_ECHO: a pass TOKEN's transmission ends (R151). -/
  | passTokenEcho (c : Channel) (readBack : List Byte) (clean : Bool)
  /-- PASS_WINDOW_EXPIRY: an open pass window's length has passed (R151). -/
  | passWindowExpiry (c : Channel)
  /-- SILENCE_TIMER_EXPIRY: the silence timer runs out (R144). -/
  | silenceTimerExpiry (c : Channel)
  /-- CLAIM_TRANSMIT: the claim's TOKEN begins on the idle line (R146). -/
  | claimTransmit (c : Channel)
  /-- CLAIM_ECHO: the claim's transmission ends (R146). -/
  | claimEcho (c : Channel) (readBack : List Byte) (clean : Bool)
  /-- REMOVAL_TRANSACTION: the table controller takes a removal transaction (R77). -/
  | removalTransaction (c : Channel)
  /-- START_BIT: a start bit begins on the receive line (R120). -/
  | startBit (c : Channel)
  /-- END_GAP: the receive line has stayed high for one end gap (R121). -/
  | endGap (c : Channel)
  /-- UNKNOWN_KIND_TELEGRAM: a check-good telegram of these bytes, of unknown kind or with a source station out of
  range, completes (R125). -/
  | unknownKindTelegram (c : Channel) (bytes : List Byte)
  /-- UNMATCHED_RING_TELEGRAM: a ring telegram from another station, to another station or unasked, completes (R147). -/
  | unmatchedRingTelegram (c : Channel) (kind : RingKind) (source target : Byte)
  /-- READ_AT_ABSENT_ADDRESS: a READ word completes at an address (R183). -/
  | readAtAbsentAddress (addr : Byte)
  deriving DecidableEq, Repr

end Sys2Proof
end

