-- ==== Sys2Proof/Decode.lean ====
section
/-! DEFINITION. The commands as words: spec/opcode_table.json gives no row any bits, so no word spells a command. -/

namespace Sys2Proof

/-- The command that a word spells by the table's bits. The table gives bits to no row: a command reaches the part over
its pins, as spec/09 describes, and not as a word of this table (log entry 17). -/
def decodeTableWord (nbits w : Nat) : Option Instr :=
  match nbits, w with
  | _, _ => none

end Sys2Proof
end

