-- ==== Sys2Proof/Machine/State.lean ====
section
/-! DEFINITION. The state of the part as plain data, its reset value, and the outcomes' reason types. -/

namespace Sys2Proof.Machine

/-- The part raises no fault: the manual describes no stop, every error is reported in state (log entry 5). -/
inductive Fault
  deriving DecidableEq, Repr

/-- The reasons a command has no meaning. -/
inductive Refusal
  /-- Raised by `exec` for a command that has no meaning yet; no arm raises it now. Safe: the machine stops. -/
  | notModelled (mnemonic : String)
  deriving DecidableEq, Repr

/-! ### The image table (chapter 1) -/

/-- Row states (R16). -/
inductive RowState
  | free
  | awaiting
  | live
  | stale
  | suspended
  | retiring
  deriving DecidableEq, Repr

/-- Roles (R3). -/
inductive Role
  | consumed
  | produced
  deriving DecidableEq, Repr

/-- Send states (R12). -/
inductive SendState
  | idle
  | held
  | pending
  | inFlight
  deriving DecidableEq, Repr

/-- Last results (R14). -/
inductive LastResult
  | none
  | sent
  | confirmed
  | failedNoConfirm
  | failedLine
  | droppedFull
  | cancelled
  | channelOff
  deriving DecidableEq, Repr

/-- Reasons for attention (R107). -/
inductive Reason
  | newData
  | restored
  | stale
  | rejected
  | sendDone
  | sendFailed
  | sendDropped
  | recalled
  deriving DecidableEq, Repr

/-- The three deadlines of a row (R86). -/
inductive DeadlineKind
  | freshness
  | refresh
  | gap
  deriving DecidableEq, Repr

/-- The condition of a deadline (R86). A RUNNING deadline with no tick to come has reached its (d+1)th tick. -/
inductive Deadline
  | stopped
  | running (length ticksToCome : Nat)
  | due (length : Nat)
  deriving DecidableEq, Repr

/-- What a row holds for one channel (R12 to R14). -/
structure Side where
  sendState : SendState
  renewed : Bool
  cancelRequested : Bool
  attemptCount : Nat
  lastResult : LastResult
  deriving DecidableEq, Repr

/-- A row's side at its free value (R1). -/
def Side.free : Side :=
  { sendState := .idle, renewed := false, cancelRequested := false, attemptCount := 0, lastResult := .none }

/-- One row of the image table with its three deadlines (R1, R2, R86). -/
structure Row where
  state : RowState
  topic : Option Word
  role : Role
  cls : Fin 4
  length : Nat
  sourceMask : ChannelMask
  sendMask : ChannelMask
  image : Option (List Byte)
  generation : Word
  sequence : Byte
  sourceStation : Option Byte
  arrivalChannel : Option Channel
  freshnessLimit : Word
  refreshPeriod : Word
  inhibitGap : Byte
  confirmStation : Byte
  recallOnStale : Bool
  sequenceCheck : Bool
  attentionMask : ReasonSet
  rejectCount : Byte
  gapRunning : Bool
  heldMask : ChannelMask
  side : Quad Side
  age : Word
  freshness : Deadline
  refresh : Deadline
  gap : Deadline
  deriving DecidableEq, Repr

/-- The free values of a row (R1). -/
def Row.free : Row :=
  { state := .free, topic := none, role := .consumed, cls := 0, length := 0, sourceMask := 0, sendMask := 0,
    image := none, generation := 0, sequence := 0, sourceStation := none, arrivalChannel := none,
    freshnessLimit := 0, refreshPeriod := 0, inhibitGap := 0, confirmStation := 0, recallOnStale := false,
    sequenceCheck := false, attentionMask := 0, rejectCount := 0, gapRunning := false, heldMask := 0,
    side := Quad.all Side.free, age := 0, freshness := .stopped, refresh := .stopped, gap := .stopped }

/-- The ten requesters of the table controller (R29). -/
inductive Requester
  | cu
  | iu
  | rx (c : Channel)
  | tx (c : Channel)
  deriving DecidableEq, Repr

/-! ### The interval unit (chapter 4) -/

/-- The name of a deadline in the due list (R88). -/
structure DueEntry where
  row : RowId
  kind : DeadlineKind
  deriving DecidableEq, Repr

/-- The expiry the interval unit has presented, and whether it has been voided (R88). -/
structure Presented where
  entry : DueEntry
  void : Bool
  deriving DecidableEq, Repr

/-- The interval unit but for the deadlines, which stand in the rows (R85, R88). -/
structure IntervalUnit where
  dueList : List DueEntry
  presented : Option Presented
  tickCount : Nat
  deriving DecidableEq, Repr

/-! ### The attention unit (chapter 5) -/

/-- An entry of the attention list (R104). -/
structure AttentionEntry where
  row : RowId
  reasons : ReasonSet
  deriving DecidableEq, Repr

/-- The nine flags of an event word (R112). -/
inductive EventFlag
  | tokenRegenerated
  | tokenConflict
  | stationJoined
  | stationLost
  | silentEntered
  | listeningResumed
  | duplicateStation
  | checkError
  | configError
  deriving DecidableEq, Repr

/-! ### The command unit (chapter 8) -/

/-- The fourteen commands (R198). -/
inductive CommandKind
  | declare
  | amend
  | find
  | list
  | fetch
  | post
  | send
  | recall
  | cancel
  | suspend
  | resume
  | retire
  | take
  | clearTable
  deriving DecidableEq, Repr

/-- Command phases (R158). -/
inductive CommandPhase
  | idle
  | busy
  | done
  | refused
  deriving DecidableEq, Repr

/-- Result codes of CMDSTAT (section 8.2, R198). -/
inductive ResultCode
  | none
  | ok
  | noRow
  | tableFull
  | topicInUse
  | badTopic
  | badLength
  | badMask
  | badTiming
  | wrongRole
  | wrongState
  | notFound
  | channelsOnline
  | unknownCommand
  | empty
  deriving DecidableEq, Repr

/-- Per-channel outcomes of commands (R197); `noImage` is the enqueue result NO_IMAGE of R57, which no command of a
reachable state reports and R197 gives no code (log entry 9). -/
inductive ChannelOutcome
  | notNamed
  | queued
  | held
  | already
  | renewed
  | droppedFull
  | channelOff
  | removed
  | notQueued
  | tooLate
  | stopped
  | running
  | sent
  | confirmed
  | noConfirm
  | lineError
  | aborted
  | noImage
  deriving DecidableEq, Repr

/-- A CANCEL or RETIRE that waits: its kind, its row, the awaited channels and the outcomes gathered so far (R162). -/
structure Wait where
  isCancel : Bool
  row : RowId
  awaited : ChannelMask
  outcomes : Quad ChannelOutcome
  deriving DecidableEq, Repr

/-- The command unit (R158, R159, R162). -/
structure CommandUnit where
  params : Vector Word 16
  code : Word
  phase : CommandPhase
  resultCode : ResultCode
  overrun : Bool
  rowNumber : Byte
  results : Vector Word 16
  working : Option (Vector Word 16)
  requested : Bool
  wait : Option Wait
  deriving DecidableEq, Repr

/-! ### The management port (chapter 9) -/

/-- The four operations (R182). -/
inductive PortOp
  | read
  | write
  | maskedWrite
  | compare
  deriving DecidableEq, Repr

/-- The pages (R182). -/
inductive Page
  | global
  | ch (c : Channel)
  | allChannels
  deriving DecidableEq, Repr

/-- The transaction in progress (R179). A page of `none` stands for a transaction that runs as if every address had
no word behind it (R182, R188). -/
inductive PortPhase
  /-- SEL is high -/
  | deselected
  /-- the control byte has been taken, the address byte comes next -/
  | addressNext (op : PortOp) (page : Option Page)
  /-- a word boundary of a READ or WRITE burst, the next word's address -/
  | atWord (op : PortOp) (page : Option Page) (addr : Byte)
  /-- inside the CHnEVENT word of a READ, with the value taken for output at its first bit (R113) -/
  | inEvents (c : Channel) (taken : BitVec 9)
  /-- the last bit of a MASKED WRITE or COMPARE has been taken -/
  | finished
  /-- nothing more is taken until SEL rises (R191, R192) -/
  | discarding
  deriving DecidableEq, Repr

/-- The management port (R179, R181). `shiftedOut` holds the bytes SDO carried in the last completed piece (log entry
20). -/
structure Port where
  phase : PortPhase
  portError : Bool
  configRefused : Bool
  shiftedOut : List Byte
  deriving DecidableEq, Repr

/-- GSTAT's reset cause (R190). -/
inductive ResetCause
  | pin
  | soft
  deriving DecidableEq, Repr

/-! ### The channel engines (chapters 2, 3, 6, 7) -/

/-- Channel states and the sub-states of IN_RING (R135). -/
inductive ChState
  | offline
  | listening
  | claiming
  | receiving
  | holding
  | passing
  | silent
  deriving DecidableEq, Repr

/-- The state a claim was made from (R146). -/
inductive ClaimFrom
  | listening
  | receiving
  deriving DecidableEq, Repr

/-- Entry kinds (R55). -/
inductive EntryKind
  | publish
  | recall
  deriving DecidableEq, Repr

/-- Attempt phases (R66); `ended` is an attempt whose outcome is decided and not yet applied. -/
inductive AttemptPhase
  | onLine
  | awaitingConfirm
  | ended
  deriving DecidableEq, Repr

/-- The in-flight record (R64). -/
structure InFlight where
  row : RowId
  kind : EntryKind
  payload : Option (List Byte)
  sequence : Option Byte
  confirm : Byte
  cls : Fin 4
  topic : Word
  phase : AttemptPhase
  deriving DecidableEq, Repr

/-- Outcomes of an attempt (R66). -/
inductive AttemptOutcome
  | sent
  | confirmed
  | noConfirm
  | lineError
  | aborted
  deriving DecidableEq, Repr

/-- The send side's kinds of table request (section 1.4.1). -/
inductive SendRequest
  | attemptStart
  | outcome (o : AttemptOutcome)
  | removal
  deriving DecidableEq, Repr

/-- What a telegram is sent for (R128). -/
inductive TxJob
  | attempt
  | joinCall
  | passToken
  | claim
  | reply
  deriving DecidableEq, Repr

/-- A telegram to be sent or being sent. -/
structure Transmission where
  job : TxJob
  telegram : Telegram
  deriving DecidableEq, Repr

/-- What an open reply window expects besides the own station as target (R129). -/
inductive Expected
  | confirm (source : Byte) (topic : Word) (sequence : Byte)
  | joinReply (source : Byte)
  deriving DecidableEq, Repr

/-- An open reply window, its length in bit times, and whether the length has passed under a telegram that holds the
window open (R129, R130). -/
structure ReplyWindow where
  expect : Expected
  length : Nat
  ranOut : Bool
  deriving DecidableEq, Repr

/-- An open pass window (R151). -/
structure PassWindow where
  length : Nat
  ranOut : Bool
  deriving DecidableEq, Repr

/-- A pass under way: the station passed to, whether it is the second try, and the window (R151). -/
structure Pass where
  station : Byte
  second : Bool
  window : Option PassWindow
  deriving DecidableEq, Repr

/-- The step a visit stands at (R148). -/
inductive VisitStep
  | attempts
  | joinCall
  deriving DecidableEq, Repr

/-- A visit: its telegram count and its step (R148). -/
structure Visit where
  count : Nat
  step : VisitStep
  deriving DecidableEq, Repr

/-- What the receive side makes of its line (R120, R121, R128). -/
inductive RxState
  /-- the channel is OFFLINE and assembles nothing -/
  | off
  /-- enabled, no end gap of high line seen yet -/
  | unsynced
  /-- the line is idle -/
  | idle
  /-- a telegram is on the line; the mark says that a reply or pass window was open at its start bit -/
  | receiving (inWindow : Bool)
  /-- a telegram is on the line whose start bit, after an echo mismatch, was a token conflict (R152) -/
  | intruding
  /-- the part has released the line after an echo mismatch: it is not idle until it has stayed high for one end gap, or
  a telegram has begun and ended (R128) -/
  | released
  /-- after a framing fault: no start bit begins a telegram until the line has stayed high for one end gap (R121) -/
  | resync
  deriving DecidableEq, Repr

/-- An arrival offered to the image table (R35). -/
inductive Arrival
  | publish (p : Publish)
  | recall (r : Recall)
  deriving DecidableEq, Repr

/-- The six counters of a channel (R141). -/
structure Counters where
  goodTelegrams : Word
  checkFailures : Word
  unclaimedPublishes : Word
  fullDrops : Word
  failedAttempts : Word
  failedPasses : Word
  deriving DecidableEq, Repr

/-- All six counters at 0. -/
def Counters.zero : Counters :=
  { goodTelegrams := 0, checkFailures := 0, unclaimedPublishes := 0, fullDrops := 0, failedAttempts := 0,
    failedPasses := 0 }

/-- A channel engine. -/
structure ChannelEngine where
  enable : Bool
  cfgA : Word
  cfgB : Word
  cfgC1 : Word
  cfgC2 : Word
  state : ChState
  claimedFrom : ClaimFrom
  stationList : List Nat
  errorRun : Nat
  joinCount : Nat
  joinCursor : Option Nat
  silenceTimer : Option Nat
  recovery : Option Nat
  lists : Quad (List RowId)
  inFlight : Option InFlight
  visit : Option Visit
  pass : Option Pass
  replyWindow : Option ReplyWindow
  rx : RxState
  watch : Option TxJob
  waiting : Option Transmission
  sending : Option Transmission
  arrivalQueue : List Arrival
  replyQueue : List Telegram
  requests : List SendRequest
  counters : Counters
  event : BitVec 9
  eventEnable : BitVec 9
  deriving DecidableEq, Repr

/-- A channel engine after a pin or soft reset (R136, R196). -/
def ChannelEngine.reset : ChannelEngine :=
  { enable := false, cfgA := 0x4020, cfgB := 0x3432, cfgC1 := 0x9010, cfgC2 := 0x0064, state := .offline,
    claimedFrom := .listening, stationList := [], errorRun := 0, joinCount := 0, joinCursor := none,
    silenceTimer := none, recovery := none, lists := Quad.all [], inFlight := none, visit := none, pass := none,
    replyWindow := none, rx := .off, watch := none, waiting := none, sending := none, arrivalQueue := [],
    replyQueue := [], requests := [], counters := Counters.zero, event := 0, eventEnable := 0 }

/-- The command unit after a pin or soft reset (R158). -/
def CommandUnit.reset : CommandUnit :=
  { params := Vector.replicate 16 0, code := 0, phase := .idle, resultCode := .none, overrun := false, rowNumber := 0,
    results := Vector.replicate 16 0, working := none, requested := false, wait := none }

/-- The state of the part, and the queue of the commands that wait. `turn` is the requester the table controller had
chosen to take next when a later request arrived (R29). -/
structure State where
  rows : Vector Row 256
  topicIndex : List (Word × RowId)
  served : Requester
  turn : Option Requester
  iu : IntervalUnit
  attention : List AttentionEntry
  attnEnable : Bool
  cu : CommandUnit
  port : Port
  resetCause : ResetCause
  channels : Quad ChannelEngine
  pending : List Instr
  deriving DecidableEq, Repr

/-- The port after a pin or soft reset, in a phase (R181). -/
def Port.reset (phase : PortPhase) : Port :=
  { phase := phase, portError := false, configRefused := false, shiftedOut := [] }

/-- The part right after a pin reset, with SEL high and no command waiting (R32, R80, R103, R104, R117, R136, R158,
R181, R190). -/
def State.reset : State :=
  { rows := Vector.replicate 256 Row.free, topicIndex := [], served := .tx 3, turn := none,
    iu := { dueList := [], presented := none, tickCount := 0 }, attention := [], attnEnable := false,
    cu := CommandUnit.reset, port := Port.reset .deselected, resetCause := .pin, channels :=
      Quad.all ChannelEngine.reset, pending := [] }

end Sys2Proof.Machine
end

