-- ==== Sys2Proof/Machine/Operands.lean ====
section
/-! DEFINITION. Bit fields, sets and codes of chapter 9's format section: how the words of the port and the parameter
blocks are read, and how states and results are coded. -/

namespace Sys2Proof.Machine

/-- `width` bits of a word from bit `low` up, as a number. -/
def field (w : Word) (low width : Nat) : Nat := w.toNat / 2 ^ low % 2 ^ width

/-- One bit of a word. -/
def bitAt (w : Word) (k : Nat) : Bool := w.getLsbD k

/-- A word with one bit at `k` when `b` is set. -/
def bitWord (k : Nat) (b : Bool) : Word := if b then BitVec.ofNat 16 (2 ^ k) else 0

/-- A number placed in a word from bit `low` up. -/
def placed (n low : Nat) : Word := BitVec.ofNat 16 (n * 2 ^ low)

/-- The high and the low byte of a word, in the port's and the line's order (spec/00 section 3.5). -/
def wordBytes (w : Word) : List Byte := [BitVec.ofNat 8 (w.toNat / 256), BitVec.ofNat 8 w.toNat]

/-- The word of two bytes, the high byte first. -/
def bytesWord (hi lo : Byte) : Word := BitVec.ofNat 16 (hi.toNat * 256 + lo.toNat)

/-- A count raised by 1 that stops at its maximum (spec/00 section 3.3). -/
def satInc {n : Nat} (x : BitVec n) : BitVec n := if x = BitVec.allOnes n then x else x + 1

/-- The new value a MASKED WRITE forms, bit by bit (R185). A WRITE has a mask of all ones. -/
def formed (current data mask : Word) : Word := (data &&& mask) ||| (current &&& ~~~mask)

/-! ### Channels and rows -/

/-- The channels in order. -/
def allChannels : List Channel := [0, 1, 2, 3]

/-- Whether a channel is in a mask (R194). -/
def inMask (m : ChannelMask) (c : Channel) : Bool := m.getLsbD c.val

/-- The mask of one channel (R194). -/
def maskOf (c : Channel) : ChannelMask := BitVec.ofNat 4 (2 ^ c.val)

/-- A mask less one channel. -/
def maskErase (m : ChannelMask) (c : Channel) : ChannelMask := m &&& ~~~ maskOf c

/-- All rows in ascending order. -/
def allRows : List RowId := List.finRange 256

/-- The row a word names, when it is 0 to 255. -/
def rowOfWord (w : Word) : Option RowId := if h : w.toNat < 256 then some ⟨w.toNat, h⟩ else none

/-! ### Codes (R194, R196 to R198) -/

/-- The bit of a reason in a reason set (R194). -/
def Reason.bit : Reason → ReasonSet
  | .newData => 0x01
  | .restored => 0x02
  | .stale => 0x04
  | .rejected => 0x08
  | .sendDone => 0x10
  | .sendFailed => 0x20
  | .sendDropped => 0x40
  | .recalled => 0x80

/-- The bit of a flag in CHnEVENT and CHnEVENTEN (R196). -/
def EventFlag.bit : EventFlag → BitVec 9
  | .tokenRegenerated => 0x001
  | .tokenConflict => 0x002
  | .stationJoined => 0x004
  | .stationLost => 0x008
  | .silentEntered => 0x010
  | .listeningResumed => 0x020
  | .duplicateStation => 0x040
  | .checkError => 0x080
  | .configError => 0x100

/-- The code of a channel state in CHnSTATE (R196). -/
def ChState.code : ChState → Nat
  | .offline => 0
  | .listening => 1
  | .claiming => 2
  | .receiving => 3
  | .holding => 4
  | .passing => 5
  | .silent => 6

/-- The code of a row state (R197). -/
def RowState.code : RowState → Nat
  | .free => 0
  | .awaiting => 1
  | .live => 2
  | .stale => 3
  | .suspended => 4
  | .retiring => 5

/-- The code of a send state (R197). -/
def SendState.code : SendState → Nat
  | .idle => 0
  | .held => 1
  | .pending => 2
  | .inFlight => 3

/-- The code of a last result (R197). -/
def LastResult.code : LastResult → Nat
  | .none => 0
  | .sent => 1
  | .confirmed => 2
  | .failedNoConfirm => 3
  | .failedLine => 4
  | .droppedFull => 5
  | .cancelled => 6
  | .channelOff => 7

/-- The code of a per-channel command outcome (R197). R197 gives NO_IMAGE no code (log entry 9). -/
def ChannelOutcome.code : ChannelOutcome → Nat
  | .notNamed => 0
  | .queued => 1
  | .held => 2
  | .already => 3
  | .renewed => 4
  | .droppedFull => 5
  | .channelOff => 6
  | .removed => 7
  | .notQueued => 8
  | .tooLate => 9
  | .stopped => 10
  | .running => 11
  | .sent => 12
  | .confirmed => 13
  | .noConfirm => 14
  | .lineError => 15
  | .aborted => 16
  | .noImage => 0

/-- The code of a command phase (R198). -/
def CommandPhase.code : CommandPhase → Nat
  | .idle => 0
  | .busy => 1
  | .done => 2
  | .refused => 3

/-- The code of a result code (R198). -/
def ResultCode.code : ResultCode → Nat
  | .none => 0
  | .ok => 1
  | .noRow => 2
  | .tableFull => 3
  | .topicInUse => 4
  | .badTopic => 5
  | .badLength => 6
  | .badMask => 7
  | .badTiming => 8
  | .wrongRole => 9
  | .wrongState => 10
  | .notFound => 11
  | .channelsOnline => 12
  | .unknownCommand => 13
  | .empty => 14

/-- The command a code names (R198). -/
def CommandKind.ofCode (w : Word) : Option CommandKind :=
  match w.toNat with
  | 1 => some .declare
  | 2 => some .amend
  | 3 => some .find
  | 4 => some .list
  | 5 => some .fetch
  | 6 => some .post
  | 7 => some .send
  | 8 => some .recall
  | 9 => some .cancel
  | 10 => some .suspend
  | 11 => some .resume
  | 12 => some .retire
  | 13 => some .take
  | 14 => some .clearTable
  | _ => none

/-! ### Parameter blocks (R199) -/

/-- The eight image words from word `first` of a parameter block, as 16 bytes in order (R194). -/
def imageBytes (p : Vector Word 16) (first : Nat) : List Byte :=
  ((p.toList.drop first).take 8).flatMap wordBytes

/-- The image words of a result: the bytes packed two to a word, the rest 0 (R194, R168). -/
def imageWords (bytes : List Byte) : List Word :=
  (List.range 8).map fun k => bytesWord (bytes.getD (2 * k) 0) (bytes.getD (2 * k + 1) 0)

/-- Sixteen result words: the given ones, the rest 0 (R161). -/
def resultWords (ws : List Word) : Vector Word 16 := Vector.ofFn fun i => ws.getD i.val 0

/-- The row-and-state form of R200. -/
def rowAndState (r : RowId) (st : RowState) : Word := placed st.code 8 ||| placed r.val 0

/-- Per-channel outcomes, one byte each in two words (R200). -/
def outcomeWords (o : Quad ChannelOutcome) : List Word :=
  [placed o.q0.code 8 ||| placed o.q1.code 0, placed o.q2.code 8 ||| placed o.q3.code 0]

/-- The parameters of DECLARE (R199). -/
structure DeclareParams where
  topic : Word
  initialImage : Bool
  sequenceCheck : Bool
  recallOnStale : Bool
  sendMask : ChannelMask
  sourceMask : ChannelMask
  cls : Fin 4
  role : Role
  length : Nat
  freshnessLimit : Word
  refreshPeriod : Word
  confirmStation : Byte
  inhibitGap : Byte
  attentionMask : ReasonSet
  image : List Byte

/-- DECLARE's parameter block (R199). -/
def declareParams (p : Vector Word 16) : DeclareParams :=
  { topic := p[0], initialImage := bitAt p[1] 15, sequenceCheck := bitAt p[1] 13, recallOnStale := bitAt p[1] 12,
    sendMask := BitVec.ofNat 4 (field p[1] 8 4), sourceMask := BitVec.ofNat 4 (field p[1] 4 4),
    cls := Fin.ofNat 4 (field p[1] 1 2), role := if bitAt p[1] 0 then .produced else .consumed,
    length := p[2].toNat, freshnessLimit := p[3], refreshPeriod := p[4],
    confirmStation := BitVec.ofNat 8 (field p[5] 8 5), inhibitGap := BitVec.ofNat 8 (field p[5] 0 8),
    attentionMask := BitVec.ofNat 8 (field p[6] 0 8), image := imageBytes p 7 }

/-- The channel mask of SEND, RECALL and CANCEL (R199). -/
def maskParam (p : Vector Word 16) : ChannelMask := BitVec.ofNat 4 (field p[1] 0 4)

/-! ### Configuration fields of a channel (R137, R196) -/

/-- The own station. -/
def ChannelEngine.own (ce : ChannelEngine) : Byte := BitVec.ofNat 8 (field ce.cfgA 0 5)

/-- The slot time in bit times (R119). -/
def ChannelEngine.slotBits (ce : ChannelEngine) : Nat := field ce.cfgA 8 8

/-- The line rate in kbit/s (R119, R196). -/
def ChannelEngine.lineRate (ce : ChannelEngine) : Nat := 250 * 2 ^ field ce.cfgA 5 2

/-- The reply window in slot times. -/
def ChannelEngine.replyWindowSlots (ce : ChannelEngine) : Nat := field ce.cfgB 0 4

/-- The pass timeout in slot times. -/
def ChannelEngine.passTimeoutSlots (ce : ChannelEngine) : Nat := field ce.cfgB 4 4

/-- The visit budget in telegrams. -/
def ChannelEngine.visitBudget (ce : ChannelEngine) : Nat := field ce.cfgB 8 4

/-- The retry limit. -/
def ChannelEngine.retryLimit (ce : ChannelEngine) : Nat := field ce.cfgB 12 3

/-- The join interval in visits. -/
def ChannelEngine.joinInterval (ce : ChannelEngine) : Nat := field ce.cfgC1 0 8

/-- The error run limit. -/
def ChannelEngine.errorRunLimit (ce : ChannelEngine) : Nat := field ce.cfgC1 8 5

/-- AUTO_RECOVER. -/
def ChannelEngine.autoRecover (ce : ChannelEngine) : Bool := bitAt ce.cfgC1 15

/-- The recovery interval in units of 10 ticks. -/
def ChannelEngine.recoveryUnits (ce : ChannelEngine) : Nat := field ce.cfgC2 0 8

/-- The check made when ENABLE is set: every field of R137 in its valid range (R138). The line rate, the retry limit,
the join interval and AUTO_RECOVER are valid whatever their bits. -/
def ChannelEngine.configValid (ce : ChannelEngine) : Bool :=
  1 ≤ ce.own.toNat && 20 ≤ ce.slotBits && 1 ≤ ce.replyWindowSlots && 1 ≤ ce.passTimeoutSlots &&
    (1 ≤ ce.visitBudget && ce.visitBudget ≤ 8) && 1 ≤ ce.errorRunLimit && 1 ≤ ce.recoveryUnits

/-- The assigned bits of a configuration word; the others are not stored (R194, R196). -/
def ConfigWord.assigned : ConfigWord → Word
  | .cfgA => 0xFF7F
  | .cfgB => 0x7FFF
  | .cfgCFirst => 0x9FFF
  | .cfgCSecond => 0x00FF

/-- A configuration word of a channel as it reads (R137). -/
def ChannelEngine.config (ce : ChannelEngine) : ConfigWord → Word
  | .cfgA => ce.cfgA
  | .cfgB => ce.cfgB
  | .cfgCFirst => ce.cfgC1
  | .cfgCSecond => ce.cfgC2

/-- A configuration word of a channel stored (R137, R194). -/
def ChannelEngine.storeConfig (ce : ChannelEngine) (w : ConfigWord) (v : Word) : ChannelEngine :=
  match w with
  | .cfgA => { ce with cfgA := v &&& ConfigWord.assigned .cfgA }
  | .cfgB => { ce with cfgB := v &&& ConfigWord.assigned .cfgB }
  | .cfgCFirst => { ce with cfgC1 := v &&& ConfigWord.assigned .cfgCFirst }
  | .cfgCSecond => { ce with cfgC2 := v &&& ConfigWord.assigned .cfgCSecond }

end Sys2Proof.Machine
end

