-- ==== Sys2Proof/Machine/Telegram.lean ====
section
/-! DEFINITION. The telegrams on the line (chapter 6, R201): the check, the layout, and the judgement of a received
telegram. -/

namespace Sys2Proof.Machine

/-! ### The check (R124) -/

/-- One bit into the check register (R124). -/
def crcBit (reg : Word) (bit : Bool) : Word :=
  let shifted := reg <<< 1
  if xor (reg.getLsbD 15) bit then shifted ^^^ 0x1021 else shifted

/-- One byte into the check register, most significant bit first (R124). -/
def crcByte (reg : Word) (b : Byte) : Word :=
  [7, 6, 5, 4, 3, 2, 1, 0].foldl (fun r k => crcBit r (b.getLsbD k)) reg

/-- The check of the bytes before it (R124). -/
def crc (bytes : List Byte) : Word := bytes.foldl crcByte 0xFFFF

/-! ### The layout (R122, R201) -/

/-- The first byte: kind code in bits 7 to 4, class in bits 1 and 0 (R201). -/
def firstByte (kind : Nat) (cls : Fin 4) : Byte := BitVec.ofNat 8 (kind * 16 + cls.val)

/-- The bytes of a telegram before its check (R201). -/
def telegramBody : Telegram → List Byte
  | .publish p =>
    firstByte 1 p.cls :: p.source :: p.target ::
      (wordBytes p.topic ++ p.sequence :: BitVec.ofNat 8 p.payload.length :: p.payload)
  | .confirm q => firstByte 2 0 :: q.source :: q.target :: (wordBytes q.topic ++ [q.sequence])
  | .recall r => firstByte 3 r.cls :: r.source :: r.target :: wordBytes r.topic
  | .token s t => [firstByte 4 0, s, t]
  | .joinCall s t => [firstByte 5 0, s, t]
  | .joinReply s t => [firstByte 6 0, s, t]

/-- The bytes of a telegram on the line, its check last and high byte first (R124, R201). -/
def telegramBytes (t : Telegram) : List Byte := telegramBody t ++ wordBytes (crc (telegramBody t))

/-! ### The line's levels (R120, R121) -/

/-- A byte on the line, ten bit times, high as `true`: a start bit low, the data bits most significant first, a stop bit
high (R120). -/
def byteLevels (b : Byte) : List Bool := false :: ([7, 6, 5, 4, 3, 2, 1, 0].map fun k => b.getLsbD k) ++ [true]

/-- A telegram's bytes on the line: one after another without gaps, and the end gap at the high level (R120). -/
def lineLevels (bytes : List Byte) : List Bool :=
  bytes.flatMap byteLevels ++ List.replicate Config.endGapBits true

/-- The byte of eight data bits, most significant first (R120). -/
def byteOfLevels (bits : List Bool) : Byte := BitVec.ofNat 8 (bits.foldl (fun n b => 2 * n + b.toNat) 0)

/-- What the receive side makes of the levels of a line from the start bit of a telegram onward (R121). -/
inductive LineReading
  /-- the telegram has not ended -/
  | underWay
  /-- it has ended in a framing fault -/
  | fault (k : FramingCase)
  /-- it has completed with 5 to 25 bytes -/
  | completed (bytes : List Byte)
  deriving DecidableEq, Repr

/-- The receive side with some bytes assembled reads the levels that follow (R120, R121): ten to a byte, and then the
next byte's start bit or the end gap. A command that ends a telegram carries what came of this. -/
def readLevels (bytes : List Byte) : List Bool → LineReading
  | false :: b7 :: b6 :: b5 :: b4 :: b3 :: b2 :: b1 :: b0 :: stop :: rest =>
    if Config.telegramMax ≤ bytes.length then .fault .byte26
    else if stop then readLevels (bytes ++ [byteOfLevels [b7, b6, b5, b4, b3, b2, b1, b0]]) rest
    else .fault .lowStopBit
  | false :: _ => if Config.telegramMax ≤ bytes.length then .fault .byte26 else .underWay
  | true :: true :: true :: true :: _ =>
    if bytes.length < Config.telegramMin then .fault .tooShort else .completed bytes
  | true :: true :: true :: false :: _ => .fault .shortGap
  | true :: true :: false :: _ => .fault .shortGap
  | true :: false :: _ => .fault .shortGap
  | _ => .underWay

/-- What the check, size and kind tests of R125 make of the bytes of a completed telegram. -/
inductive Parsed
  /-- tests 1 to 3 fail -/
  | bad
  /-- test 4 fails -/
  | unknownKind
  /-- a telegram of known kind and right size -/
  | known (t : Telegram)
  deriving DecidableEq, Repr

/-- The class bits of the first byte (R201). -/
def classOf (k : Byte) : Fin 4 := Fin.ofNat 4 (k.toNat % 4)

/-- The size and kind tests on the bytes before the check (R122, R125); bits of the first byte that are neither kind
nor class are ignored (R122). -/
def parseBody (body : List Byte) : Parsed :=
  match body with
  | k :: s :: t :: rest =>
    match k.toNat / 16 with
    | 1 =>
      match rest with
      | hi :: lo :: sequence :: len :: payload =>
        if len.toNat ≤ Config.maxLength ∧ payload.length = len.toNat then
          .known (.publish { cls := classOf k, source := s, target := t, topic := bytesWord hi lo,
                             sequence := sequence, payload := payload })
        else .bad
      | _ => .bad
    | 2 =>
      match rest with
      | [hi, lo, sequence] =>
        .known (.confirm { source := s, target := t, topic := bytesWord hi lo, sequence := sequence })
      | _ => .bad
    | 3 =>
      match rest with
      | [hi, lo] => .known (.recall { cls := classOf k, source := s, target := t, topic := bytesWord hi lo })
      | _ => .bad
    | 4 => if rest = [] then .known (.token s t) else .bad
    | 5 => if rest = [] then .known (.joinCall s t) else .bad
    | 6 => if rest = [] then .known (.joinReply s t) else .bad
    | _ => .unknownKind
  | _ => .bad

/-- The judgement of a completed telegram's bytes up to its kind: 5 to 25 bytes (R121), check-good (R124), size and
kind (R122, R125). -/
def parseTelegram (bytes : List Byte) : Parsed :=
  let n := bytes.length
  if n < Config.telegramMin ∨ Config.telegramMax < n then .bad
  else
    let body := bytes.take (n - 2)
    if bytes.drop (n - 2) = wordBytes (crc body) then parseBody body else .bad

/-! ### The judgement (R125) -/

/-- The source station of a telegram. -/
def telegramSource : Telegram → Byte
  | .publish p => p.source
  | .confirm q => q.source
  | .recall r => r.source
  | .token s _ => s
  | .joinCall s _ => s
  | .joinReply s _ => s

/-- The target station of a telegram. -/
def telegramTarget : Telegram → Byte
  | .publish p => p.target
  | .confirm q => q.target
  | .recall r => r.target
  | .token _ t => t
  | .joinCall _ t => t
  | .joinReply _ t => t

/-- Whether a telegram can stand on the line: a payload is at most 16 bytes (R122). -/
def telegramSized : Telegram → Bool
  | .publish p => p.payload.length ≤ Config.maxLength
  | _ => true

/-- What the line layer makes of a telegram that ends (R125). -/
inductive Verdict
  /-- tests 1 to 3 failed -/
  | checkFailure
  /-- test 4 or 5 failed -/
  | discarded
  /-- test 6 failed: the own station as source -/
  | ownSource
  /-- good -/
  | good (t : Telegram)
  deriving DecidableEq, Repr

/-- Tests 5 and 6 of R125 on a telegram of known kind and right size; test 3's payload bound before them. -/
def judgeTelegram (own : Byte) (t : Telegram) : Verdict :=
  if ¬ telegramSized t then .checkFailure
  else if (telegramSource t).toNat = 0 ∨ Config.maxStation < (telegramSource t).toNat then .discarded
  else if telegramSource t = own then .ownSource
  else .good t

/-- The whole judgement of the bytes of a completed telegram (R125). -/
def judgeBytes (own : Byte) (bytes : List Byte) : Verdict :=
  match parseTelegram bytes with
  | .bad => .checkFailure
  | .unknownKind => .discarded
  | .known t => judgeTelegram own t

/-- The echo is good when every byte read back agrees with the byte sent and stop bits and end gap were high (R128). -/
def echoGood (t : Telegram) (readBack : List Byte) (clean : Bool) : Bool := clean && readBack == telegramBytes t

end Sys2Proof.Machine
end

