-- ==== Sys2Proof/Machine/Access.lean ====
section
/-! DEFINITION. The accessors of the state: one row, one side of a row, one channel engine, and their updates. -/

namespace Sys2Proof.Machine

/-- Row r. -/
def State.row (s : State) (r : RowId) : Row := s.rows.get r

/-- Row r replaced by its image. -/
def State.updRow (s : State) (r : RowId) (f : Row → Row) : State := { s with rows := s.rows.set r.val (f (s.row r)) }

/-- A table of rows, each replaced by the image of its number and itself. -/
@[irreducible] def mapRows {α : Type} {n : Nat} (f : Fin n → α → α) (v : Vector α n) : Vector α n :=
  ⟨(List.ofFn fun i => f i (v.get i)).toArray, by simp⟩

/-- Every row replaced by the image of its number and itself. -/
def State.mapRows (s : State) (f : RowId → Row → Row) : State := { s with rows := Machine.mapRows f s.rows }

/-- Channel engine c. -/
def State.ch (s : State) (c : Channel) : ChannelEngine := s.channels.get c

/-- Channel engine c replaced by its image. -/
def State.updCh (s : State) (c : Channel) (f : ChannelEngine → ChannelEngine) : State :=
  { s with channels := s.channels.set c (f (s.ch c)) }

/-- The row's side for channel c replaced by its image. -/
def Row.updSide (row : Row) (c : Channel) (f : Side → Side) : Row :=
  { row with side := row.side.set c (f (row.side.get c)) }

/-- A row's send state on channel c (R12). -/
def Row.sendStateOn (row : Row) (c : Channel) : SendState := (row.side.get c).sendState

/-- A deadline of a row (R86). -/
def Row.deadline (row : Row) : DeadlineKind → Deadline
  | .freshness => row.freshness
  | .refresh => row.refresh
  | .gap => row.gap

/-- A deadline of a row replaced. -/
def Row.withDeadline (row : Row) (k : DeadlineKind) (d : Deadline) : Row :=
  match k with
  | .freshness => { row with freshness := d }
  | .refresh => { row with refresh := d }
  | .gap => { row with gap := d }

/-- The length a deadline is started with, read from the row (R86). -/
def Row.deadlineLength (row : Row) : DeadlineKind → Nat
  | .freshness => row.freshnessLimit.toNat
  | .refresh => row.refreshPeriod.toNat
  | .gap => row.inhibitGap.toNat

/-- Whether a row takes enqueue requests and arrivals: AWAITING, LIVE or STALE (R16, R56). -/
def Row.inService (row : Row) : Bool := row.state = .awaiting || row.state = .live || row.state = .stale

/-- The entry kind of a row on a channel (R55). -/
def Row.entryKind (row : Row) (c : Channel) : EntryKind :=
  if row.role = .consumed && inMask row.sourceMask c then .recall else .publish

/-- The deadlines of one row in the order they join the due list (R88). -/
def deadlineKinds : List DeadlineKind := [.freshness, .refresh, .gap]

end Sys2Proof.Machine
end

