-- ==== Sys2Proof/Machine/Flags.lean ====
section
/-! DEFINITION. Flags and counters: the event word (R112), the six counters (R141), the attention list's reasons
(R105), the ATTN output (R116) and the port status byte (R180). -/

namespace Sys2Proof.Machine

/-! ### A channel's event word and counters -/

/-- A flag of the event word latched (R112). -/
def ChannelEngine.setEvent (ce : ChannelEngine) (f : EventFlag) : ChannelEngine :=
  { ce with event := ce.event ||| f.bit }

/-- A telegram counted as good (R126). -/
def ChannelEngine.countGood (ce : ChannelEngine) : ChannelEngine :=
  { ce with counters := { ce.counters with goodTelegrams := satInc ce.counters.goodTelegrams } }

/-- A telegram counted as a check failure, which sets CHECK_ERROR (R125, R126). -/
def ChannelEngine.countCheckFailure (ce : ChannelEngine) : ChannelEngine :=
  { ce with counters := { ce.counters with checkFailures := satInc ce.counters.checkFailures } }.setEvent .checkError

/-- The unclaimed-publish count raised (R36). -/
def ChannelEngine.countUnclaimed (ce : ChannelEngine) : ChannelEngine :=
  { ce with counters := { ce.counters with unclaimedPublishes := satInc ce.counters.unclaimedPublishes } }

/-- The full-drop count raised (R58). -/
def ChannelEngine.countFullDrop (ce : ChannelEngine) : ChannelEngine :=
  { ce with counters := { ce.counters with fullDrops := satInc ce.counters.fullDrops } }

/-- The failed-attempt count raised (R71). -/
def ChannelEngine.countFailedAttempt (ce : ChannelEngine) : ChannelEngine :=
  { ce with counters := { ce.counters with failedAttempts := satInc ce.counters.failedAttempts } }

/-- The failed-pass count raised (R151). -/
def ChannelEngine.countFailedPass (ce : ChannelEngine) : ChannelEngine :=
  { ce with counters := { ce.counters with failedPasses := satInc ce.counters.failedPasses } }

/-! ### Reasons for attention -/

/-- Whether a reason is in a set. -/
def hasReason (m : ReasonSet) (q : Reason) : Bool := m &&& q.bit != 0

/-- A reason joined to the attention list: to the row's entry where it stands, or to a new entry at the tail (R105). -/
def addReason (l : List AttentionEntry) (r : RowId) (q : Reason) : List AttentionEntry :=
  if l.any (fun e => e.row = r) then l.map fun e => if e.row = r then { e with reasons := e.reasons ||| q.bit } else e
  else l ++ [{ row := r, reasons := q.bit }]

/-- A reason recorded for a row through its attention mask (R105). -/
def State.record (s : State) (r : RowId) (q : Reason) : State :=
  if hasReason (s.row r).attentionMask q then { s with attention := addReason s.attention r q } else s

/-! ### ATTN and the status byte -/

/-- Whether some enabled flag of a channel's event word is set (R116). -/
def ChannelEngine.enabledEvent (ce : ChannelEngine) : Bool := ce.event &&& ce.eventEnable != 0

/-- ATTN is asserted (R116); `State.attnPin` is its level. -/
def State.attn (s : State) : Bool :=
  (s.attnEnable && !s.attention.isEmpty) || allChannels.any fun c => (s.ch c).enabledEvent

/-- The port status byte (R180). -/
def State.statusByte (s : State) : Byte :=
  BitVec.ofNat 8 ((if s.attn then 128 else 0) + (if s.cu.phase = .busy then 64 else 0) +
    (if s.port.portError then 32 else 0) + (if s.port.configRefused then 16 else 0) +
    (if s.cu.overrun then 8 else 0) + 5)

/-- PORT_ERROR set (R181). -/
def State.setPortError (s : State) : State := { s with port := { s.port with portError := true } }

/-- CONFIG_REFUSED set (R181). -/
def State.setConfigRefused (s : State) : State := { s with port := { s.port with configRefused := true } }

end Sys2Proof.Machine
end

