-- ==== Sys2Proof/Machine/Line.lean ====
section
/-! DEFINITION. The operations of one channel engine: its line (chapter 6) and its token logic (chapter 7). Each is a
function of the channel engine alone; the image table is reached only through the requests of the send side. -/

namespace Sys2Proof.Machine

/-! ### The line -/

/-- The line is idle as the channel engine sees it (R120). Before the first end gap after an enable the line counts as
idle until a start bit is heard (log entry 12). -/
def ChannelEngine.lineIdle (ce : ChannelEngine) : Bool :=
  ce.sending.isNone && (ce.rx = .idle || ce.rx = .unsynced)

/-- LTXEN is asserted: the channel engine drives its line (R128, R134). -/
def ChannelEngine.ltxen (ce : ChannelEngine) : Bool := ce.sending.isSome

/-- The levels LTX is driven through for the transmission under way, its end gap with it; none while LTXEN is released
(R120, R128). -/
def ChannelEngine.ltx (ce : ChannelEngine) : List Bool :=
  match ce.sending with
  | some x => lineLevels (telegramBytes x.telegram)
  | none => []

/-- The silence after which the channel claims, in bit times, in the two states that run the timer (R144). -/
def ChannelEngine.silenceLength (ce : ChannelEngine) : Option Nat :=
  match ce.state with
  | .listening => some ((Config.listenSilence + ce.own.toNat) * ce.slotBits)
  | .receiving => some ((Config.ringSilence + ce.own.toNat) * ce.slotBits)
  | _ => none

/-- The silence timer started afresh where the state runs it and the line is idle, and stopped otherwise (R144). -/
def ChannelEngine.restartSilence (ce : ChannelEngine) : ChannelEngine :=
  { ce with silenceTimer := if ce.lineIdle then ce.silenceLength else none }

/-- The token logic's telegram begins when the line is idle and no reply goes first (R120, R132). -/
def ChannelEngine.begin (ce : ChannelEngine) : ChannelEngine :=
  if ce.lineIdle && ce.replyQueue.isEmpty then
    match ce.waiting with
    | some t => { ce with sending := some t, waiting := none, silenceTimer := none }
    | none => ce
  else ce

/-- The end of a step in which the line may have become idle: the silence timer starts, a waiting telegram begins. -/
def ChannelEngine.settle (ce : ChannelEngine) : ChannelEngine := ce.restartSilence.begin

/-- Whether a reply or pass window is open. -/
def ChannelEngine.windowOpen (ce : ChannelEngine) : Bool :=
  ce.replyWindow.isSome || (match ce.pass with | some p => p.window.isSome | none => false)

/-- A reply joins the reply queue, or is discarded when the queue is full (R132). -/
def ChannelEngine.queueReply (ce : ChannelEngine) (t : Telegram) : ChannelEngine :=
  if ce.replyQueue.length < Config.replyPlaces then { ce with replyQueue := ce.replyQueue ++ [t] } else ce

/-- The states in which the channel sends replies (R132, R135). -/
def ChannelEngine.sendsReplies (ce : ChannelEngine) : Bool :=
  match ce.state with
  | .listening => true
  | .receiving => true
  | .holding => true
  | .passing => true
  | _ => false

/-! ### The send side -/

/-- The pending count: the rows on the four class lists (R53). -/
def ChannelEngine.pendingCount (ce : ChannelEngine) : Nat :=
  ce.lists.q0.length + ce.lists.q1.length + ce.lists.q2.length + ce.lists.q3.length

/-- The reservation count (R54). -/
def ChannelEngine.reservationCount (ce : ChannelEngine) : Nat :=
  ce.pendingCount + (if ce.inFlight.isSome then 1 else 0)

/-- A removal transaction of the channel is still waiting (R57, R60). -/
def ChannelEngine.removalWaits (ce : ChannelEngine) : Bool := ce.requests.contains .removal

/-- The channel refuses enqueue requests with CHANNEL_OFF (R57, R60). -/
def ChannelEngine.refusesRequests (ce : ChannelEngine) : Bool := ce.state = .offline || ce.removalWaits

/-- A row taken off all of the channel's class lists (R53). -/
def ChannelEngine.dropRow (ce : ChannelEngine) (r : RowId) : ChannelEngine :=
  { ce with lists := ce.lists.map fun l => l.filter fun x => x ≠ r }

/-- An attempt start presented, unless one is presented already (R63). -/
def ChannelEngine.requestAttempt (ce : ChannelEngine) : ChannelEngine :=
  if ce.requests.contains .attemptStart then ce else { ce with requests := ce.requests ++ [.attemptStart] }

/-- The attempt ends with an outcome, which its outcome transaction will apply; an attempt whose outcome is decided
keeps it (R66, R68). -/
def ChannelEngine.endAttempt (ce : ChannelEngine) (o : AttemptOutcome) : ChannelEngine :=
  match ce.inFlight with
  | some f =>
    if f.phase = .ended then ce
    else { ce with inFlight := some { f with phase := .ended }, requests := ce.requests ++ [.outcome o] }
  | none => ce

/-! ### The station list (R142, R143) -/

/-- A station number put in its place in an ascending list. -/
def insertStation (n : Nat) : List Nat → List Nat
  | [] => [n]
  | x :: xs => if n < x then n :: x :: xs else if n = x then x :: xs else x :: insertStation n xs

/-- A station heard joins the list and sets STATION_JOINED, unless it is listed (R142). -/
def ChannelEngine.learn (ce : ChannelEngine) (source : Byte) : ChannelEngine :=
  if ce.stationList.contains source.toNat then ce
  else { ce with stationList := insertStation source.toNat ce.stationList }.setEvent .stationJoined

/-- The lowest listed station above the own one, or else the lowest listed (R143). -/
def successorOf (own : Nat) (l : List Nat) : Option Nat :=
  match l.find? (fun x => own < x) with
  | some x => some x
  | none => l.head?

/-- The station numbers other than the own one, counting upward from it and from 31 round to 1 (R143). -/
def stationsAfter (own : Nat) : List Nat :=
  ((List.range 32).filter fun x => own < x) ++ ((List.range 32).filter fun x => 0 < x && x < own)

/-- The gap: the station numbers after the own one up to but not including the successor (R143). -/
def gapOf (own : Nat) (l : List Nat) : List Nat :=
  match successorOf own l with
  | some t => (stationsAfter own).takeWhile fun x => x ≠ t
  | none => stationsAfter own

/-- The number that follows the cursor in the gap, or else the gap's first (R149). -/
def joinTarget (gap : List Nat) (cursor : Option Nat) : Option Nat :=
  match cursor with
  | none => gap.head?
  | some k =>
    match (gap.dropWhile fun x => x ≠ k).drop 1 with
    | x :: _ => some x
    | [] => gap.head?

/-! ### Visits, join calls and passes (R148 to R151) -/

/-- HOLDING entered and a visit begun with a telegram count of 0 (R148). -/
def ChannelEngine.enterHolding (ce : ChannelEngine) : ChannelEngine :=
  { ce with state := .holding, visit := some { count := 0, step := .attempts }, pass := none, silenceTimer := none }

/-- Step 2 of a visit: the join count raised, and the target of the call when one is due (R149). -/
def ChannelEngine.joinStep (ce : ChannelEngine) : ChannelEngine × Option Nat :=
  if ce.joinInterval = 0 then ({ ce with joinCount := 0 }, none)
  else if ce.joinInterval ≤ ce.joinCount + 1 ∨ ce.stationList = [] then
    match joinTarget (gapOf ce.own.toNat ce.stationList) ce.joinCursor with
    | some t => ({ ce with joinCount := 0, joinCursor := some t }, some t)
    | none => ({ ce with joinCount := 0 }, none)
  else ({ ce with joinCount := ce.joinCount + 1 }, none)

/-- A join call made ready for the line (R150). -/
def ChannelEngine.callStation (ce : ChannelEngine) (t : Nat) : ChannelEngine :=
  { ce with
    visit := ce.visit.map fun v => { v with step := .joinCall }
    waiting := some { job := .joinCall, telegram := .joinCall ce.own (BitVec.ofNat 8 t) } }

/-- The pass TOKEN made ready for the line (R151). -/
def ChannelEngine.sendToken (ce : ChannelEngine) (p : Pass) : ChannelEngine :=
  { ce with pass := some { p with window := none },
            waiting := some { job := .passToken, telegram := .token ce.own p.station } }

/-- PASSING entered with a successor (R151). -/
def ChannelEngine.startPass (ce : ChannelEngine) (t : Nat) : ChannelEngine :=
  ({ ce with state := .passing, visit := none, silenceTimer := none }).sendToken
    { station := BitVec.ofNat 8 t, second := false, window := none }

/-- The new visit of a pass that found the station list empty (R148, R151): an attempt when a row is pending, else the
join call that is due; with no row pending and no join interval the visits follow one another with nothing to send, and
the channel stays in HOLDING with an unused visit (log entry 13). -/
def ChannelEngine.visitAlone (ce : ChannelEngine) : ChannelEngine :=
  let ce := ce.enterHolding
  if ce.inFlight.isSome || ce.removalWaits then ce
  else if ce.pendingCount ≠ 0 then ce.requestAttempt
  else match ce.joinStep with
    | (ce, some t) => ce.callStation t
    | (ce, none) => ce

/-- The pass of a visit: to the successor, or a new visit when the station list is empty (R151). -/
def ChannelEngine.passOn (ce : ChannelEngine) : ChannelEngine :=
  match successorOf ce.own.toNat ce.stationList with
  | some t => ce.startPass t
  | none => ce.visitAlone

/-- Steps 2 and 3 of a visit (R148). -/
def ChannelEngine.afterAttempts (ce : ChannelEngine) : ChannelEngine :=
  match ce.joinStep with
  | (ce, some t) => ce.callStation t
  | (ce, none) => ce.passOn

/-- Step 1 of a visit (R148): an attempt start is presented while the telegram count is below the budget and a row is
pending; the step waits while an attempt is in flight or awaits its outcome transaction, and while a removal
transaction waits (R78). -/
def ChannelEngine.runAttempts (ce : ChannelEngine) : ChannelEngine :=
  match ce.state, ce.visit with
  | .holding, some v =>
    if v.step ≠ .attempts ∨ ce.inFlight.isSome ∨ ce.removalWaits then ce
    else if v.count < ce.visitBudget ∧ ce.pendingCount ≠ 0 then ce.requestAttempt
    else ce.afterAttempts
  | _, _ => ce

/-- A visit begins (R148). -/
def ChannelEngine.beginVisit (ce : ChannelEngine) : ChannelEngine := ce.enterHolding.runAttempts

/-- The visit had nothing to send and nobody to pass to: it stands at step 1 with no attempt presented, in flight or
owed (R148, log entry 13). -/
def ChannelEngine.visitUnused (ce : ChannelEngine) : Bool :=
  match ce.state, ce.visit with
  | .holding, some v =>
    v.step = .attempts && ce.inFlight.isNone && !ce.removalWaits && !ce.requests.contains .attemptStart
  | _, _ => false

/-- A row that became pending, or a station that joined the list, meets a visit that had nothing to send and nobody to
pass to: the visit that follows it sends or passes (R148, R151, log entry 13). -/
def ChannelEngine.wake (ce : ChannelEngine) : ChannelEngine :=
  if ce.visitUnused && (ce.pendingCount ≠ 0 || ce.stationList ≠ []) then ce.runAttempts.begin else ce

/-- Whether the token logic allows an attempt: step 1 of a visit within its budget, no attempt in flight, no removal
transaction owed (R63, R78, R148). -/
def ChannelEngine.mayAttempt (ce : ChannelEngine) : Bool :=
  match ce.state, ce.visit with
  | .holding, some v =>
    v.step = .attempts && v.count < ce.visitBudget && ce.inFlight.isNone && !ce.removalWaits
  | _, _ => false

/-- A try of the pass has failed: the second try follows, or the station leaves the list and the channel passes again
(R151). -/
def ChannelEngine.tryFailed (ce : ChannelEngine) : ChannelEngine :=
  match ce.pass with
  | some p =>
    if p.second then
      ({ ce with stationList := ce.stationList.filter (fun x => x ≠ p.station.toNat), pass := none
         }.setEvent .stationLost).countFailedPass.passOn
    else ce.sendToken { p with second := true }
  | none => ce

/-! ### Conflicts, SILENT and OFFLINE (R139, R145, R152 to R155) -/

/-- Everything of a visit, a pass or a claim given up: windows, the telegram that waits, and the watch on a mismatch. -/
def ChannelEngine.giveUp (ce : ChannelEngine) : ChannelEngine :=
  { ce with replyWindow := none, pass := none, visit := none, waiting := none, watch := none }

/-- A token conflict (R152). -/
def ChannelEngine.conflict (ce : ChannelEngine) : ChannelEngine :=
  ({ ((ce.endAttempt .lineError).giveUp.setEvent .tokenConflict) with state := .receiving }).restartSilence

/-- The recovery interval started where AUTO_RECOVER is set: it runs out at the (10k+1)th tick (R155, R156). -/
def ChannelEngine.startRecovery (ce : ChannelEngine) : ChannelEngine :=
  { ce with
    recovery := if ce.autoRecover then some (Config.ticksPerRecoveryUnit * ce.recoveryUnits + 1) else none }

/-- SILENT entered (R155). -/
def ChannelEngine.enterSilent (ce : ChannelEngine) : ChannelEngine :=
  ({ ((ce.endAttempt .lineError).giveUp.setEvent .silentEntered) with
     state := .silent, replyQueue := [], silenceTimer := none }).startRecovery

/-- LISTENING entered (R145). -/
def ChannelEngine.enterListening (ce : ChannelEngine) : ChannelEngine :=
  { ce with state := .listening, errorRun := 0, joinCount := 0, joinCursor := none, recovery := none }.restartSilence

/-- The states from which a channel enters SILENT (R154, R155). -/
def ChannelEngine.canFallSilent (ce : ChannelEngine) : Bool :=
  match ce.state with
  | .offline => false
  | .silent => false
  | _ => true

/-- The error run raised by 1, up to 31; at the limit the channel enters SILENT (R154, R155). -/
def ChannelEngine.raiseErrorRun (ce : ChannelEngine) : ChannelEngine :=
  let ce := { ce with errorRun := min Config.errorRunStop (ce.errorRun + 1) }
  if ce.errorRunLimit ≤ ce.errorRun && ce.canFallSilent then ce.enterSilent else ce

/-- The channel returns to the state it claimed from and its silence timer starts afresh (R146). -/
def ChannelEngine.leaveClaim (ce : ChannelEngine) : ChannelEngine :=
  { ce with state := match ce.claimedFrom with
      | .listening => .listening
      | .receiving => .receiving }.restartSilence

/-- The channel goes OFFLINE at once and its send side presents the removal transaction (R77, R139). An attempt in
flight ends ABORTED, which the removal transaction applies. -/
def ChannelEngine.goOffline (ce : ChannelEngine) : ChannelEngine :=
  { ce.giveUp with
    state := .offline
    inFlight := ce.inFlight.map fun f => { f with phase := .ended }
    requests := ce.requests ++ [.removal]
    sending := none, rx := .off, arrivalQueue := [], replyQueue := []
    silenceTimer := none, recovery := none, stationList := [], joinCursor := none }

/-- OFFLINE left for LISTENING: the receive side starts with its wait for one end gap (R121, R138, R140). -/
def ChannelEngine.goOnline (ce : ChannelEngine) : ChannelEngine := { ce with rx := .unsynced }.enterListening

/-- The channel leaves SILENT for LISTENING by recovery (R156). -/
def ChannelEngine.recoverNow (ce : ChannelEngine) : ChannelEngine :=
  if ce.state = .silent then (ce.setEvent .listeningResumed).enterListening else ce

/-! ### Reply windows and pass windows (R129 to R131, R151) -/

/-- The reply window closes without an answer (R130). -/
def ChannelEngine.unanswered (ce : ChannelEngine) : ChannelEngine :=
  match ce.replyWindow with
  | some w =>
    match w.expect with
    | .confirm _ _ _ => { ce with replyWindow := none }.endAttempt .noConfirm
    | .joinReply _ => { ce with replyWindow := none }.passOn
  | none => ce

/-- The reply window closes with its answer (R130, R150). -/
def ChannelEngine.answered (ce : ChannelEngine) : ChannelEngine :=
  match ce.replyWindow with
  | some w =>
    match w.expect with
    | .confirm _ _ _ => { ce with replyWindow := none }.endAttempt .confirmed
    | .joinReply _ => { ce with replyWindow := none }.passOn
  | none => ce

/-- Whether a telegram is what the open reply window expects (R129). -/
def ChannelEngine.answers (ce : ChannelEngine) (t : Telegram) : Bool :=
  match ce.replyWindow with
  | some w =>
    match w.expect, t with
    | .confirm src topic sequence, .confirm q =>
      q.source = src && q.target = ce.own && q.topic = topic && q.sequence = sequence
    | .joinReply src, .joinReply s tgt => s = src && tgt = ce.own
    | _, _ => false
  | none => false

/-- A telegram that held a window open has ended without being the answer: a window whose length has passed closes
without one (R130, R151). -/
def ChannelEngine.closeIfRanOut (ce : ChannelEngine) (inWindow : Bool) : ChannelEngine :=
  if inWindow then
    match ce.replyWindow with
    | some w => if w.ranOut then ce.unanswered else ce
    | none =>
      match ce.pass with
      | some p =>
        match p.window with
        | some w => if w.ranOut then ce.tryFailed else ce
        | none => ce
      | none => ce
  else ce

/-! ### Telegrams received (R125, R127, R142 to R153) -/

/-- A telegram whose source is the own station (R153). The entry into SILENT discards also a window whose length has
passed and which this telegram held open, so that its attempt ends LINE_ERROR (DEDUCED, log entry 24). -/
def ChannelEngine.duplicate (ce : ChannelEngine) : ChannelEngine :=
  match ce.state with
  | .offline => ce
  | .silent => (ce.setEvent .duplicateStation).startRecovery
  | _ => (ce.setEvent .duplicateStation).enterSilent

/-- The arrival a telegram makes, if it is a PUBLISH or a RECALL (R33). -/
def arrivalOf : Telegram → Option Arrival
  | .publish p => some (.publish p)
  | .recall r => some (.recall r)
  | _ => none

/-- A good telegram counted, and offered to the arrival queue if it is a PUBLISH or RECALL; with the queue full it is
counted as a check failure instead (R33, R34, R126). -/
def ChannelEngine.countAndOffer (ce : ChannelEngine) (t : Telegram) : ChannelEngine :=
  match arrivalOf t with
  | some a =>
    if ce.arrivalQueue.length < Config.arrivalPlaces then
      { ce with arrivalQueue := ce.arrivalQueue ++ [a] }.countGood
    else ce.countCheckFailure
  | none => ce.countGood

/-- A CONFIRM or JOIN_REPLY addressed to the own station, which is no token conflict (R152). -/
def ChannelEngine.ownReply (ce : ChannelEngine) (t : Telegram) : Bool :=
  match t with
  | .confirm q => q.target = ce.own
  | .joinReply _ tgt => tgt = ce.own
  | _ => false

/-- The token logic in IN_RING/RECEIVING (R147). -/
def ChannelEngine.receivingTelegram (ce : ChannelEngine) (t : Telegram) : ChannelEngine :=
  match t with
  | .token _ tgt => if tgt = ce.own then ce.beginVisit else ce
  | .joinCall src tgt => if tgt = ce.own then ce.queueReply (.joinReply ce.own src) else ce
  | _ => ce

/-- The token logic in LISTENING (R145). -/
def ChannelEngine.listeningTelegram (ce : ChannelEngine) (t : Telegram) : ChannelEngine :=
  match t with
  | .token _ tgt => if tgt = ce.own then ce.beginVisit else ce
  | .joinCall src tgt =>
    if tgt = ce.own then { ce.queueReply (.joinReply ce.own src) with state := .receiving } else ce
  | _ => ce

/-- The token logic in IN_RING/HOLDING (R130, R152). A token conflict discards also a window whose length has passed,
so that its attempt ends LINE_ERROR (DEDUCED, log entry 24). -/
def ChannelEngine.holdingTelegram (ce : ChannelEngine) (inWindow : Bool) (t : Telegram) : ChannelEngine :=
  if inWindow && ce.answers t then ce.answered
  else if ce.ownReply t then (ce.closeIfRanOut inWindow).wake
  else ce.conflict

/-- Whether a telegram comes from the station passed to, inside the open pass window (R151, R157). -/
def ChannelEngine.fromPassedTo (ce : ChannelEngine) (inWindow : Bool) (t : Telegram) : Bool :=
  match ce.pass with
  | some p => inWindow && p.window.isSome && telegramSource t = p.station
  | none => false

/-- The token logic in IN_RING/PASSING (R151, R152). -/
def ChannelEngine.passingTelegram (ce : ChannelEngine) (inWindow : Bool) (t : Telegram) : ChannelEngine :=
  if ce.fromPassedTo inWindow t then
    { ce with state := .receiving, pass := none, waiting := none }.receivingTelegram t
  else if ce.ownReply t then ce.closeIfRanOut inWindow
  else ce.conflict

/-- The report of a good telegram to the token logic (R127, R142). -/
def ChannelEngine.tokenLogic (ce : ChannelEngine) (inWindow : Bool) (t : Telegram) : ChannelEngine :=
  match ce.state with
  | .listening => ce.listeningTelegram t
  | .claiming => ce.leaveClaim
  | .receiving => ce.receivingTelegram t
  | .holding => ce.holdingTelegram inWindow t
  | .passing => ce.passingTelegram inWindow t
  | .silent => ce
  | .offline => ce

/-- A start bit on the receive line (R120, R130, R144, R152). After an echo mismatch it begins a telegram (R33,
R125); in HOLDING or PASSING it is another transmitter's, a token conflict. -/
def ChannelEngine.startBit (ce : ChannelEngine) : ChannelEngine :=
  if ce.sending.isSome then ce
  else match ce.rx with
    | .off => ce
    | .unsynced => { ce with rx := .resync, silenceTimer := none }
    | .idle => { ce with rx := .receiving ce.windowOpen, silenceTimer := none }
    | .receiving _ => ce
    | .intruding => ce
    | .released =>
      if ce.watch.isSome && (ce.state = .holding || ce.state = .passing) then { ce with rx := .intruding }.conflict
      else { ce with rx := .receiving ce.windowOpen, watch := none, silenceTimer := none }
    | .resync => { ce with silenceTimer := none }

/-- Whether the receive side delivers a telegram that ends now: not while the channel sends, and not before it has its
footing (R121, R125, R128). -/
def ChannelEngine.hears (ce : ChannelEngine) : Bool :=
  ce.sending.isNone && match ce.rx with
    | .idle => true
    | .receiving _ => true
    | .intruding => true
    | .released => true
    | _ => false

/-- The channel engine with the telegram that ends now on its line: one that ends after an echo mismatch with no start
bit before it began just before (log entry 11). -/
def ChannelEngine.hearing (ce : ChannelEngine) : ChannelEngine :=
  match ce.rx with
  | .released => ce.startBit
  | _ => ce

/-- Whether the telegram that ends now began while a window was open. A telegram that ends on a line still idle began
just before (log entry 11). -/
def ChannelEngine.beganInWindow (ce : ChannelEngine) : Bool :=
  match ce.rx with
  | .receiving w => w
  | .intruding => false
  | _ => ce.windowOpen

/-- The effect of a verdict on a telegram that has ended, with whether it began in a window (R125, R127). One whose
start bit was a token conflict is counted, offered and learnt, and the token logic takes no token and no call from it
(R152; DEDUCED for a start bit after an echo mismatch, log entry 23). -/
def ChannelEngine.judged (ce : ChannelEngine) (inWindow intruding : Bool) (v : Verdict) : ChannelEngine :=
  match v with
  | .checkFailure => ce.countCheckFailure.closeIfRanOut inWindow
  | .discarded => ce.countGood.closeIfRanOut inWindow
  | .ownSource => ce.countGood.duplicate
  | .good t =>
    let told := (ce.countAndOffer t).learn (telegramSource t)
    if intruding then told else told.tokenLogic inWindow t

/-- The telegram on the line has ended with a verdict and leaves the receive side so (R120, R125). -/
def ChannelEngine.ends (ce : ChannelEngine) (after : RxState) (v : Verdict) : ChannelEngine :=
  { ce with rx := after }.judged ce.beganInWindow (decide (ce.rx = RxState.intruding)) v

/-- A telegram ends on the line with a verdict (R120, R125). -/
def ChannelEngine.telegramEnds (ce : ChannelEngine) (v : Verdict) : ChannelEngine :=
  if ce.hears then (ce.hearing.ends .idle v).settle else ce

/-- A telegram ends in a framing fault (R121, R125). -/
def ChannelEngine.framingFault (ce : ChannelEngine) (k : FramingCase) : ChannelEngine :=
  if ce.hears then
    let after : RxState := match k with
      | .tooShort => .idle
      | _ => .resync
    let ce := ce.hearing.ends after .checkFailure
    match k with
    | .shortGap => { ce with rx := .receiving ce.windowOpen, silenceTimer := none }
    | _ => ce.settle
  else ce

/-- A mismatch whose line stayed high for the end gap is a line fault: a join call ends without an answer, a try of a
pass has failed, an attempt has ended already (R150 to R152). -/
def ChannelEngine.lineFault (ce : ChannelEngine) : ChannelEngine :=
  match ce.watch, ce.state with
  | some .joinCall, .holding => { ce with watch := none }.passOn
  | some .passToken, .passing => { ce with watch := none }.tryFailed
  | _, _ => { ce with watch := none }

/-- The receive line has stayed high for one end gap: the receive side has its footing, the line is idle, and a
mismatch is a line fault (R121, R128, R152). -/
def ChannelEngine.endGap (ce : ChannelEngine) : ChannelEngine :=
  if ce.sending.isSome then ce
  else match ce.rx with
    | .unsynced => { ce with rx := .idle }.settle
    | .released => { ce with rx := .idle }.lineFault.settle
    | .resync => { ce with rx := .idle }.settle
    | _ => ce

/-! ### Echoes (R128) -/

/-- A telegram of the token logic that stood ready on the idle line has begun: its echo says so (DESIGN CHOICE, log
entry 30). -/
def ChannelEngine.begun (ce : ChannelEngine) (job : TxJob) : ChannelEngine :=
  match ce.waiting with
  | some t =>
    if ce.lineIdle && t.job = job then { ce with sending := some t, waiting := none, silenceTimer := none } else ce
  | none => ce

/-- The transmission under way, if it serves a given job. -/
def ChannelEngine.sendingFor (ce : ChannelEngine) (job : TxJob) : Option Telegram :=
  match ce.sending with
  | some t => if t.job = job then some t.telegram else none
  | none => none

/-- A transmission that ended with a good echo: the line is idle (R120, R128). -/
def ChannelEngine.sentGood (ce : ChannelEngine) : ChannelEngine := { ce with sending := none, rx := .idle }

/-- A transmission that ended with a mismatch: the engine has stopped driving, and the line is not idle until it has
stayed high for the end gap (R128). -/
def ChannelEngine.sentBad (ce : ChannelEngine) (watch : Option TxJob) : ChannelEngine :=
  { ce with sending := none, rx := .released, watch := watch }

/-- A reply window opened, of the configured length (R129). -/
def ChannelEngine.openWindow (ce : ChannelEngine) (e : Expected) : ChannelEngine :=
  { ce with replyWindow := some { expect := e, length := ce.replyWindowSlots * ce.slotBits, ranOut := false } }

/-- The good echo of an attempt (R66, R129). -/
def ChannelEngine.attemptSent (ce : ChannelEngine) : ChannelEngine :=
  match ce.inFlight with
  | some f =>
    if f.phase = .onLine then
      if f.confirm = 0 then ce.endAttempt .sent
      else { ce with inFlight := some { f with phase := .awaitingConfirm } }.openWindow
        (.confirm f.confirm f.topic (f.sequence.getD 0))
    else ce
  | none => ce

/-- The echo of an attempt's telegram (R66, R128). -/
def ChannelEngine.attemptEcho (ce : ChannelEngine) (readBack : List Byte) (clean : Bool) : ChannelEngine :=
  let ce := ce.begun .attempt
  match ce.sendingFor .attempt with
  | some t =>
    if echoGood t readBack clean then ce.sentGood.attemptSent.settle
    else (ce.sentBad (some .attempt)).endAttempt .lineError
  | none => ce

/-- The echo of a join call (R150). -/
def ChannelEngine.joinCallEcho (ce : ChannelEngine) (readBack : List Byte) (clean : Bool) : ChannelEngine :=
  let ce := ce.begun .joinCall
  match ce.sendingFor .joinCall with
  | some t =>
    if echoGood t readBack clean then
      (if ce.state = .holding then ce.sentGood.openWindow (.joinReply (telegramTarget t)) else ce.sentGood).settle
    else ce.sentBad (some .joinCall)
  | none => ce

/-- The pass window opened, of the configured length (R151). -/
def ChannelEngine.openPassWindow (ce : ChannelEngine) : ChannelEngine :=
  { ce with
    pass := ce.pass.map fun p =>
      { p with window := some { length := ce.passTimeoutSlots * ce.slotBits, ranOut := false } } }

/-- The echo of a pass TOKEN (R151). -/
def ChannelEngine.passTokenEcho (ce : ChannelEngine) (readBack : List Byte) (clean : Bool) : ChannelEngine :=
  let ce := ce.begun .passToken
  match ce.sendingFor .passToken with
  | some t =>
    if echoGood t readBack clean then
      ce.sentGood.openPassWindow.settle
    else ce.sentBad (some .passToken)
  | none => ce

/-- The echo of a claim's TOKEN (R146, R154). -/
def ChannelEngine.claimEcho (ce : ChannelEngine) (readBack : List Byte) (clean : Bool) : ChannelEngine :=
  match ce.sendingFor .claim with
  | some t =>
    if echoGood t readBack clean then
      if ce.state = .claiming then
        ({ ce.sentGood with errorRun := 0 }.setEvent .tokenRegenerated).beginVisit.settle
      else ce.sentGood.settle
    else
      let ce := (ce.sentBad none).raiseErrorRun
      if ce.state = .claiming then ce.leaveClaim else ce
  | none => ce

/-- The echo of a reply: good or not, the reply's business ends (R132). -/
def ChannelEngine.replyEcho (ce : ChannelEngine) (readBack : List Byte) (clean : Bool) : ChannelEngine :=
  match ce.sendingFor .reply with
  | some t => if echoGood t readBack clean then ce.sentGood.settle else ce.sentBad none
  | none => ce

/-! ### Line timers and transmissions (R130, R132, R144, R146, R151) -/

/-- A telegram that began while a window was open is on the line. -/
def ChannelEngine.telegramHolds (ce : ChannelEngine) : Bool := ce.rx = .receiving true

/-- An open reply window's length has passed (R130). No received telegram holds the window open while the part's own
reply is on the line, nor after a framing fault or a mismatch before the end gap, and the window closes at once
(DEDUCED, log entry 25). The pass TOKEN of a call without an answer stands ready, so that a start bit can still come
first (R130, log entry 30). -/
def ChannelEngine.replyWindowExpiry (ce : ChannelEngine) : ChannelEngine :=
  match ce.replyWindow with
  | some w =>
    if ce.telegramHolds then { ce with replyWindow := some { w with ranOut := true } } else ce.unanswered
  | none => ce

/-- An open pass window's length has passed (R151). The TOKEN that follows the failed try stands ready, so that a start
bit can still come before it (R157, log entry 30). -/
def ChannelEngine.passWindowExpiry (ce : ChannelEngine) : ChannelEngine :=
  match ce.pass with
  | some p =>
    match p.window with
    | some w =>
      if ce.telegramHolds then { ce with pass := some { p with window := some { w with ranOut := true } } }
      else ce.tryFailed
    | none => ce
  | none => ce

/-- The silence timer runs out and the channel enters CLAIMING (R133, R144, R146). -/
def ChannelEngine.silenceExpiry (ce : ChannelEngine) : ChannelEngine :=
  match ce.silenceTimer, ce.state with
  | some _, .listening =>
    { ce with state := .claiming, claimedFrom := .listening, silenceTimer := none, replyQueue := [] }
  | some _, .receiving =>
    { ce with state := .claiming, claimedFrom := .receiving, silenceTimer := none, replyQueue := [] }
  | _, _ => ce

/-- The claim's TOKEN, addressed to the own station, begins on the idle line (R146). -/
def ChannelEngine.claimTransmit (ce : ChannelEngine) : ChannelEngine :=
  if ce.state = .claiming && ce.lineIdle then
    { ce with sending := some { job := .claim, telegram := .token ce.own ce.own } }
  else ce

/-- The head of the reply queue begins on the idle line (R132). -/
def ChannelEngine.sendReply (ce : ChannelEngine) : ChannelEngine :=
  if ce.lineIdle && ce.sendsReplies then
    match ce.replyQueue with
    | t :: rest =>
      { ce with sending := some { job := .reply, telegram := t }, replyQueue := rest, silenceTimer := none }
    | [] => ce
  else ce

/-- The latest start of the reply at the head has passed: it is discarded unsent, and a telegram of the token logic that
waited for it may begin (R132). With no reply queued the event cannot happen and changes nothing (DESIGN CHOICE, log
entry 8). -/
def ChannelEngine.replyTooLate (ce : ChannelEngine) : ChannelEngine :=
  match ce.replyQueue with
  | _ :: rest => { ce with replyQueue := rest }.begin
  | [] => ce

/-- A tick reaches the channel engine, which counts its recovery interval (R85, R156). -/
def ChannelEngine.recoveryTick (ce : ChannelEngine) : ChannelEngine :=
  { ce with recovery := ce.recovery.map fun n => n - 1 }

/-- The recovery interval runs out once its last tick has come (R156). -/
def ChannelEngine.recoveryExpiry (ce : ChannelEngine) : ChannelEngine :=
  if ce.recovery = some 0 then { ce with recovery := none }.recoverNow else ce

end Sys2Proof.Machine
end

