-- ==== Sys2Proof/Machine/Ops.lean ====
section
/-! DEFINITION. The operations shared by the table transactions: the table controller's rotation (R29), deadlines (R86
to R88), enqueue requests (R56 to R59), the freeing of a row (R22), the application of an attempt's outcome (R68 to R75)
and the end of a command (R160, R162). -/

namespace Sys2Proof.Machine

/-! ### The table controller (R28, R29) -/

/-- The ten requesters in the ring order of R29. -/
def requesters : List Requester :=
  [.cu, .iu, .rx 0, .tx 0, .rx 1, .tx 1, .rx 2, .tx 2, .rx 3, .tx 3]

/-- Whether a requester has a transaction waiting (R28, R34, R88, R160). -/
def State.waits (s : State) : Requester → Bool
  | .cu => s.cu.requested
  | .iu => s.iu.presented.isSome
  | .rx c => !(s.ch c).arrivalQueue.isEmpty
  | .tx c => !(s.ch c).requests.isEmpty

/-- The ring read from the requester that follows a given one (R29). -/
def ringAfter (q : Requester) : List Requester :=
  let k := requesters.idxOf q + 1
  requesters.drop k ++ requesters.take k

/-- The first waiting requester that follows, in ring order, the one served last (R29). -/
def State.firstWaiting (s : State) : Option Requester := (ringAfter s.served).find? s.waits

/-- The requester the table controller takes next: the one it had chosen before later requests arrived, while that one
waits, and else the first waiting one that follows the one served last (R29). -/
def State.nextServed (s : State) : Option Requester :=
  match s.turn with
  | some q => if s.waits q then some q else s.firstWaiting
  | none => s.firstWaiting

/-- A change of the state in which requests may arrive. They come after the request the controller has chosen from those
that wait already: a lone one is taken at once, and after a transaction the next one is chosen as that one ends (R29,
log entry 29). -/
def State.presenting (s : State) (f : State → State) : State :=
  let t := f s
  { t with turn := if requesters.any fun q => t.waits q && !s.waits q then s.nextServed else t.turn }

/-- An event of one channel engine in which it may present a request. -/
def State.onChannel (s : State) (c : Channel) (f : ChannelEngine → ChannelEngine) : State :=
  s.presenting fun s => s.updCh c f

/-- Every channel whose visit had nothing to do meets the rows that have become pending (R148, log entry 13). -/
def State.wakeAll (s : State) : State := { s with channels := s.channels.map ChannelEngine.wake }

/-- A transaction of a requester, applied whole when the table controller takes it, with the next one chosen as it ends;
out of its turn it is not taken and nothing changes (R28, R29, log entry 4). An attempt start that the transaction wakes
on a channel with an unused visit waits already when the next one is chosen, and may so be taken before a request that
has waited longer (DESIGN CHOICE, log entry 29). -/
def State.transact (s : State) (q : Requester) (f : State → State) : State :=
  if s.nextServed = some q then (f { s with served := q, turn := none }).wakeAll else s

/-! ### Deadlines (R86 to R88) -/

/-- A deadline's expiry withdrawn: out of the due list, and void if it is presented (R88). -/
def State.withdraw (s : State) (r : RowId) (k : DeadlineKind) : State :=
  { s with iu := { s.iu with
      dueList := s.iu.dueList.filter fun e => e ≠ { row := r, kind := k }
      presented := s.iu.presented.map fun p =>
        if p.entry = { row := r, kind := k } then { p with void := true } else p } }

/-- A deadline of length n started: it falls due at the (n+1)th tick; with a length of 0 it is left STOPPED (R86). -/
def startedDeadline (n : Nat) : Deadline := if n = 0 then .stopped else .running n (n + 1)

/-- A deadline of a row started or restarted with the length the row holds (R87). -/
def State.startDeadline (s : State) (r : RowId) (k : DeadlineKind) : State :=
  (s.withdraw r k).updRow r fun row => row.withDeadline k (startedDeadline (row.deadlineLength k))

/-- A deadline of a row stopped (R87). -/
def State.stopDeadline (s : State) (r : RowId) (k : DeadlineKind) : State :=
  (s.withdraw r k).updRow r fun row => row.withDeadline k .stopped

/-- All three deadlines of a row stopped (R98). -/
def State.stopDeadlines (s : State) (r : RowId) : State :=
  ((s.stopDeadline r .freshness).stopDeadline r .refresh).stopDeadline r .gap

/-- The interval unit presents the head of the due list when it has no expiry presented (R88). -/
def State.presentDue (s : State) : State :=
  match s.iu.presented, s.iu.dueList with
  | none, e :: rest => { s with iu := { s.iu with dueList := rest, presented := some { entry := e, void := false } } }
  | _, _ => s

/-! ### Enqueue requests (R56 to R61) -/

/-- The nine sources of enqueue requests (R62). -/
inductive Source
  | post
  | sendCommand
  | recallCommand
  | relay
  | recallTelegram
  | refreshExpiry
  | recallOnStale
  | gapRelease
  | renewal
  deriving DecidableEq, Repr

/-- The last result of a row on a channel set. -/
def State.setLastResult (s : State) (r : RowId) (c : Channel) (x : LastResult) : State :=
  s.updRow r fun row => row.updSide c fun d => { d with lastResult := x }

/-- The full drop of R58. -/
def State.fullDrop (s : State) (r : RowId) (c : Channel) : State :=
  ((s.setLastResult r c .droppedFull).record r .sendDropped).updCh c ChannelEngine.countFullDrop

/-- A row joins the tail of its class list on a channel and becomes PENDING (R53, R57). -/
def State.joinList (s : State) (r : RowId) (c : Channel) : State :=
  (s.updRow r fun row => row.updSide c fun d => { d with sendState := .pending }).updCh c fun ce =>
    { ce with lists := ce.lists.set (s.row r).cls (ce.lists.get (s.row r).cls ++ [r]) }

/-- A channel joins a row's held mask and the row becomes HELD there (R11, R57). -/
def State.hold (s : State) (r : RowId) (c : Channel) : State :=
  s.updRow r fun row =>
    { row.updSide c (fun d => { d with sendState := .held }) with heldMask := row.heldMask ||| maskOf c }

/-- An enqueue request on one channel: the first matching line of R57's table. `gap` is the gap-running field as the
request found it when it began (R56). -/
def State.enqueueOn (s : State) (src : Source) (r : RowId) (gap : Bool) (c : Channel) : State × ChannelOutcome :=
  if (s.ch c).refusesRequests then (s.setLastResult r c .channelOff, .channelOff)
  else if (s.row r).entryKind c = .publish ∧ (s.row r).image = none then (s, .noImage)
  else match (s.row r).sendStateOn c with
    | .held => (s, .already)
    | .pending => (s, .already)
    | .inFlight =>
      if src = .post then (s.updRow r fun row => row.updSide c fun d => { d with renewed := true }, .renewed)
      else (s, .already)
    | .idle =>
      if gap then (s.hold r c, .held)
      else if Config.reservations ≤ (s.ch c).reservationCount then (s.fullDrop r c, .droppedFull)
      else (s.joinList r c, .queued)

/-- One named channel of a request applied after the others before it (R56). -/
def State.enqueueNext (src : Source) (r : RowId) (gap : Bool) (mask : ChannelMask)
    (acc : State × Quad ChannelOutcome) (c : Channel) : State × Quad ChannelOutcome :=
  if inMask mask c then
    ((acc.1.enqueueOn src r gap c).1, acc.2.set c (acc.1.enqueueOn src r gap c).2)
  else acc

/-- The inhibit gap and the refresh deadline after a request that made a channel PENDING (R59). -/
def State.afterQueuing (s : State) (r : RowId) : State :=
  let s := if (s.row r).inhibitGap = 0 then s
    else (s.updRow r fun row => { row with gapRunning := true }).startDeadline r .gap
  if (s.row r).role = .produced ∧ (s.row r).refreshPeriod ≠ 0 then s.startDeadline r .refresh else s

/-- Whether some channel's outcome is QUEUED, that is, the request made it PENDING. -/
def anyQueued (o : Quad ChannelOutcome) : Bool :=
  o.q0 = .queued || o.q1 = .queued || o.q2 = .queued || o.q3 = .queued

/-- An enqueue request for a row on a set of channels, with its per-channel results; a row out of service refuses it as
a whole (R56 to R59). -/
def State.enqueue (s : State) (src : Source) (r : RowId) (mask : ChannelMask) : State × Quad ChannelOutcome :=
  if (s.row r).inService then
    let done := allChannels.foldl (State.enqueueNext src r (s.row r).gapRunning mask) (s, Quad.all .notNamed)
    if anyQueued done.2 then (done.1.afterQueuing r, done.2) else done
  else (s, Quad.all .notNamed)

/-! ### Taking a row off its channels (R19, R23, R76) -/

/-- A PENDING row leaves its class list on a channel, CANCELLED (R76). -/
def State.removePending (s : State) (r : RowId) (c : Channel) : State :=
  (s.updRow r fun row => row.updSide c fun d =>
    { d with sendState := .idle, attemptCount := 0, lastResult := .cancelled }).updCh c fun ce => ce.dropRow r

/-- A HELD row leaves a channel of its held mask, CANCELLED (R76). -/
def State.removeHeld (s : State) (r : RowId) (c : Channel) : State :=
  s.updRow r fun row =>
    { row.updSide c (fun d => { d with sendState := .idle, lastResult := .cancelled }) with
      heldMask := maskErase row.heldMask c }

/-- The removal of SUSPEND and RETIRE on one channel: PENDING and HELD rows are taken off (R19, R23). -/
def State.removeOn (s : State) (r : RowId) (c : Channel) : State :=
  match (s.row r).sendStateOn c with
  | .pending => s.removePending r c
  | .held => s.removeHeld r c
  | _ => s

/-- What SUSPEND and RETIRE do to a row on its channels and deadlines (R19, R23). -/
def State.takeOutOfService (s : State) (r : RowId) : State :=
  ((allChannels.foldl (fun s c => s.removeOn r c) s).updRow r fun row =>
    { row with heldMask := 0, gapRunning := false }).stopDeadlines r

/-! ### The topic index and the freeing of a row (R22, R26, R27) -/

/-- The row a topic maps to (R27). -/
def State.lookup (s : State) (topic : Word) : Option RowId :=
  (s.topicIndex.find? fun e => e.1 = topic).map fun e => e.2

/-- The lowest-numbered row that satisfies a condition. -/
def State.firstRow (s : State) (p : RowId → Row → Bool) : Option RowId := allRows.find? fun r => p r (s.row r)

/-- A row made FREE: it leaves the topic index, the attention list and the interval unit, and takes its free values
(R22). -/
def State.freeRow (s : State) (r : RowId) : State :=
  { ((s.stopDeadlines r).updRow r fun _ => Row.free) with
    topicIndex := s.topicIndex.filter fun e => e.2 ≠ r
    attention := s.attention.filter fun e => e.row ≠ r }

/-! ### The end of a command (R160 to R162) -/

/-- The command ends DONE with its row number and results (R160, R161). -/
def State.finish (s : State) (row : Byte) (results : List Word) : State :=
  { s with cu := { s.cu with
      phase := .done, resultCode := .ok, rowNumber := row, results := resultWords results, working := none,
      requested := false, wait := none } }

/-- The command ends REFUSED with a code (R160). -/
def State.refuse (s : State) (code : ResultCode) : State :=
  { s with cu := { s.cu with
      phase := .refused, resultCode := code, rowNumber := 0, working := none, requested := false, wait := none } }

/-- What a waiting CANCEL or RETIRE reports for an outcome (R74, R175). -/
def reportOf (isCancel : Bool) (o : AttemptOutcome) : ChannelOutcome :=
  match o with
  | .sent => if isCancel then .tooLate else .sent
  | .confirmed => if isCancel then .tooLate else .confirmed
  | .noConfirm => if isCancel then .stopped else .noConfirm
  | .lineError => if isCancel then .stopped else .lineError
  | .aborted => if isCancel then .stopped else .aborted

/-- An attempt's end handed to the command that awaits it; the last awaited channel completes the command (R75,
R162). -/
def State.report (s : State) (r : RowId) (c : Channel) (o : AttemptOutcome) : State :=
  match s.cu.wait with
  | some w =>
    if w.row = r ∧ inMask w.awaited c then
      let w := { w with awaited := maskErase w.awaited c, outcomes := w.outcomes.set c (reportOf w.isCancel o) }
      if w.awaited = 0 then s.finish (BitVec.ofNat 8 r.val) (0 :: outcomeWords w.outcomes)
      else { s with cu := { s.cu with wait := some w } }
    else s
  | none => s

/-! ### Outcomes of attempts (R68 to R75) -/

/-- Whether an outcome is retried (R70). -/
def retried (o : AttemptOutcome) (row : Row) (d : Side) (limit : Nat) : Bool :=
  (o = .noConfirm || o = .lineError) && d.attemptCount ≤ limit && !d.cancelRequested && row.inService

/-- The last result an outcome that ends a send records (R69, R71, R72, R74). -/
def resultOf (o : AttemptOutcome) (cancel : Bool) : LastResult :=
  match o with
  | .sent => .sent
  | .confirmed => .confirmed
  | .noConfirm => if cancel then .cancelled else .failedNoConfirm
  | .lineError => if cancel then .cancelled else .failedLine
  | .aborted => .channelOff

/-- A retried row returns to the head of its class list (R70). -/
def State.returnRow (s : State) (r : RowId) (c : Channel) : State :=
  (s.updRow r fun row => row.updSide c fun d =>
    { d with sendState := .pending, renewed := false, cancelRequested := false }).updCh c fun ce =>
      { ce with lists := ce.lists.set (s.row r).cls (r :: ce.lists.get (s.row r).cls) }

/-- The reason and the counter of an outcome that ends a send (R69, R71, R72, R74). -/
def State.recordEnd (s : State) (r : RowId) (c : Channel) (o : AttemptOutcome) (cancel : Bool) : State :=
  match o with
  | .sent => s.record r .sendDone
  | .confirmed => s.record r .sendDone
  | .noConfirm => if cancel then s else (s.record r .sendFailed).updCh c ChannelEngine.countFailedAttempt
  | .lineError => if cancel then s else (s.record r .sendFailed).updCh c ChannelEngine.countFailedAttempt
  | .aborted => s

/-- The send of a row on a channel ends (R69, R71, R72, R74). -/
def State.endSend (s : State) (r : RowId) (c : Channel) (o : AttemptOutcome) (cancel : Bool) : State :=
  (s.updRow r fun row => row.updSide c fun d =>
    { d with sendState := .idle, renewed := false, cancelRequested := false, attemptCount := 0,
             lastResult := resultOf o cancel }).recordEnd r c o cancel

/-- Whether a row is in flight on some channel. -/
def Row.inFlightAnywhere (row : Row) : Bool := allChannels.any fun c => row.sendStateOn c = .inFlight

/-- A RETIRING row in flight on no channel becomes FREE (R24, R75). -/
def State.drainRetiring (s : State) (r : RowId) : State :=
  if (s.row r).state = .retiring ∧ ¬ (s.row r).inFlightAnywhere then s.freeRow r else s

/-- The application of an outcome to a channel's in-flight row (R68 to R75). -/
def State.applyOutcome (s : State) (c : Channel) (o : AttemptOutcome) : State :=
  match (s.ch c).inFlight with
  | none => s
  | some f =>
    let row := s.row f.row
    let d := row.side.get c
    let again := retried o row d (s.ch c).retryLimit
    let s := s.updCh c fun ce => { ce with inFlight := none }
    let s := if again then s.returnRow f.row c else s.endSend f.row c o d.cancelRequested
    let s := if d.renewed && !d.cancelRequested && !again && o ≠ .aborted
      then (s.enqueue .renewal f.row (maskOf c)).1 else s
    (s.report f.row c o).drainRetiring f.row

/-- The outcome handed to the token logic: the error run, and the visit's next step (R148, R154). -/
def ChannelEngine.afterOutcome (ce : ChannelEngine) (o : AttemptOutcome) : ChannelEngine :=
  (match o with
    | .lineError => ce.raiseErrorRun
    | .sent => { ce with errorRun := 0 }
    | .confirmed => { ce with errorRun := 0 }
    | .noConfirm => ce
    | .aborted => ce).runAttempts.begin

/-- The request at the head of a channel's send side leaves it when its transaction is taken. -/
def ChannelEngine.popRequest (ce : ChannelEngine) : ChannelEngine := { ce with requests := ce.requests.drop 1 }

end Sys2Proof.Machine
end

