-- ==== Sys2Proof/Machine/Arrivals.lean ====
section
/-! DEFINITION. The arrival transactions (chapter 2): PUBLISH_ARRIVAL and RECALL_ARRIVAL. -/

namespace Sys2Proof.Machine

/-- The dispositions of a PUBLISH (R35), with the row found. -/
inductive Disposition
  | unclaimed
  | dropped (r : RowId)
  | rejectedLength (r : RowId)
  | rejectedOrder (r : RowId)
  | duplicate (r : RowId)
  | accepted (r : RowId)
  deriving DecidableEq, Repr

/-- Whether the sequence comparison applies: SEQUENCE_CHECK set and the row LIVE (R39). -/
def Row.compares (row : Row) : Bool := row.sequenceCheck && row.state = .live

/-- The judgement of a PUBLISH that has found its row: row state, length, sequence (R37 to R41). -/
def judgeFor (row : Row) (r : RowId) (p : Publish) : Disposition :=
  if ¬ row.inService then .dropped r
  else if p.payload.length ≠ row.length then .rejectedLength r
  else if row.compares then
    if p.sequence - row.sequence = 0 then .duplicate r
    else if (p.sequence - row.sequence).toNat ≤ 127 then .accepted r
    else .rejectedOrder r
  else .accepted r

/-- The judgement of a PUBLISH on a channel in the order lookup, row state, length, sequence (R36 to R41). -/
def State.judgePublish (s : State) (c : Channel) (p : Publish) : Disposition :=
  match s.lookup p.topic with
  | none => .unclaimed
  | some r =>
    if (s.row r).state = .free ∨ (s.row r).role = .produced ∨ ¬ inMask (s.row r).sourceMask c then .unclaimed
    else judgeFor (s.row r) r p

/-- A row's reject count raised (R10). -/
def Row.countReject (row : Row) : Row := { row with rejectCount := satInc row.rejectCount }

/-- What an accepted arrival stores (R42), with the row LIVE (R43). -/
def Row.accept (row : Row) (c : Channel) (p : Publish) : Row :=
  { row with image := some p.payload, sequence := p.sequence, sourceStation := some p.source, arrivalChannel := some c,
             generation := row.generation + 1, age := 0, state := .live }

/-- An accepted arrival: the row, its reasons, its freshness deadline and its relay (R42 to R44). -/
def State.acceptArrival (s : State) (r : RowId) (c : Channel) (p : Publish) : State :=
  let stored := s.updRow r fun row => row.accept c p
  let told := if (s.row r).state = .stale then stored.record r .restored else stored
  (((told.record r .newData).startDeadline r .freshness).enqueue .relay r (s.row r).sendMask).1

/-- The effects of a disposition on the table (R36 to R44). -/
def State.applyDisposition (s : State) (c : Channel) (p : Publish) : Disposition → State
  | .unclaimed => s.updCh c ChannelEngine.countUnclaimed
  | .dropped r => s.updRow r Row.countReject
  | .rejectedLength r => (s.updRow r Row.countReject).record r .rejected
  | .rejectedOrder r => (s.updRow r Row.countReject).record r .rejected
  | .duplicate _ => s
  | .accepted r => s.acceptArrival r c p

/-- Whether the disposition is one a CONFIRM is given for (R46). -/
def Disposition.confirms : Disposition → Bool
  | .duplicate _ => true
  | .accepted _ => true
  | _ => false

/-- The reply decision of a PUBLISH reaches the receive side: a CONFIRM joins the reply queue where the channel sends
replies (R46, R47, R132). -/
def ChannelEngine.decideReply (ce : ChannelEngine) (p : Publish) (d : Disposition) : ChannelEngine :=
  if d.confirms && p.target = ce.own && ce.sendsReplies then
    ce.queueReply (.confirm { source := ce.own, target := p.source, topic := p.topic, sequence := p.sequence })
  else ce

/-- The head of the arrival queue leaves it (R34). -/
def ChannelEngine.popArrival (ce : ChannelEngine) : ChannelEngine := { ce with arrivalQueue := ce.arrivalQueue.drop 1 }

/-- The arrival transaction of a PUBLISH (R35 to R47). -/
def State.publishTransaction (s : State) (c : Channel) (p : Publish) : State :=
  let d := s.judgePublish c p
  (((s.updCh c ChannelEngine.popArrival).applyDisposition c p d).updCh c fun ce => ce.decideReply p d)

/-- PUBLISH_ARRIVAL (R35). -/
def execPublishArrival (c : Channel) (s : State) : Host.Outcome State Fault Refusal :=
  match (s.ch c).arrivalQueue with
  | .publish p :: _ => .next (s.transact (.rx c) fun s => s.publishTransaction c p)
  | _ => .next s

/-- The row a RECALL is taken for: PRODUCED, LIVE, with the channel in its send mask (R48). -/
def State.recallTaken (s : State) (c : Channel) (q : Recall) : Option RowId :=
  match s.lookup q.topic with
  | none => none
  | some r =>
    if (s.row r).role = .produced ∧ inMask (s.row r).sendMask c ∧ (s.row r).state = .live then some r else none

/-- The arrival transaction of a RECALL (R48, R49). -/
def State.recallTransaction (s : State) (c : Channel) (q : Recall) : State :=
  let popped := s.updCh c ChannelEngine.popArrival
  match s.recallTaken c q with
  | some r => (popped.enqueue .recallTelegram r (maskOf c)).1.record r .recalled
  | none => popped

/-- RECALL_ARRIVAL (R48). -/
def execRecallArrival (c : Channel) (s : State) : Host.Outcome State Fault Refusal :=
  match (s.ch c).arrivalQueue with
  | .recall q :: _ => .next (s.transact (.rx c) fun s => s.recallTransaction c q)
  | _ => .next s

end Sys2Proof.Machine
end

