-- ==== Sys2Proof/Machine/Attempts.lean ====
section
/-! DEFINITION. The send side's table transactions and the course of an attempt (chapter 3): ATTEMPT_START,
ATTEMPT_ECHO, REPLY_WINDOW_EXPIRY, ATTEMPT_OUTCOME and REMOVAL_TRANSACTION. -/

namespace Sys2Proof.Machine

/-- The head of the lowest-numbered class list that is not empty, with its class (R63). -/
def ChannelEngine.firstPending (ce : ChannelEngine) : Option (Fin 4 × RowId) :=
  match ce.lists.q0, ce.lists.q1, ce.lists.q2, ce.lists.q3 with
  | r :: _, _, _, _ => some (0, r)
  | [], r :: _, _, _ => some (1, r)
  | [], [], r :: _, _ => some (2, r)
  | [], [], [], r :: _ => some (3, r)
  | [], [], [], [] => none

/-- The snapshot of a row on a channel (R64). -/
def snapshot (row : Row) (r : RowId) (c : Channel) : InFlight :=
  match row.entryKind c with
  | .publish =>
    { row := r, kind := .publish, payload := row.image, sequence := some row.sequence, confirm := row.confirmStation,
      cls := row.cls, topic := row.topic.getD 0, phase := .onLine }
  | .recall =>
    { row := r, kind := .recall, payload := none, sequence := none, confirm := 0, cls := row.cls,
      topic := row.topic.getD 0, phase := .onLine }

/-- The telegram of an attempt, built from its record and the own station (R65). -/
def attemptTelegram (own : Byte) (f : InFlight) : Telegram :=
  match f.kind with
  | .publish =>
    .publish { cls := f.cls, source := own, target := f.confirm, topic := f.topic, sequence := f.sequence.getD 0,
               payload := f.payload.getD [] }
  | .recall => .recall { cls := f.cls, source := own, target := 0, topic := f.topic }

/-- The channel's side of "started": the row leaves its list for the in-flight place, the visit counts a telegram, and
the telegram is ready for the line (R63, R64, R148). -/
def ChannelEngine.startAttempt (ce : ChannelEngine) (k : Fin 4) (f : InFlight) : ChannelEngine :=
  { ce with
    lists := ce.lists.set k ((ce.lists.get k).drop 1)
    inFlight := some f
    visit := ce.visit.map fun (v : Visit) => { v with count := v.count + 1 }
    waiting := some { job := .attempt, telegram := attemptTelegram ce.own f } }.begin

/-- The channel's side of "nothing started": step 1 of the visit ends (R148), unless the token logic no longer holds
the token or an attempt or a removal transaction is still to be applied. -/
def ChannelEngine.nothingStarted (ce : ChannelEngine) : ChannelEngine :=
  match ce.state, ce.visit with
  | .holding, some v =>
    if v.step ≠ .attempts ∨ ce.inFlight.isSome ∨ ce.removalWaits then ce else ce.afterAttempts.begin
  | _, _ => ce

/-- The attempt-start transaction (R63). -/
def State.attemptStartTransaction (s : State) (c : Channel) : State :=
  let popped := s.updCh c ChannelEngine.popRequest
  if (popped.ch c).mayAttempt then
    match (popped.ch c).firstPending with
    | some (k, r) =>
      (popped.updRow r fun row => row.updSide c fun d =>
        { d with sendState := .inFlight, attemptCount := d.attemptCount + 1 }).updCh c fun ce =>
          ce.startAttempt k (snapshot (s.row r) r c)
    | none => popped.updCh c ChannelEngine.nothingStarted
  else popped.updCh c ChannelEngine.nothingStarted

/-- ATTEMPT_START (R63). -/
def execAttemptStart (c : Channel) (s : State) : Host.Outcome State Fault Refusal :=
  match (s.ch c).requests with
  | .attemptStart :: _ => .next (s.transact (.tx c) fun s => s.attemptStartTransaction c)
  | _ => .next s

/-- ATTEMPT_ECHO (R66, R128, R129). -/
def execAttemptEcho (c : Channel) (readBack : List Byte) (clean : Bool) (s : State) :
    Host.Outcome State Fault Refusal :=
  .next (s.onChannel c fun ce => ce.attemptEcho readBack clean)

/-- REPLY_WINDOW_EXPIRY (R130). -/
def execReplyWindowExpiry (c : Channel) (s : State) : Host.Outcome State Fault Refusal :=
  .next (s.onChannel c ChannelEngine.replyWindowExpiry)

/-- The outcome transaction (R68 to R75) and what the token logic makes of the outcome (R148, R154). -/
def State.outcomeTransaction (s : State) (c : Channel) (o : AttemptOutcome) : State :=
  ((s.updCh c ChannelEngine.popRequest).applyOutcome c o).updCh c fun ce => ce.afterOutcome o

/-- ATTEMPT_OUTCOME (R68). -/
def execAttemptOutcome (c : Channel) (s : State) : Host.Outcome State Fault Refusal :=
  match (s.ch c).requests with
  | .outcome o :: _ => .next (s.transact (.tx c) fun s => s.outcomeTransaction c o)
  | _ => .next s

/-- Whether a row stands on one of a channel's class lists. -/
def ChannelEngine.listsContain (ce : ChannelEngine) (r : RowId) : Bool :=
  ce.lists.q0.contains r || ce.lists.q1.contains r || ce.lists.q2.contains r || ce.lists.q3.contains r

/-- What a removal transaction does to one row: off the channel's lists, out of the held mask, CHANNEL_OFF (R77). -/
def Row.removeFrom (row : Row) (c : Channel) (listed : Bool) : Row :=
  let row := if listed then
      row.updSide c fun d => { d with sendState := .idle, attemptCount := 0, lastResult := .channelOff }
    else row
  if inMask row.heldMask c then
    { row.updSide c (fun d => { d with sendState := .idle, lastResult := .channelOff }) with
      heldMask := maskErase row.heldMask c }
  else row

/-- The removal transaction (R77): the lists and the held entries of the channel, then the attempt in flight,
ABORTED. -/
def State.removalTransaction (s : State) (c : Channel) : State :=
  let popped := s.updCh c ChannelEngine.popRequest
  let emptied := (popped.mapRows fun r row => row.removeFrom c ((popped.ch c).listsContain r)).updCh c fun ce =>
    { ce with lists := Quad.all [] }
  (emptied.applyOutcome c .aborted).updCh c fun ce => ce.runAttempts.begin

/-- REMOVAL_TRANSACTION (R77). -/
def execRemovalTransaction (c : Channel) (s : State) : Host.Outcome State Fault Refusal :=
  match (s.ch c).requests with
  | .removal :: _ => .next (s.transact (.tx c) fun s => s.removalTransaction c)
  | _ => .next s

end Sys2Proof.Machine
end

