-- ==== Sys2Proof/Machine/Commands.lean ====
section
/-! DEFINITION. The table transactions of the fourteen commands (chapter 8) and COMMAND_TRANSACTION. -/

namespace Sys2Proof.Machine

/-- The row a parameter block names in PARAM0, when it is in use (NO_ROW otherwise, section 8.2). -/
def State.namedRow (s : State) (p : Vector Word 16) : Option RowId :=
  match rowOfWord p[0] with
  | some r => if (s.row r).state = .free then none else some r
  | none => none

/-- A row number as CMDSTAT holds it. -/
def rowByte (r : RowId) : Byte := BitVec.ofNat 8 r.val

/-! ### DECLARE (R164, R165) and AMEND (R166) -/

/-- BAD_TIMING for the values a row would hold (R164 step 4). -/
def badTiming (role : Role) (freshness refresh : Word) (recallOnStale sequenceCheck : Bool) : Bool :=
  (1 ≤ refresh.toNat && refresh.toNat ≤ 9) ||
    match role with
    | .consumed => refresh != 0
    | .produced => freshness != 0 || recallOnStale || sequenceCheck

/-- BAD_MASK (R164 step 3). -/
def badMask (role : Role) (source send : ChannelMask) : Bool :=
  match role with
  | .consumed => source = 0 || source &&& send ≠ 0
  | .produced => send = 0 || source ≠ 0

/-- The checks of DECLARE that depend on its parameters alone, in order (R164 steps 1 to 4). -/
def declareFault (d : DeclareParams) : Option ResultCode :=
  if d.topic.toNat = 0 ∨ 4094 < d.topic.toNat then some .badTopic
  else if Config.maxLength < d.length then some .badLength
  else if badMask d.role d.sourceMask d.sendMask then some .badMask
  else if badTiming d.role d.freshnessLimit d.refreshPeriod d.recallOnStale d.sequenceCheck then some .badTiming
  else none

/-- The row a DECLARE sets up (R17, R165). -/
def declaredRow (d : DeclareParams) : Row :=
  { Row.free with
    state := if d.initialImage then .live else .awaiting
    topic := some d.topic, role := d.role, cls := d.cls, length := d.length
    sourceMask := d.sourceMask, sendMask := d.sendMask
    image := if d.initialImage then some (d.image.take d.length) else none
    generation := if d.initialImage then 1 else 0
    sequence := if d.initialImage ∧ d.role = .produced then 1 else 0
    freshnessLimit := d.freshnessLimit, refreshPeriod := d.refreshPeriod, inhibitGap := d.inhibitGap
    confirmStation := d.confirmStation, recallOnStale := d.recallOnStale, sequenceCheck := d.sequenceCheck
    attentionMask := d.attentionMask }

/-- A FREE row taken for a declaration: its fields, its index entry, its deadlines (R17). -/
def State.takeRow (s : State) (r : RowId) (d : DeclareParams) : State :=
  let set := s.updRow r fun _ => declaredRow d
  (({ set with topicIndex := set.topicIndex ++ [(d.topic, r)] }).startDeadline r .freshness).startDeadline r .refresh

/-- DECLARE's transaction (R17, R164, R165). -/
def State.declareTransaction (s : State) (p : Vector Word 16) : State :=
  let d := declareParams p
  match declareFault d with
  | some code => s.refuse code
  | none =>
    if (s.lookup d.topic).isSome then s.refuse .topicInUse
    else match s.firstRow fun _ row => row.state = .free with
      | none => s.refuse .tableFull
      | some r => (s.takeRow r d).finish (rowByte r) [rowAndState r (declaredRow d).state]

/-- The row with the fields of AMEND's select set replaced (R166, R199). -/
def amendedRow (row : Row) (p : Vector Word 16) : Row :=
  let select := p[1]
  { row with
    attentionMask := if bitAt select 0 then BitVec.ofNat 8 (field p[2] 0 8) else row.attentionMask
    freshnessLimit := if bitAt select 1 then p[3] else row.freshnessLimit
    refreshPeriod := if bitAt select 2 then p[4] else row.refreshPeriod
    inhibitGap := if bitAt select 3 then BitVec.ofNat 8 (field p[5] 0 8) else row.inhibitGap
    confirmStation := if bitAt select 4 then BitVec.ofNat 8 (field p[5] 8 5) else row.confirmStation
    recallOnStale := if bitAt select 5 then bitAt p[2] 12 else row.recallOnStale
    sequenceCheck := if bitAt select 6 then bitAt p[2] 13 else row.sequenceCheck }

/-- A deadline whose length an AMEND has changed is restarted with the new one, or stopped when it is 0; a SUSPENDED
row's deadlines stay STOPPED (R97). -/
def State.amendDeadline (s : State) (r : RowId) (k : DeadlineKind) (changed : Bool) : State :=
  if changed ∧ (s.row r).state ≠ .suspended then s.startDeadline r k else s

/-- AMEND's result words (R200). -/
def amendResults (r : RowId) (row : Row) : List Word :=
  [rowAndState r row.state,
   bitWord 13 row.sequenceCheck ||| bitWord 12 row.recallOnStale ||| placed row.attentionMask.toNat 0,
   row.freshnessLimit, row.refreshPeriod,
   placed row.confirmStation.toNat 8 ||| placed row.inhibitGap.toNat 0]

/-- AMEND's transaction (R21, R97, R166). -/
def State.amendTransaction (s : State) (p : Vector Word 16) : State :=
  match s.namedRow p with
  | none => s.refuse .noRow
  | some r =>
    let old := s.row r
    let new := amendedRow old p
    if old.state = .retiring then s.refuse .wrongState
    else if badTiming new.role new.freshnessLimit new.refreshPeriod new.recallOnStale new.sequenceCheck then
      s.refuse .badTiming
    else
      (((s.updRow r fun _ => new).amendDeadline r .freshness (old.freshnessLimit ≠ new.freshnessLimit)).amendDeadline r
        .refresh (old.refreshPeriod ≠ new.refreshPeriod)).finish (rowByte r) (amendResults r new)

/-! ### FIND, LIST and FETCH (R167, R168) -/

/-- FIND's transaction (R167). -/
def State.findTransaction (s : State) (p : Vector Word 16) : State :=
  match s.lookup p[0] with
  | some r => s.finish (rowByte r) [rowAndState r (s.row r).state]
  | none => s.refuse .notFound

/-- LIST's transaction (R167). -/
def State.listTransaction (s : State) (p : Vector Word 16) : State :=
  match s.firstRow fun r row => p[0].toNat ≤ r.val ∧ row.state ≠ .free with
  | some r => s.finish (rowByte r) [rowAndState r (s.row r).state, (s.row r).topic.getD 0]
  | none => s.refuse .notFound

/-- The send states of a row, two bits a channel (R200). -/
def sendStateWord (row : Row) : Word :=
  placed (row.sendStateOn 0).code 0 ||| placed (row.sendStateOn 1).code 2 ||| placed (row.sendStateOn 2).code 4 |||
    placed (row.sendStateOn 3).code 6

/-- The last results of a row, four bits a channel (R200). -/
def lastResultWord (row : Row) : Word :=
  placed row.side.q0.lastResult.code 0 ||| placed row.side.q1.lastResult.code 4 |||
    placed row.side.q2.lastResult.code 8 ||| placed row.side.q3.lastResult.code 12

/-- The sixteen words FETCH copies (R168, R200). -/
def fetchResults (row : Row) : List Word :=
  [bitWord 6 row.arrivalChannel.isSome ||| bitWord 5 row.sourceStation.isSome ||| bitWord 4 row.image.isSome |||
     placed row.state.code 0,
   row.topic.getD 0,
   row.generation,
   placed row.sequence.toNat 8 ||| placed ((row.sourceStation.getD 0).toNat % 32) 0,
   row.age,
   sendStateWord row,
   lastResultWord row,
   placed (match row.arrivalChannel with | some c => c.val | none => 0) 8 ||| placed row.rejectCount.toNat 0]
  ++ imageWords (row.image.getD [])

/-- FETCH's transaction (R168). -/
def State.fetchTransaction (s : State) (p : Vector Word 16) : State :=
  match s.namedRow p with
  | none => s.refuse .noRow
  | some r =>
    let done := s.finish (rowByte r) (fetchResults (s.row r))
    if bitAt p[1] 0 then done.updRow r fun row => { row with rejectCount := 0 } else done

/-! ### POST, SEND and RECALL (R169 to R171) -/

/-- What POST stores in a PRODUCED row (R5, R6, R18, R170). -/
def Row.post (row : Row) (bytes : List Byte) : Row :=
  { row with image := some (bytes.take row.length), generation := row.generation + 1,
             sequence := (row.generation + 1).setWidth 8, age := 0, state := .live }

/-- POST's transaction (R170). -/
def State.postTransaction (s : State) (p : Vector Word 16) : State :=
  match s.namedRow p with
  | none => s.refuse .noRow
  | some r =>
    if (s.row r).role = .consumed then s.refuse .wrongRole
    else if (s.row r).state = .suspended ∨ (s.row r).state = .retiring then s.refuse .wrongState
    else
      let stored := s.updRow r fun row => row.post (imageBytes p 1)
      let asked := stored.enqueue .post r (s.row r).sendMask
      asked.1.finish (rowByte r) ((stored.row r).generation :: outcomeWords asked.2)

/-- SEND's transaction (R171). -/
def State.sendTransaction (s : State) (p : Vector Word 16) : State :=
  match s.namedRow p with
  | none => s.refuse .noRow
  | some r =>
    if (s.row r).role = .consumed then s.refuse .wrongRole
    else if (s.row r).state ≠ .live then s.refuse .wrongState
    else
      let asked := s.enqueue .sendCommand r (maskParam p &&& (s.row r).sendMask)
      asked.1.finish (rowByte r) (0 :: outcomeWords asked.2)

/-- RECALL's transaction (R171). -/
def State.recallCommandTransaction (s : State) (p : Vector Word 16) : State :=
  match s.namedRow p with
  | none => s.refuse .noRow
  | some r =>
    if (s.row r).role = .produced then s.refuse .wrongRole
    else if (s.row r).state = .suspended ∨ (s.row r).state = .retiring then s.refuse .wrongState
    else
      let asked := s.enqueue .recallCommand r (maskParam p &&& (s.row r).sourceMask)
      asked.1.finish (rowByte r) (0 :: outcomeWords asked.2)

/-! ### CANCEL, SUSPEND, RESUME and RETIRE (R172 to R175) -/

/-- CANCEL on one channel (R76): the row's place there given up, or the cancel-requested mark set. -/
def State.cancelOn (s : State) (r : RowId) (c : Channel) : State :=
  match (s.row r).sendStateOn c with
  | .pending => s.removePending r c
  | .held => s.removeHeld r c
  | .idle => s
  | .inFlight => s.updRow r fun row => row.updSide c fun d => { d with cancelRequested := true }

/-- The per-channel outcome of a removal by send state, with a given outcome for a row in flight (R172, R173, R175). -/
def removalOutcome (st : SendState) (inFlight : ChannelOutcome) : ChannelOutcome :=
  match st with
  | .pending => .removed
  | .held => .removed
  | .idle => .notQueued
  | .inFlight => inFlight

/-- The per-channel outcomes of a removal on the channels of a mask; the others were not acted on (R161). -/
def Row.removalOutcomes (row : Row) (mask : ChannelMask) (inFlight : ChannelOutcome) : Quad ChannelOutcome :=
  Quad.tabulate fun c => if inMask mask c then removalOutcome (row.sendStateOn c) inFlight else .notNamed

/-- The channels of a mask on which a row is in flight. -/
def Row.inFlightMask (row : Row) (mask : ChannelMask) : ChannelMask :=
  allChannels.foldl (fun m c => if inMask mask c ∧ row.sendStateOn c = .inFlight then m ||| maskOf c else m) 0

/-- The command ends now, or waits for its awaited channels (R162). -/
def State.finishOrWait (s : State) (isCancel : Bool) (r : RowId) (awaited : ChannelMask)
    (outcomes : Quad ChannelOutcome) : State :=
  if awaited = 0 then s.finish (rowByte r) (0 :: outcomeWords outcomes)
  else { s with cu := { s.cu with
      requested := false, wait := some { isCancel := isCancel, row := r, awaited := awaited, outcomes := outcomes } } }

/-- CANCEL's transaction (R76, R161, R172). -/
def State.cancelTransaction (s : State) (p : Vector Word 16) : State :=
  match s.namedRow p with
  | none => s.refuse .noRow
  | some r =>
    let row := s.row r
    let mask := maskParam p &&& (row.sourceMask ||| row.sendMask)
    (allChannels.foldl (fun s c => if inMask mask c then s.cancelOn r c else s) s).finishOrWait true r
      (row.inFlightMask mask) (row.removalOutcomes mask .notNamed)

/-- SUSPEND's transaction (R19, R161, R173). -/
def State.suspendTransaction (s : State) (p : Vector Word 16) : State :=
  match s.namedRow p with
  | none => s.refuse .noRow
  | some r =>
    let row := s.row r
    if row.state = .suspended ∨ row.state = .retiring then s.refuse .wrongState
    else
      ((s.takeOutOfService r).updRow r fun row => { row with state := .suspended }).finish (rowByte r)
        (0 :: outcomeWords (row.removalOutcomes (row.sourceMask ||| row.sendMask) .running))

/-- The state a SUSPENDED row comes back in (R20). -/
def resumedState (row : Row) : RowState :=
  if row.image = none then .awaiting
  else match row.role with
    | .consumed => .stale
    | .produced => .live

/-- The deadline RESUME starts (R20). -/
def resumedDeadline (row : Row) : DeadlineKind :=
  match row.role with
  | .consumed => .freshness
  | .produced => .refresh

/-- RESUME's transaction (R20, R174). -/
def State.resumeTransaction (s : State) (p : Vector Word 16) : State :=
  match s.namedRow p with
  | none => s.refuse .noRow
  | some r =>
    let row := s.row r
    if row.state ≠ .suspended then s.refuse .wrongState
    else
      ((s.updRow r fun row => { row with state := resumedState row }).startDeadline r (resumedDeadline row)).finish
        (rowByte r) [rowAndState r (resumedState row)]

/-- RETIRE's transaction (R23, R161, R175). -/
def State.retireTransaction (s : State) (p : Vector Word 16) : State :=
  match s.namedRow p with
  | none => s.refuse .noRow
  | some r =>
    let row := s.row r
    if row.state = .retiring then s.refuse .wrongState
    else
      let awaited := row.inFlightMask 15
      let out := s.takeOutOfService r
      (if awaited = 0 then out.freeRow r else out.updRow r fun row => { row with state := .retiring }).finishOrWait
        false r awaited (row.removalOutcomes (row.sourceMask ||| row.sendMask) .notNamed)

/-! ### TAKE and CLEAR TABLE (R176, R177) -/

/-- TAKE's transaction (R108, R176). -/
def State.takeTransaction (s : State) : State :=
  match s.attention with
  | e :: rest =>
    { s with attention := rest }.finish (rowByte e.row)
      [placed e.row.val 0, placed e.reasons.toNat 0, (s.row e.row).generation]
  | [] => s.refuse .empty

/-- A channel is not OFFLINE, or its removal transaction still waits (R25, R177). -/
def State.channelsOnline (s : State) : Bool :=
  allChannels.any fun c => (s.ch c).state ≠ .offline || (s.ch c).removalWaits

/-- CLEAR TABLE's transaction (R25, R177). -/
def State.clearTransaction (s : State) : State :=
  if s.channelsOnline then s.refuse .channelsOnline
  else
    { s with
      rows := Vector.replicate 256 Row.free, topicIndex := [], attention := []
      iu := { s.iu with
        dueList := [], presented := s.iu.presented.map fun (q : Presented) => { q with void := true } } }.finish 0 []

/-! ### The command's one transaction (R160) -/

/-- The transaction of a command with its working copy (R160). -/
def State.commandTransaction (s : State) (k : CommandKind) (p : Vector Word 16) : State :=
  match k with
  | .declare => s.declareTransaction p
  | .amend => s.amendTransaction p
  | .find => s.findTransaction p
  | .list => s.listTransaction p
  | .fetch => s.fetchTransaction p
  | .post => s.postTransaction p
  | .send => s.sendTransaction p
  | .recall => s.recallCommandTransaction p
  | .cancel => s.cancelTransaction p
  | .suspend => s.suspendTransaction p
  | .resume => s.resumeTransaction p
  | .retire => s.retireTransaction p
  | .take => s.takeTransaction
  | .clearTable => s.clearTransaction

/-- COMMAND_TRANSACTION (R160). -/
def execCommandTransaction (s : State) : Host.Outcome State Fault Refusal :=
  match s.cu.requested, CommandKind.ofCode s.cu.code, s.cu.working with
  | true, some k, some p => .next (s.transact .cu fun s => s.commandTransaction k p)
  | _, _, _ => .next s

end Sys2Proof.Machine
end

