-- ==== Sys2Proof/Machine/Registers.lean ====
section
/-! DEFINITION. The port's words and their owners (chapter 9): what each address of each page reads, and what a word
completed there does. -/

namespace Sys2Proof.Machine

/-! ### Reading (R183, R195, R196) -/

/-- CMDSTAT as it reads (R198). -/
def CommandUnit.stat (cu : CommandUnit) : Word :=
  placed cu.rowNumber.toNat 8 ||| bitWord 7 cu.overrun ||| placed cu.resultCode.code 2 ||| placed cu.phase.code 0

/-- GSTAT as it reads (R190, R195). -/
def State.gstat (s : State) : Word := bitWord 15 (s.resetCause = .soft) ||| placed s.attention.length 0

/-- The word behind an address of the global page (R195); none where there is none. -/
def State.readGlobal (s : State) (addr : Nat) : Option Word :=
  if addr = 0x00 then some Config.ident
  else if addr = 0x01 then some (bitWord 0 s.attnEnable)
  else if addr = 0x02 then some s.gstat
  else if 0x10 ≤ addr ∧ addr ≤ 0x1F then some (s.cu.params.toList.getD (addr - 0x10) 0)
  else if addr = 0x20 then some s.cu.code
  else if addr = 0x21 then some s.cu.stat
  else if 0x22 ≤ addr ∧ addr ≤ 0x31 then some (s.cu.results.toList.getD (addr - 0x22) 0)
  else none

/-- CHnSTATE as it reads (R196). -/
def ChannelEngine.stateWord (ce : ChannelEngine) : Word :=
  placed ce.pendingCount 10 ||| bitWord 9 ce.inFlight.isSome ||| placed ce.errorRun 4 ||| placed ce.state.code 0

/-- The station list's bits from station `first` up, sixteen of them (R196). -/
def stationWord (l : List Nat) (first : Nat) : Word :=
  (List.range 16).foldl (fun w k => if l.contains (first + k) then w ||| bitWord k true else w) 0

/-- The word behind an address of a channel page (R196); none where there is none. -/
def ChannelEngine.readWord (ce : ChannelEngine) (addr : Nat) : Option Word :=
  match addr with
  | 0x00 => some (bitWord 0 ce.enable)
  | 0x01 => some ce.cfgA
  | 0x02 => some ce.cfgB
  | 0x03 => some ce.cfgC1
  | 0x04 => some ce.cfgC2
  | 0x05 => some ce.stateWord
  | 0x06 => some (ce.event.setWidth 16)
  | 0x07 => some (ce.eventEnable.setWidth 16)
  | 0x08 => some (stationWord ce.stationList 0)
  | 0x09 => some (stationWord ce.stationList 16)
  | 0x10 => some ce.counters.goodTelegrams
  | 0x11 => some ce.counters.checkFailures
  | 0x12 => some ce.counters.unclaimedPublishes
  | 0x13 => some ce.counters.fullDrops
  | 0x14 => some ce.counters.failedAttempts
  | 0x15 => some ce.counters.failedPasses
  | _ => none

/-- The word behind an address of a page; the ALL_CHANNELS page has none to read (R188). -/
def State.readWord (s : State) (page : Page) (addr : Nat) : Option Word :=
  match page with
  | .global => s.readGlobal addr
  | .ch c => (s.ch c).readWord addr
  | .allChannels => none

/-! ### The control words of a channel (R137 to R141, R189) -/

/-- ENABLE set from 0 to 1 (R138). -/
def ChannelEngine.enableNow (ce : ChannelEngine) : ChannelEngine :=
  if ce.configValid then { ce with enable := true }.goOnline else ce.setEvent .configError

/-- ENABLE cleared from 1 to 0 (R139). -/
def ChannelEngine.disableNow (ce : ChannelEngine) : ChannelEngine := { ce with enable := false }.goOffline

/-- The RESTART strobe (R140). -/
def ChannelEngine.restartNow (ce : ChannelEngine) : ChannelEngine := if ce.enable then ce.goOffline.goOnline else ce

/-- A CHnCTRL word completes: the counters cleared where it says so; then a change of ENABLE, or else RESTART, or else
RECOVER (R138 to R141, R156, R189). -/
def ChannelEngine.writeControl (ce : ChannelEngine) (v : Word) : ChannelEngine :=
  let ce := if bitAt v 6 then { ce with counters := Counters.zero } else ce
  if bitAt v 0 ≠ ce.enable then (if bitAt v 0 then ce.enableNow else ce.disableNow)
  else if bitAt v 4 then ce.restartNow
  else if bitAt v 5 then ce.recoverNow
  else ce

/-- A configuration word completes: taken while the channel is OFFLINE, else ignored with CONFIG_REFUSED set (R137). -/
def State.writeConfig (s : State) (c : Channel) (w : ConfigWord) (data mask : Word) : State :=
  if (s.ch c).state = .offline then s.updCh c fun ce => ce.storeConfig w (formed (ce.config w) data mask)
  else s.setConfigRefused

/-- A word completes at a writable address of a channel page (R115, R137 to R141, R184, R185). -/
def State.writeChannel (s : State) (c : Channel) (addr : Nat) (data mask : Word) : State :=
  match addr with
  | 0x00 => s.updCh c fun ce => ce.writeControl (formed (bitWord 0 ce.enable) data mask)
  | 0x01 => s.writeConfig c .cfgA data mask
  | 0x02 => s.writeConfig c .cfgB data mask
  | 0x03 => s.writeConfig c .cfgCFirst data mask
  | 0x04 => s.writeConfig c .cfgCSecond data mask
  | 0x07 => s.updCh c fun ce =>
      { ce with eventEnable := (formed (ce.eventEnable.setWidth 16) data mask).setWidth 9 }
  | _ => s

/-- The writable addresses of a channel page (R196). -/
def channelWritable (addr : Nat) : Bool := addr ≤ 0x04 || addr = 0x07

/-! ### The command window (R158, R159) -/

/-- The command unit with a CMDCODE word taken: the code stored, OVERRUN cleared, the results cleared (R159). -/
def CommandUnit.taken (cu : CommandUnit) (code : Word) : CommandUnit :=
  { cu with code := code, overrun := false, results := Vector.replicate 16 0, rowNumber := 0 }

/-- A CMDCODE word completes (R159); CLEAR TABLE makes its first check at once (R177). -/
def State.writeCode (s : State) (code : Word) : State :=
  if s.cu.phase = .busy then { s with cu := { s.cu with overrun := true } }
  else match CommandKind.ofCode code with
    | none => { s with cu := s.cu.taken code }.refuse .unknownCommand
    | some k =>
      if k = .clearTable ∧ s.channelsOnline then { s with cu := s.cu.taken code }.refuse .channelsOnline
      else { s with cu := { s.cu.taken code with
          phase := .busy, resultCode := .none, working := some s.cu.params, requested := true, wait := none } }

/-! ### Resets (R32, R103, R136, R158, R163, R190 to R192) -/

/-- Every block in its reset state, with a reset cause and a port phase; the queue of waiting commands is the model's
own and stays (log entry 17). -/
def State.resetBlocks (s : State) (cause : ResetCause) (phase : PortPhase) : State :=
  { State.reset with
    resetCause := cause
    port := Port.reset phase
    pending := s.pending }

/-! ### A word completes on a page (R184, R185, R188) -/

/-- A word completes on the global page (R158, R159, R184, R190, R191). -/
def State.writeGlobal (s : State) (addr : Nat) (data mask : Word) : State :=
  if addr = 0x01 then
    let v := formed (bitWord 0 s.attnEnable) data mask
    if bitAt v 15 then s.resetBlocks .soft .discarding else { s with attnEnable := bitAt v 0 }
  else if h : 0x10 ≤ addr ∧ addr ≤ 0x1F then
    { s with cu := { s.cu with
        params := s.cu.params.set (addr - 0x10)
          (formed (s.cu.params.toList.getD (addr - 0x10) 0) data mask) (by omega) } }
  else if addr = 0x20 then s.presenting fun s => s.writeCode (formed s.cu.code data mask)
  else s.setPortError

/-- A word completes at an address of a page; `none` is a transaction that runs as if no address had a word behind it
(R182, R184, R185, R188). -/
def State.writeWord (s : State) (page : Option Page) (addr : Nat) (data mask : Word) : State :=
  match page with
  | none => s
  | some .global => s.writeGlobal addr data mask
  | some (.ch c) =>
    if channelWritable addr then s.presenting fun s => s.writeChannel c addr data mask else s.setPortError
  | some .allChannels =>
    if channelWritable addr then
      s.presenting fun s => allChannels.foldl (fun s c => s.writeChannel c addr data mask) s
    else s.setPortError

end Sys2Proof.Machine
end

