-- ==== Sys2Proof/Machine/Port.lean ====
section
/-! DEFINITION. The management port (chapter 9): transactions, their operations and ends, and the commands that are
words of a transaction. -/

namespace Sys2Proof.Machine

/-! ### The transaction in progress -/

/-- The operation and page of a transaction whose next word may be at an address: any address after the control byte
(the word brings its address byte), the current one in a burst (R183, R184). -/
def State.wordAt (s : State) (addr : Byte) : Option (PortOp × Option Page) :=
  match s.port.phase with
  | .addressNext op page => some (op, page)
  | .atWord op page a => if a = addr then some (op, page) else none
  | _ => none

/-- Whether the open transaction is on a page of a kind. After the last bit of a MASKED WRITE or COMPARE any further
bits count (R185, R186). -/
def State.openOn (s : State) (p : Page → Bool) : Bool :=
  match s.port.phase with
  | .addressNext _ (some page) => p page
  | .atWord _ (some page) _ => p page
  | .finished => true
  | _ => false

/-- The global page. -/
def Page.isGlobal : Page → Bool
  | .global => true
  | _ => false

/-- A channel page or ALL_CHANNELS. -/
def Page.isChannel : Page → Bool
  | .global => false
  | _ => true

/-- The port in a phase, with the bytes it has shifted out. -/
def State.portTo (s : State) (phase : PortPhase) (out : List Byte) : State :=
  { s with port := { s.port with phase := phase, shiftedOut := out } }

/-- What SDO carries before the data of the next word: the 0 of the address byte, where that byte comes first (R179). -/
def Port.addressOut (p : Port) : List Byte :=
  match p.phase with
  | .addressNext _ _ => [0]
  | _ => []

/-- Bits clocked while the transaction takes none: after the last bit of a MASKED WRITE or COMPARE they set PORT_ERROR
(R185, R186); while SEL is high and after a reset they do nothing (R179, R191, R192). -/
def State.strayBits (s : State) : State := if s.port.phase = .finished then s.setPortError else s

/-! ### Words (R183 to R186) -/

/-- The port after a word has been handed to its owner: SEL keeps the transaction open, but a soft reset takes nothing
more (R191). -/
def State.wordDone (s : State) (phase : PortPhase) (out : List Byte) : State :=
  s.portTo (if s.port.phase = .discarding then .discarding else phase) out

/-- A WRITE or MASKED WRITE word completes (R184, R185). SDO shifts 0. -/
def State.portWrite (s : State) (addr : Byte) (data mask : Word) : State :=
  match s.wordAt addr with
  | some (.write, page) =>
    (s.writeWord page addr.toNat data (BitVec.allOnes 16)).wordDone (.atWord .write page (addr + 1))
      (s.port.addressOut ++ [0, 0])
  | some (.maskedWrite, page) =>
    (s.writeWord page addr.toNat data mask).wordDone .finished (s.port.addressOut ++ [0, 0, 0, 0])
  | some (.read, _) => s
  | some (.compare, _) => s
  | none => s.strayBits

/-- The last bit of a CHnEVENT word has been shifted out: the flags that were 1 in the value shifted out are cleared
(R113). -/
def State.clearReported (s : State) (c : Channel) (reported : BitVec 9) : State :=
  s.updCh c fun ce => { ce with event := ce.event &&& ~~~ reported }

/-- The state after a READ word that was shifted out whole with no event inside: only CHnEVENT is cleared (R113,
R183). -/
def State.afterWord (s : State) (page : Page) (addr : Nat) : State :=
  match page, addr with
  | .ch c, 0x06 => s.clearReported c (s.ch c).event
  | _, _ => s

/-- A READ goes on at the next word's boundary, with the bytes of this one shifted out (R183). -/
def State.readOn (s : State) (page : Option Page) (addr : Byte) (out : List Byte) : State :=
  s.portTo (.atWord .read page (addr + 1)) out

/-- A READ word completes (R183). -/
def State.portRead (s : State) (addr : Byte) : State :=
  let lead := s.port.addressOut
  match s.wordAt addr with
  | some (.read, none) => s.readOn none addr (lead ++ [0, 0])
  | some (.read, some page) =>
    match s.readWord page addr.toNat with
    | some w => (s.afterWord page addr.toNat).readOn (some page) addr (lead ++ wordBytes w)
    | none => s.setPortError.readOn (some page) addr (lead ++ [0, 0])
  | some (.write, _) => s
  | some (.maskedWrite, _) => s
  | some (.compare, _) => s
  | none => s.strayBits

/-- The first bit of a CHnEVENT word: the word is taken for output as it stands (R113). An address byte before it is
complete, its 0 the last SDO carried (R179). -/
def State.takeEvents (s : State) : State :=
  match s.wordAt 0x06 with
  | some (.read, some (.ch c)) =>
    s.portTo (.inEvents c (s.ch c).event) (if s.port.addressOut = [] then s.port.shiftedOut else s.port.addressOut)
  | some _ => s
  | none => s.strayBits

/-- The last bit of a CHnEVENT word that was taken for output at its first: that value has been shifted out, and its
flags are cleared (R113). -/
def State.eventsShifted (s : State) : State :=
  match s.port.phase with
  | .inEvents c taken => (s.clearReported c taken).readOn (some (.ch c)) 0x06 (wordBytes (taken.setWidth 16))
  | _ => s.strayBits

/-- The result byte of a COMPARE (R186). -/
def compareByte (returned expected mask : Word) : Byte := if (returned ^^^ expected) &&& mask = 0 then 1 else 0

/-- A COMPARE completes (R186): the returned word, two zero bytes under the mask, the result byte, after the address
byte's 0. -/
def State.portCompare (s : State) (addr : Byte) (expected mask : Word) : State :=
  match s.wordAt addr with
  | some (.compare, none) => s.portTo .finished (s.port.addressOut ++ [0, 0, 0, 0, 0])
  | some (.compare, some page) =>
    match s.readWord page addr.toNat with
    | some w => s.portTo .finished (s.port.addressOut ++ wordBytes w ++ [0, 0, compareByte w expected mask])
    | none => s.setPortError.portTo .finished (s.port.addressOut ++ [0, 0, 0, 0, 0])
  | some (.read, _) => s
  | some (.write, _) => s
  | some (.maskedWrite, _) => s
  | none => s.strayBits

/-! ### The control byte and the end of a transaction (R180, R182, R187) -/

/-- The operation of a control byte (R182). -/
def controlOp (control : Byte) : PortOp :=
  match control.toNat / 64 with
  | 0 => .read
  | 1 => .write
  | 2 => .maskedWrite
  | _ => .compare

/-- The page of a control byte (R182); codes 6 and 7 name none. -/
def controlPage (control : Byte) : Option Page :=
  match control.toNat / 8 % 8 with
  | 0 => some .global
  | 1 => some (.ch 0)
  | 2 => some (.ch 1)
  | 3 => some (.ch 2)
  | 4 => some (.ch 3)
  | 5 => some .allChannels
  | _ => none

/-- The page a transaction runs on: a READ or COMPARE on ALL_CHANNELS runs as if no address had a word behind it
(R182, R188). -/
def effectivePage (op : PortOp) (page : Option Page) : Option Page :=
  match op, page with
  | .read, some .allChannels => none
  | .compare, some .allChannels => none
  | _, p => p

/-- SEL has risen before it falls anew: at a boundary of whatever transaction came before (log entry 10), but inside the
word where CHnEVENT is being shifted out (R187). -/
def State.selRose (s : State) : State :=
  match s.port.phase with
  | .inEvents _ _ => s.setPortError
  | _ => s

/-- PORT_STATUS_BYTE (R180 to R182, R188): the status byte is shifted out, the sticky flags it reported are cleared, and
the page is judged. A new fall of SEL ends whatever transaction came before. A PORT_ERROR that the byte carries as 1 is
cleared even where its own page sets it again at the eighth clock, since the byte has already reported it (R180; that
the page's error falls under R180's second order is DEDUCED, log entry 26). The byte is the one that stands as the piece
completes (log entry 2). -/
def execPortStatusByte (control : Byte) (s : State) : Host.Outcome State Fault Refusal :=
  let op := controlOp control
  let page := effectivePage op (controlPage control)
  let fallen := s.selRose
  .next { s with port := { s.port with
    phase := .addressNext op page, portError := page.isNone && !fallen.port.portError, configRefused := false
    shiftedOut := [fallen.statusByte] } }

/-- Whether SEL rising `bits` clocks after the last completed piece ends the transaction inside a piece (R187), or after
bits clocked past its last one (R185, R186); `none` where so many clocks would have completed a further piece, or so few
would not have begun the CHnEVENT word now being shifted out. Exactly
after the address byte no operation's end is an error (DEDUCED, log entry 27), nor is a rise of SEL with no clock after
its fall (DEDUCED, log entry 28). -/
def endsInside (phase : PortPhase) (bits : Nat) : Option Bool :=
  match phase with
  | .deselected => if bits < 8 then some (bits ≠ 0) else none
  | .addressNext op _ =>
    let data := match op with
      | .read => 16
      | .write => 16
      | .maskedWrite => 32
      | .compare => 40
    if bits < 8 + data then some (bits ≠ 0 && bits ≠ 8) else none
  | .atWord _ _ _ => if bits < 16 then some (bits ≠ 0) else none
  | .inEvents _ _ => if bits ≠ 0 ∧ bits < 16 then some true else none
  | .finished => some (bits ≠ 0)
  | .discarding => some false

/-- The port when SEL rises `bits` clocks after the last completed piece: what was completed stands, an address byte
among it, whose 0 SDO carried last, and the partial piece is discarded (R179, R187). -/
def Port.ended (p : Port) (bits : Nat) (inside : Bool) : Port :=
  { p with
    phase := .deselected, portError := p.portError || inside
    shiftedOut := if 8 ≤ bits ∧ p.addressOut ≠ [] then p.addressOut else p.shiftedOut }

/-- END_INSIDE_TRANSACTION (R179, R187): SEL rises. -/
def execEndInsideTransaction (bits : Nat) (s : State) : Host.Outcome State Fault Refusal :=
  match endsInside s.port.phase bits with
  | some inside => .next { s with port := s.port.ended bits inside }
  | none => .next s

/-! ### The word commands -/

/-- REGISTER_WRITE (R184, R185, R188). -/
def execRegisterWrite (addr : Byte) (data mask : Word) (s : State) : Host.Outcome State Fault Refusal :=
  .next (s.portWrite addr data mask)

/-- COMPARE (R186). -/
def execCompare (addr : Byte) (expected mask : Word) (s : State) : Host.Outcome State Fault Refusal :=
  .next (s.portCompare addr expected mask)

/-- READ_AT_ABSENT_ADDRESS (R183); at an address with a word behind it the READ returns the word. -/
def execReadAtAbsentAddress (addr : Byte) (s : State) : Host.Outcome State Fault Refusal := .next (s.portRead addr)

/-- A word of a transaction on pages of a kind. -/
def State.wordOn (s : State) (p : Page → Bool) (f : State → State) : State := if s.openOn p then f s else s

/-- EVENT_READ (R113, R118, R183): a READ of CHnEVENT, the word taken for output at its first bit and its flags cleared
at its last. A `lastBit` with no word taken, and a `whole` or `firstBit` inside one, cannot happen and change nothing
(log entry 8). -/
def execEventRead (s : State) (part : ReadPart := .whole) : Host.Outcome State Fault Refusal :=
  .next (match part with
    | .whole => s.wordOn Page.isChannel fun s => s.portRead 0x06
    | .firstBit => s.wordOn Page.isChannel State.takeEvents
    | .lastBit => s.eventsShifted)

/-- ATTN_ENABLE (R117, R190): a GCTRL word without the strobe. -/
def execAttnEnable (data mask : Word) (s : State) : Host.Outcome State Fault Refusal :=
  .next (s.wordOn Page.isGlobal fun s => s.portWrite 0x01 (data &&& 0x7FFF) mask)

/-- SOFT_RESET (R189, R191): a GCTRL word with the strobe. -/
def execSoftReset (data mask : Word) (s : State) : Host.Outcome State Fault Refusal :=
  .next (s.wordOn Page.isGlobal fun s => s.portWrite 0x01 (data ||| 0x8000) (mask ||| 0x8000))

/-- EVENT_ENABLE_WRITE (R115, R188): a CHnEVENTEN word. -/
def execEventEnableWrite (data mask : Word) (s : State) : Host.Outcome State Fault Refusal :=
  .next (s.wordOn Page.isChannel fun s => s.portWrite 0x07 data mask)

/-- The address of a configuration word (R196). -/
def ConfigWord.address : ConfigWord → Byte
  | .cfgA => 0x01
  | .cfgB => 0x02
  | .cfgCFirst => 0x03
  | .cfgCSecond => 0x04

/-- CONFIG_WRITE (R137, R188). -/
def execConfigWrite (word : ConfigWord) (data mask : Word) (s : State) : Host.Outcome State Fault Refusal :=
  .next (s.wordOn Page.isChannel fun s => s.portWrite (ConfigWord.address word) data mask)

/-- A CHnCTRL word completes. -/
def State.controlWord (s : State) (data mask : Word) : State :=
  s.wordOn Page.isChannel fun s => s.portWrite 0x00 data mask

/-- CHANNEL_ENABLE (R138): a CHnCTRL word with ENABLE 1. -/
def execChannelEnable (data mask : Word) (s : State) : Host.Outcome State Fault Refusal :=
  .next (s.controlWord (data ||| 0x0001) (mask ||| 0x0001))

/-- CHANNEL_DISABLE (R139): a CHnCTRL word with ENABLE 0. -/
def execChannelDisable (data mask : Word) (s : State) : Host.Outcome State Fault Refusal :=
  .next (s.controlWord (data &&& 0xFFFE) (mask ||| 0x0001))

/-- RESTART (R140): a CHnCTRL word with the RESTART strobe. -/
def execRestart (data mask : Word) (s : State) : Host.Outcome State Fault Refusal :=
  .next (s.controlWord (data ||| 0x0010) (mask ||| 0x0010))

/-- RECOVER (R156): a CHnCTRL word with the RECOVER strobe. -/
def execRecover (data mask : Word) (s : State) : Host.Outcome State Fault Refusal :=
  .next (s.controlWord (data ||| 0x0020) (mask ||| 0x0020))

/-- CLEAR_COUNTERS (R141): a CHnCTRL word with the CLEAR_COUNTERS strobe. -/
def execClearCounters (data mask : Word) (s : State) : Host.Outcome State Fault Refusal :=
  .next (s.controlWord (data ||| 0x0040) (mask ||| 0x0040))

/-- PIN_RESET (R192): RST held low and released. With SEL low at the release the port takes nothing until SEL rises. -/
def execPinReset (selLow : Bool) (s : State) : Host.Outcome State Fault Refusal :=
  .next (s.resetBlocks .pin (if selLow then .discarding else .deselected))

/-! ### CMDCODE words (R159) -/

/-- A CMDCODE word of a formed value completes (R159, R185). -/
def State.codeWord (s : State) (code : Word) : State :=
  s.wordOn Page.isGlobal fun s => s.portWrite 0x20 code (BitVec.allOnes 16)

/-- DECLARE (R159, R164): the command is accepted; its transaction is COMMAND_TRANSACTION (R160). -/
def execDeclare (s : State) : Host.Outcome State Fault Refusal := .next (s.codeWord 1)

/-- AMEND (R159, R166). -/
def execAmend (s : State) : Host.Outcome State Fault Refusal := .next (s.codeWord 2)

/-- FIND (R159, R167). -/
def execFind (s : State) : Host.Outcome State Fault Refusal := .next (s.codeWord 3)

/-- LIST (R159, R167). -/
def execList (s : State) : Host.Outcome State Fault Refusal := .next (s.codeWord 4)

/-- FETCH (R159, R168). -/
def execFetch (s : State) : Host.Outcome State Fault Refusal := .next (s.codeWord 5)

/-- POST (R159, R170). -/
def execPost (s : State) : Host.Outcome State Fault Refusal := .next (s.codeWord 6)

/-- SEND (R159, R171). -/
def execSend (s : State) : Host.Outcome State Fault Refusal := .next (s.codeWord 7)

/-- RECALL (R159, R171). -/
def execRecall (s : State) : Host.Outcome State Fault Refusal := .next (s.codeWord 8)

/-- CANCEL (R159, R172). -/
def execCancel (s : State) : Host.Outcome State Fault Refusal := .next (s.codeWord 9)

/-- SUSPEND (R159, R173). -/
def execSuspend (s : State) : Host.Outcome State Fault Refusal := .next (s.codeWord 10)

/-- RESUME (R159, R174). -/
def execResume (s : State) : Host.Outcome State Fault Refusal := .next (s.codeWord 11)

/-- RETIRE (R159, R175). -/
def execRetire (s : State) : Host.Outcome State Fault Refusal := .next (s.codeWord 12)

/-- TAKE (R159, R176). -/
def execTake (s : State) : Host.Outcome State Fault Refusal := .next (s.codeWord 13)

/-- CLEAR_TABLE (R159, R177): refused at once when a channel is not OFFLINE or owes its removal. -/
def execClearTable (s : State) : Host.Outcome State Fault Refusal := .next (s.codeWord 14)

/-- UNKNOWN_COMMAND (R159). -/
def execUnknownCommand (code : Word) (s : State) : Host.Outcome State Fault Refusal := .next (s.codeWord code)

end Sys2Proof.Machine
end

