-- ==== Sys2Proof/Machine/Receive.lean ====
section
/-! DEFINITION. What reaches a channel's receive line (chapters 2, 6 and 7): telegrams that complete, framing faults,
start bits and end gaps. -/

namespace Sys2Proof.Machine

/-- A telegram completes on channel c and is judged (R125). -/
def State.hear (s : State) (c : Channel) (t : Telegram) : State :=
  s.onChannel c fun ce => ce.telegramEnds (judgeTelegram ce.own t)

/-- A telegram of these bytes completes on channel c and is judged (R125). -/
def State.hearBytes (s : State) (c : Channel) (bytes : List Byte) : State :=
  s.onChannel c fun ce => ce.telegramEnds (judgeBytes ce.own bytes)

/-- PUBLISH_RECEIVED (R33, R34, R125, R152, R153). -/
def execPublishReceived (c : Channel) (p : Publish) (s : State) : Host.Outcome State Fault Refusal :=
  .next (s.hear c (.publish p))

/-- RECALL_RECEIVED (R33, R34, R125, R152, R153). -/
def execRecallReceived (c : Channel) (q : Recall) (s : State) : Host.Outcome State Fault Refusal :=
  .next (s.hear c (.recall q))

/-- CONFIRM_RECEIVED (R127, R130). -/
def execConfirmReceived (c : Channel) (q : Confirm) (s : State) : Host.Outcome State Fault Refusal :=
  .next (s.hear c (.confirm q))

/-- TOKEN_RECEIVED: a TOKEN addressed to the own station (R145 to R148, R152). -/
def execTokenReceived (c : Channel) (source : Byte) (s : State) : Host.Outcome State Fault Refusal :=
  .next (s.hear c (.token source (s.ch c).own))

/-- JOIN_CALL_RECEIVED: a JOIN_CALL addressed to the own station (R132, R145, R147, R152). -/
def execJoinCallReceived (c : Channel) (source : Byte) (s : State) : Host.Outcome State Fault Refusal :=
  .next (s.hear c (.joinCall source (s.ch c).own))

/-- JOIN_REPLY_RECEIVED: a JOIN_REPLY addressed to the own station (R130, R150). -/
def execJoinReplyReceived (c : Channel) (source : Byte) (s : State) : Host.Outcome State Fault Refusal :=
  .next (s.hear c (.joinReply source (s.ch c).own))

/-- UNMATCHED_RING_TELEGRAM (R142, R146, R147, R151, R152). -/
def execUnmatchedRingTelegram (c : Channel) (kind : RingKind) (source target : Byte) (s : State) :
    Host.Outcome State Fault Refusal :=
  match kind with
  | .token => .next (s.hear c (.token source target))
  | .joinCall => .next (s.hear c (.joinCall source target))
  | .joinReply => .next (s.hear c (.joinReply source target))

/-- CHECK_FAILURE (R124, R125). -/
def execCheckFailure (c : Channel) (bytes : List Byte) (s : State) : Host.Outcome State Fault Refusal :=
  .next (s.hearBytes c bytes)

/-- UNKNOWN_KIND_TELEGRAM (R122, R125). -/
def execUnknownKindTelegram (c : Channel) (bytes : List Byte) (s : State) : Host.Outcome State Fault Refusal :=
  .next (s.hearBytes c bytes)

/-- FRAMING_FAULT (R121, R125). -/
def execFramingFault (c : Channel) (kind : FramingCase) (s : State) : Host.Outcome State Fault Refusal :=
  .next (s.onChannel c fun ce => ce.framingFault kind)

/-- START_BIT (R120, R130, R144, R152). -/
def execStartBit (c : Channel) (s : State) : Host.Outcome State Fault Refusal :=
  .next (s.onChannel c ChannelEngine.startBit)

/-- END_GAP (R121, R128, R152). -/
def execEndGap (c : Channel) (s : State) : Host.Outcome State Fault Refusal :=
  .next (s.onChannel c ChannelEngine.endGap)

end Sys2Proof.Machine
end

