-- ==== Sys2Proof/Machine/Ring.lean ====
section
/-! DEFINITION. The token ring's own events (chapter 7) and the replies (R132). -/

namespace Sys2Proof.Machine

/-- SEND_REPLY (R132). -/
def execSendReply (c : Channel) (s : State) : Host.Outcome State Fault Refusal :=
  .next (s.updCh c ChannelEngine.sendReply)

/-- REPLY_LATEST_START (R132). -/
def execReplyLatestStart (c : Channel) (s : State) : Host.Outcome State Fault Refusal :=
  .next (s.updCh c ChannelEngine.replyTooLate)

/-- REPLY_ECHO (R128, R132). -/
def execReplyEcho (c : Channel) (readBack : List Byte) (clean : Bool) (s : State) :
    Host.Outcome State Fault Refusal :=
  .next (s.updCh c fun ce => ce.replyEcho readBack clean)

/-- JOIN_CALL_ECHO (R128, R129, R150). -/
def execJoinCallEcho (c : Channel) (readBack : List Byte) (clean : Bool) (s : State) :
    Host.Outcome State Fault Refusal :=
  .next (s.updCh c fun ce => ce.joinCallEcho readBack clean)

/-- PASS_TOKEN_ECHO (R128, R151). -/
def execPassTokenEcho (c : Channel) (readBack : List Byte) (clean : Bool) (s : State) :
    Host.Outcome State Fault Refusal :=
  .next (s.updCh c fun ce => ce.passTokenEcho readBack clean)

/-- PASS_WINDOW_EXPIRY (R151). -/
def execPassWindowExpiry (c : Channel) (s : State) : Host.Outcome State Fault Refusal :=
  .next (s.onChannel c ChannelEngine.passWindowExpiry)

/-- SILENCE_TIMER_EXPIRY (R144). -/
def execSilenceTimerExpiry (c : Channel) (s : State) : Host.Outcome State Fault Refusal :=
  .next (s.updCh c ChannelEngine.silenceExpiry)

/-- CLAIM_TRANSMIT (R146). -/
def execClaimTransmit (c : Channel) (s : State) : Host.Outcome State Fault Refusal :=
  .next (s.updCh c ChannelEngine.claimTransmit)

/-- CLAIM_ECHO (R128, R146, R154). -/
def execClaimEcho (c : Channel) (readBack : List Byte) (clean : Bool) (s : State) :
    Host.Outcome State Fault Refusal :=
  .next (s.onChannel c fun ce => ce.claimEcho readBack clean)

end Sys2Proof.Machine
end

