-- ==== Sys2Proof/Machine/Time.lean ====
section
/-! DEFINITION. The interval unit (chapter 4): TICK, DEADLINE_DUE, the three expiries and RECOVERY_INTERVAL_EXPIRY. -/

namespace Sys2Proof.Machine

/-- A deadline has reached its (d+1)th tick and has not yet joined the due list (R86, R88). -/
def Deadline.atLastTick : Deadline → Bool
  | .running _ 0 => true
  | _ => false

/-- One tick of a deadline (R86). -/
def Deadline.advance : Deadline → Deadline
  | .running d (n + 1) => .running d n
  | d => d

/-- A deadline that falls due (R86). -/
def Deadline.fallDue : Deadline → Deadline
  | .running d _ => .due d
  | d => d

/-- Whether a deadline is DUE (R86). -/
def Deadline.isDue : Deadline → Bool
  | .due _ => true
  | _ => false

/-- The deadlines that have reached their last tick, in the order in which they join the due list: by row number, then
freshness, refresh, inhibit gap (R88). -/
def State.fallen (s : State) : List DueEntry :=
  allRows.flatMap fun r =>
    (deadlineKinds.filter fun k => ((s.row r).deadline k).atLastTick).map fun k => { row := r, kind := k }

/-- A deadline becomes DUE and joins the tail of the due list (R88). -/
def State.makeDue (s : State) (e : DueEntry) : State :=
  let s := s.updRow e.row fun row => row.withDeadline e.kind (row.deadline e.kind).fallDue
  { s with iu := { s.iu with dueList := s.iu.dueList ++ [e] } }

/-- DEADLINE_DUE: the next of them in order becomes DUE (R88). -/
def execDeadlineDue (s : State) : Host.Outcome State Fault Refusal :=
  match s.fallen with
  | e :: _ => .next (s.presenting fun s => (s.makeDue e).presentDue)
  | [] => .next s

/-- One tick of a row: its age and its three deadlines (R85, R86, R99). -/
def Row.tick (row : Row) : Row :=
  { row with
    age := if row.state = .free then row.age else satInc row.age
    freshness := row.freshness.advance
    refresh := row.refresh.advance
    gap := row.gap.advance }

/-- One tick of the interval unit and of the recovery intervals (R85). What an earlier tick made fall due has fallen due
before this one: it is completed first (log entry 3). -/
def State.tick (s : State) : State :=
  let s := (s.fallen.foldl State.makeDue s).presentDue
  let s := s.mapRows fun _ row => row.tick
  { s with
    channels := s.channels.map fun ce => ce.recoveryExpiry.recoveryTick
    iu := { s.iu with tickCount := s.iu.tickCount + 1 } }

/-- TICK (R85). -/
def execTick (s : State) : Host.Outcome State Fault Refusal := .next (s.presenting State.tick)

/-- The presented expiry leaves the table controller. -/
def State.clearPresented (s : State) : State := { s with iu := { s.iu with presented := none } }

/-- An expiry transaction: it is applied when it has not been voided and its deadline is DUE, and the interval unit
presents its next expiry after it (R88, R89). -/
def State.expiryTransaction (s : State) (k : DeadlineKind) (p : Presented) (apply : State → RowId → State) : State :=
  let s := s.clearPresented
  (if !p.void && ((s.row p.entry.row).deadline k).isDue then apply s p.entry.row else s).presentDue

/-- A presented expiry of a given deadline taken by the table controller (R89). -/
def State.takeExpiry (s : State) (k : DeadlineKind) (apply : State → RowId → State) : State :=
  match s.iu.presented with
  | some p => if p.entry.kind = k then s.transact .iu fun s => s.expiryTransaction k p apply else s
  | none => s

/-- A CONSUMED row's move into STALE (R91). -/
def State.goStale (s : State) (r : RowId) : State :=
  if (s.row r).role = .consumed ∧ ((s.row r).state = .live ∨ (s.row r).state = .awaiting) then
    (s.updRow r fun row => { row with state := .stale }).record r .stale
  else s

/-- An applied freshness expiry (R91, R92). -/
def State.applyFreshness (s : State) (r : RowId) : State :=
  let s := (s.goStale r).startDeadline r .freshness
  if (s.row r).recallOnStale then (s.enqueue .recallOnStale r (s.row r).sourceMask).1 else s

/-- FRESHNESS_EXPIRY (R89, R91). -/
def execFreshnessExpiry (s : State) : Host.Outcome State Fault Refusal :=
  .next (s.takeExpiry .freshness State.applyFreshness)

/-- An applied refresh expiry (R94). -/
def State.applyRefresh (s : State) (r : RowId) : State :=
  (if (s.row r).image.isSome then (s.enqueue .refreshExpiry r (s.row r).sendMask).1 else s).startDeadline r .refresh

/-- REFRESH_EXPIRY (R89, R94). -/
def execRefreshExpiry (s : State) : Host.Outcome State Fault Refusal :=
  .next (s.takeExpiry .refresh State.applyRefresh)

/-- The held channels of a row released: the held mask emptied, the row IDLE on each, the gap not running (R96). -/
def Row.release (row : Row) : Row :=
  { row with
    gapRunning := false, heldMask := 0, gap := .stopped
    side := Quad.tabulate fun c =>
      if inMask row.heldMask c then { row.side.get c with sendState := .idle } else row.side.get c }

/-- An applied inhibit gap expiry (R96). -/
def State.applyGap (s : State) (r : RowId) : State :=
  let released := s.updRow r Row.release
  if (s.row r).heldMask = 0 then released else (released.enqueue .gapRelease r (s.row r).heldMask).1

/-- INHIBIT_GAP_EXPIRY (R89, R96). -/
def execInhibitGapExpiry (s : State) : Host.Outcome State Fault Refusal :=
  .next (s.takeExpiry .gap State.applyGap)

/-- RECOVERY_INTERVAL_EXPIRY (R156). -/
def execRecoveryIntervalExpiry (c : Channel) (s : State) : Host.Outcome State Fault Refusal :=
  .next (s.updCh c ChannelEngine.recoveryExpiry)

end Sys2Proof.Machine
end

