-- ==== Sys2Proof/Machine/Dispatch.lean ====
section
/-! DEFINITION. One arm per command: its meaning. -/

namespace Sys2Proof.Machine

/-- The effect of a command on the part. -/
def exec (i : Instr) (s : State) : Host.Outcome State Fault Refusal :=
  match i with
  | .pinReset selLow => Sys2Proof.Machine.execPinReset selLow s
  | .softReset data mask => Sys2Proof.Machine.execSoftReset data mask s
  | .portStatusByte control => Sys2Proof.Machine.execPortStatusByte control s
  | .endInsideTransaction bits => Sys2Proof.Machine.execEndInsideTransaction bits s
  | .registerWrite addr data mask => Sys2Proof.Machine.execRegisterWrite addr data mask s
  | .compare addr expected mask => Sys2Proof.Machine.execCompare addr expected mask s
  | .eventRead part => Sys2Proof.Machine.execEventRead s part
  | .attnEnable data mask => Sys2Proof.Machine.execAttnEnable data mask s
  | .eventEnableWrite data mask => Sys2Proof.Machine.execEventEnableWrite data mask s
  | .configWrite word data mask => Sys2Proof.Machine.execConfigWrite word data mask s
  | .channelEnable data mask => Sys2Proof.Machine.execChannelEnable data mask s
  | .channelDisable data mask => Sys2Proof.Machine.execChannelDisable data mask s
  | .restart data mask => Sys2Proof.Machine.execRestart data mask s
  | .recover data mask => Sys2Proof.Machine.execRecover data mask s
  | .clearCounters data mask => Sys2Proof.Machine.execClearCounters data mask s
  | .declare => Sys2Proof.Machine.execDeclare s
  | .amend => Sys2Proof.Machine.execAmend s
  | .find => Sys2Proof.Machine.execFind s
  | .list => Sys2Proof.Machine.execList s
  | .fetch => Sys2Proof.Machine.execFetch s
  | .post => Sys2Proof.Machine.execPost s
  | .send => Sys2Proof.Machine.execSend s
  | .recall => Sys2Proof.Machine.execRecall s
  | .cancel => Sys2Proof.Machine.execCancel s
  | .suspend => Sys2Proof.Machine.execSuspend s
  | .resume => Sys2Proof.Machine.execResume s
  | .retire => Sys2Proof.Machine.execRetire s
  | .take => Sys2Proof.Machine.execTake s
  | .clearTable => Sys2Proof.Machine.execClearTable s
  | .unknownCommand code => Sys2Proof.Machine.execUnknownCommand code s
  | .commandTransaction => Sys2Proof.Machine.execCommandTransaction s
  | .tick => Sys2Proof.Machine.execTick s
  | .deadlineDue => Sys2Proof.Machine.execDeadlineDue s
  | .freshnessExpiry => Sys2Proof.Machine.execFreshnessExpiry s
  | .refreshExpiry => Sys2Proof.Machine.execRefreshExpiry s
  | .inhibitGapExpiry => Sys2Proof.Machine.execInhibitGapExpiry s
  | .recoveryIntervalExpiry c => Sys2Proof.Machine.execRecoveryIntervalExpiry c s
  | .publishReceived c p => Sys2Proof.Machine.execPublishReceived c p s
  | .recallReceived c r => Sys2Proof.Machine.execRecallReceived c r s
  | .confirmReceived c q => Sys2Proof.Machine.execConfirmReceived c q s
  | .tokenReceived c source => Sys2Proof.Machine.execTokenReceived c source s
  | .joinCallReceived c source => Sys2Proof.Machine.execJoinCallReceived c source s
  | .joinReplyReceived c source => Sys2Proof.Machine.execJoinReplyReceived c source s
  | .checkFailure c bytes => Sys2Proof.Machine.execCheckFailure c bytes s
  | .framingFault c kind => Sys2Proof.Machine.execFramingFault c kind s
  | .publishArrival c => Sys2Proof.Machine.execPublishArrival c s
  | .recallArrival c => Sys2Proof.Machine.execRecallArrival c s
  | .sendReply c => Sys2Proof.Machine.execSendReply c s
  | .replyLatestStart c => Sys2Proof.Machine.execReplyLatestStart c s
  | .replyEcho c readBack clean => Sys2Proof.Machine.execReplyEcho c readBack clean s
  | .attemptStart c => Sys2Proof.Machine.execAttemptStart c s
  | .attemptEcho c readBack clean => Sys2Proof.Machine.execAttemptEcho c readBack clean s
  | .replyWindowExpiry c => Sys2Proof.Machine.execReplyWindowExpiry c s
  | .attemptOutcome c => Sys2Proof.Machine.execAttemptOutcome c s
  | .joinCallEcho c readBack clean => Sys2Proof.Machine.execJoinCallEcho c readBack clean s
  | .passTokenEcho c readBack clean => Sys2Proof.Machine.execPassTokenEcho c readBack clean s
  | .passWindowExpiry c => Sys2Proof.Machine.execPassWindowExpiry c s
  | .silenceTimerExpiry c => Sys2Proof.Machine.execSilenceTimerExpiry c s
  | .claimTransmit c => Sys2Proof.Machine.execClaimTransmit c s
  | .claimEcho c readBack clean => Sys2Proof.Machine.execClaimEcho c readBack clean s
  | .removalTransaction c => Sys2Proof.Machine.execRemovalTransaction c s
  | .startBit c => Sys2Proof.Machine.execStartBit c s
  | .endGap c => Sys2Proof.Machine.execEndGap c s
  | .unknownKindTelegram c bytes => Sys2Proof.Machine.execUnknownKindTelegram c bytes s
  | .unmatchedRingTelegram c kind source target => Sys2Proof.Machine.execUnmatchedRingTelegram c kind source target s
  | .readAtAbsentAddress addr => Sys2Proof.Machine.execReadAtAbsentAddress addr s

end Sys2Proof.Machine
end

