-- ==== Sys2Proof/Machine/Pins.lean ====
section
/-! DEFINITION. The part's output pins (R193), read from its state. The input pins are the commands' own: SEL, SCK and
SDI are the transactions of the port, RST is PIN_RESET, REFCLK is TICK, and LRX0 to LRX3 are the telegrams, start bits
and end gaps of the lines and the echoes read back on them. -/

namespace Sys2Proof.Machine

/-- A pin's level. -/
inductive Level
  | low
  | high
  deriving DecidableEq, Repr

/-- The level of a bit that is driven. -/
def levelOf (b : Bool) : Level := if b then .high else .low

/-- ATTN, driven low while asserted (R116, R193). -/
def State.attnPin (s : State) : Level := levelOf (!s.attn)

/-- SEL is low: a transaction is open, or the port waits for SEL to rise (R179, R192). -/
def Port.selLow (p : Port) : Bool := p.phase ≠ .deselected

/-- A byte on a wire of the port, most significant bit first (R179). -/
def portBits (b : Byte) : List Level := [7, 6, 5, 4, 3, 2, 1, 0].map fun k => levelOf (b.getLsbD k)

/-- SDO: high impedance while SEL is high (R179, R193); while SEL is low the levels it was driven through in the last
completed piece (log entry 20). -/
def Port.sdo (p : Port) : Option (List Level) := if p.selLow then some (p.shiftedOut.flatMap portBits) else none

/-- The output pins (R193). -/
structure Pins where
  attn : Level
  /-- none is high impedance -/
  sdo : Option (List Level)
  /-- the levels of the transmission under way on each line; none while the engine does not drive it -/
  ltx : Quad (List Level)
  /-- whether each line's transmit enable is asserted -/
  ltxen : Quad Bool
  deriving DecidableEq, Repr

/-- The output pins in a state (R116, R128, R179, R193). -/
def State.pins (s : State) : Pins where
  attn := s.attnPin
  sdo := s.port.sdo
  ltx := Quad.tabulate fun c => (s.ch c).ltx.map levelOf
  ltxen := Quad.tabulate fun c => (s.ch c).ltxen

end Sys2Proof.Machine
end

