-- ==== Sys2Proof/WellFormed.lean ====
section
/-! DEFINITION. Which commands of `Instr` are ones the table's rows describe: the bounds on their operands. -/

namespace Sys2Proof

/-- A source station on the line, 1 to 31 (R33, R125). -/
def stationInRange (b : Byte) : Bool := 1 ≤ b.toNat && b.toNat ≤ Config.maxStation

/-- An echo read back holds at most the 25 bytes of the longest telegram (R122). -/
def echoSized (readBack : List Byte) : Bool := readBack.length ≤ 25

/-- A completed telegram of these bytes fails its check or its size test (R125, tests 2 and 3). -/
def failsCheck (bytes : List Byte) : Bool :=
  5 ≤ bytes.length && bytes.length ≤ 25 && decide (Machine.parseTelegram bytes = .bad)

/-- A completed check-good telegram of these bytes is of unknown kind, or its source is 0 or above 31 (R125, tests 4
and 5). -/
def discardedAsGood (bytes : List Byte) : Bool :=
  match Machine.parseTelegram bytes with
  | .bad => false
  | .unknownKind => true
  | .known t => !stationInRange (Machine.telegramSource t)

/-- The operands of a command are in the ranges its row allows. -/
def Instr.wellFormed : Instr → Bool
  | .pinReset _ => true
  | .softReset _ _ => true
  | .portStatusByte _ => true
  | .endInsideTransaction bits => bits < 48
  | .registerWrite _ _ _ => true
  | .compare _ _ _ => true
  | .eventRead _ => true
  | .attnEnable _ _ => true
  | .eventEnableWrite _ _ => true
  | .configWrite _ _ _ => true
  | .channelEnable _ _ => true
  | .channelDisable _ _ => true
  | .restart _ _ => true
  | .recover _ _ => true
  | .clearCounters _ _ => true
  | .declare => true
  | .amend => true
  | .find => true
  | .list => true
  | .fetch => true
  | .post => true
  | .send => true
  | .recall => true
  | .cancel => true
  | .suspend => true
  | .resume => true
  | .retire => true
  | .take => true
  | .clearTable => true
  | .unknownCommand code => (Machine.CommandKind.ofCode code).isNone
  | .commandTransaction => true
  | .tick => true
  | .deadlineDue => true
  | .freshnessExpiry => true
  | .refreshExpiry => true
  | .inhibitGapExpiry => true
  | .recoveryIntervalExpiry _ => true
  | .publishReceived _ p => stationInRange p.source && decide (p.payload.length ≤ Config.maxLength)
  | .recallReceived _ r => stationInRange r.source
  | .confirmReceived _ q => stationInRange q.source
  | .tokenReceived _ source => stationInRange source
  | .joinCallReceived _ source => stationInRange source
  | .joinReplyReceived _ source => stationInRange source
  | .checkFailure _ bytes => failsCheck bytes
  | .framingFault _ _ => true
  | .publishArrival _ => true
  | .recallArrival _ => true
  | .sendReply _ => true
  | .replyLatestStart _ => true
  | .replyEcho _ readBack _ => echoSized readBack
  | .attemptStart _ => true
  | .attemptEcho _ readBack _ => echoSized readBack
  | .replyWindowExpiry _ => true
  | .attemptOutcome _ => true
  | .joinCallEcho _ readBack _ => echoSized readBack
  | .passTokenEcho _ readBack _ => echoSized readBack
  | .passWindowExpiry _ => true
  | .silenceTimerExpiry _ => true
  | .claimTransmit _ => true
  | .claimEcho _ readBack _ => echoSized readBack
  | .removalTransaction _ => true
  | .startBit _ => true
  | .endGap _ => true
  | .unknownKindTelegram _ bytes => discardedAsGood bytes
  | .unmatchedRingTelegram _ _ source _ => stationInRange source
  | .readAtAbsentAddress _ => true

end Sys2Proof
end

