-- ==== Sys2Proof/Safety.lean ====
section
/-! DEFINITION. What the manual promises of every state of the part: the invariants of a channel engine, of a row, of
the attention list, of the topic index, of the agreement between rows and channels, and of the due list. -/

namespace Sys2Proof.Machine

/-- What the manual promises of a channel engine at all times. -/
structure ChannelEngine.Ok (ce : ChannelEngine) : Prop where
  /-- pending rows and the in-flight row together are at most 24 (R54) -/
  reservations : ce.reservationCount ≤ 24
  /-- the arrival queue holds at most 4 (R34) -/
  arrivals : ce.arrivalQueue.length ≤ 4
  /-- the reply queue holds at most 4 (R132) -/
  replies : ce.replyQueue.length ≤ 4
  /-- the reply queue is empty while CLAIMING, SILENT or OFFLINE (R133) -/
  quiet : ce.sendsReplies = false → ce.replyQueue = []
  /-- the error run stops at 31 (R154) -/
  errorRun : ce.errorRun ≤ 31
  /-- the join count is 0 to 254 (R149) -/
  joinCount : ce.joinCount ≤ 254
  /-- the station list is ascending, without duplicates (R142) -/
  ascending : ce.stationList.Pairwise (fun a b => a < b)
  /-- its members are stations other than the own one (R142) -/
  others : ∀ n ∈ ce.stationList, 1 ≤ n ∧ n ≤ 31 ∧ n ≠ ce.own.toNat
  /-- ENABLE is set exactly while the channel is not OFFLINE (R136, R138, R139) -/
  enabled : ce.enable = true ↔ ce.state ≠ .offline
  /-- a channel that is not OFFLINE has a configuration in range (R137, R138) -/
  configured : ce.state ≠ .offline → ce.configValid = true
  /-- an OFFLINE channel has no line, no window, no visit and no station (R134, R139) -/
  offline : ce.state = .offline →
    ce.stationList = [] ∧ ce.rx = .off ∧ ce.sending = none ∧ ce.waiting = none ∧ ce.replyWindow = none ∧
      ce.pass = none ∧ ce.visit = none ∧ ce.arrivalQueue = [] ∧ ce.recovery = none
  /-- a visit runs exactly while the channel holds the token (R148) -/
  visits : ce.visit.isSome = true ↔ ce.state = .holding
  /-- a visit's telegram count stays within the visit budget (R148) -/
  budget : ∀ v, ce.visit = some v → v.count ≤ ce.visitBudget
  /-- a pass runs exactly while the channel is PASSING (R151) -/
  passes : ce.pass.isSome = true ↔ ce.state = .passing
  /-- the silence timer runs only in LISTENING and RECEIVING, on an idle line (R144) -/
  silence : ce.silenceTimer.isSome = true → (ce.state = .listening ∨ ce.state = .receiving) ∧ ce.lineIdle = true
  /-- a telegram of the token logic waits for the line only while the channel holds or passes the token (R148, R151) -/
  waits : ce.waiting.isSome = true → ce.state = .holding ∨ ce.state = .passing
  /-- the receive side assembles nothing exactly while the channel is OFFLINE (R120, R134) -/
  footing : ce.rx = .off ↔ ce.state = .offline
  /-- a PUBLISH in the arrival queue comes from a station 1 to 31 and carries at most 16 bytes (R33, R122) -/
  heard : ∀ p, Arrival.publish p ∈ ce.arrivalQueue → 1 ≤ p.source.toNat ∧ p.source.toNat ≤ 31 ∧ p.payload.length ≤ 16

/-- What the manual promises of a row at all times. -/
structure Row.Ok (row : Row) : Prop where
  /-- the length is 0 to 16 (R2) -/
  length : row.length ≤ 16
  /-- an image that is present is exactly as long as the row's length (R4) -/
  image : ∀ bytes, row.image = some bytes → bytes.length = row.length
  /-- a PRODUCED row's sequence is its generation modulo 256 (R6) -/
  sequence : row.role = .produced → row.sequence = row.generation.setWidth 8
  /-- a PRODUCED row has no origin, no freshness limit and no flag (R7, R8, R9) -/
  produced : row.role = .produced →
    row.sourceStation = none ∧ row.arrivalChannel = none ∧ row.freshnessLimit = 0 ∧ row.recallOnStale = false ∧
      row.sequenceCheck = false
  /-- a CONSUMED row has no refresh period (R8) -/
  consumed : row.role = .consumed → row.refreshPeriod = 0
  /-- a refresh period is 0 or at least 10 (R8) -/
  period : row.refreshPeriod = 0 ∨ 10 ≤ row.refreshPeriod.toNat
  /-- the source station, when present, is 1 to 31 (R7) -/
  source : ∀ b, row.sourceStation = some b → 1 ≤ b.toNat ∧ b.toNat ≤ 31
  /-- a row in use has a topic from 1 to 4094 (R2) -/
  topic : row.state ≠ .free → ∃ t : Word, row.topic = some t ∧ 1 ≤ t.toNat ∧ t.toNat ≤ 4094
  /-- the masks suit the role (R3) -/
  masks : row.state ≠ .free →
    match row.role with
    | .consumed => row.sourceMask ≠ 0 ∧ row.sourceMask &&& row.sendMask = 0
    | .produced => row.sourceMask = 0 ∧ row.sendMask ≠ 0
  /-- an AWAITING row has no image, a LIVE row has one (R16) -/
  imaged : (row.state = .awaiting → row.image = none) ∧ (row.state = .live → row.image.isSome = true)
  /-- a PRODUCED row is never STALE (R16) -/
  stale : row.state = .stale → row.role = .consumed

/-- What the manual promises of the attention list at all times (R104). -/
structure State.AttentionOk (s : State) : Prop where
  /-- each row at most once -/
  once : (s.attention.map fun e => e.row).Nodup
  /-- no reason set is empty -/
  nonempty : ∀ e ∈ s.attention, e.reasons ≠ 0

/-- What the manual promises of the topic index at all times (R26). -/
structure State.TopicsOk (s : State) : Prop where
  /-- at most one entry for a topic -/
  once : (s.topicIndex.map fun e => e.1).Nodup
  /-- one entry for each row that is not FREE, and no other -/
  entries : ∀ (t : Word) (r : RowId),
    (t, r) ∈ s.topicIndex ↔ (s.row r).state ≠ .free ∧ (s.row r).topic = some t

/-- The agreement of a row and a channel (R11, R12). -/
structure AgreeOn (row : Row) (r : RowId) (ce : ChannelEngine) (c : Channel) : Prop where
  /-- PENDING: on the class list of the row's class; otherwise on no list -/
  listed : ∀ k : Fin 4, r ∈ ce.lists.get k ↔ (row.sendStateOn c = .pending ∧ k = row.cls)
  /-- IN_FLIGHT: the channel's in-flight row -/
  flying : (∃ f, ce.inFlight = some f ∧ f.row = r) ↔ row.sendStateOn c = .inFlight
  /-- HELD: in the held mask -/
  held : inMask row.heldMask c = true ↔ row.sendStateOn c = .held
  /-- a row on a list or in a held mask is in service (R16, R55) -/
  serving : row.sendStateOn c = .pending ∨ row.sendStateOn c = .held → row.inService = true

/-- The agreement of the image table with the channels, and what it makes true of FREE rows, of the held masks and of
the channels that are OFFLINE (R1, R11, R12, R22, R25, R77, R104). -/
structure State.Agrees (s : State) : Prop where
  /-- every row and every channel agree -/
  each : ∀ (r : RowId) (c : Channel), AgreeOn (s.row r) r (s.ch c) c
  /-- a class list holds each row at most once (R53) -/
  once : ∀ (c : Channel) (k : Fin 4), ((s.ch c).lists.get k).Nodup
  /-- a FREE row stands at its free values (R1) -/
  free : ∀ r, (s.row r).state = .free → s.row r = Row.free
  /-- the held mask is empty whenever the gap is not running (R11) -/
  gap : ∀ r, (s.row r).gapRunning = false → (s.row r).heldMask = 0
  /-- an OFFLINE channel that owes no removal transaction has no row on its lists, in flight or HELD (R25, R77) -/
  offline : ∀ c, (s.ch c).state = .offline → (s.ch c).removalWaits = false →
    (s.ch c).pendingCount = 0 ∧ (s.ch c).inFlight = none ∧ ∀ r, (s.row r).sendStateOn c ≠ .held
  /-- a RETIRING row is in flight on some channel (R23) -/
  retiring : ∀ r, (s.row r).state = .retiring → (s.row r).inFlightAnywhere = true
  /-- the attention list holds no FREE row (R104) -/
  attention : ∀ e ∈ s.attention, (s.row e.row).state ≠ .free

/-- A deadline is the presented one, and not void (R88). -/
def State.presents (s : State) (e : DueEntry) : Prop := s.iu.presented = some { entry := e, void := false }

/-- The due list and the presented expiry name exactly the deadlines that are DUE, each once (R88). -/
structure State.DueOk (s : State) : Prop where
  /-- each deadline at most once in the due list -/
  once : s.iu.dueList.Nodup
  /-- a deadline is DUE exactly when it stands in the list or is presented and not void -/
  named : ∀ r k, ((s.row r).deadline k).isDue = true ↔
    ({ row := r, kind := k } ∈ s.iu.dueList ∨ s.presents { row := r, kind := k })
  /-- and not both -/
  apart : ∀ e, s.presents e → e ∉ s.iu.dueList
  /-- the head of the due list is always presented -/
  empty : s.iu.presented = none → s.iu.dueList = []

/-- Every channel engine and every row is as the manual promises. -/
structure State.PartsOk (s : State) : Prop where
  /-- every channel engine -/
  channels : ∀ c, (s.ch c).Ok
  /-- every row -/
  rows : ∀ r, (s.row r).Ok

/-! ### Words the statements use -/

/-- Nothing but the port differs. -/
def OnlyPort (s t : State) : Prop := { t with port := s.port } = s

/-- Nothing but the port and the channel engines differs, and the table controller's choice among the requests,
which stands or becomes the one it makes in the first state (R29). -/
def OnlyPortAndChannels (s t : State) : Prop :=
  { t with port := s.port, channels := s.channels, turn := s.turn } = s ∧ (t.turn = s.turn ∨ t.turn = s.nextServed)

/-- Nothing but one channel engine differs, and the table controller's choice among the requests, which stands or
becomes the one it makes in the first state (R29). -/
def OnlyChannel (c : Channel) (s t : State) : Prop :=
  (t.updCh c fun _ => s.ch c) = { s with turn := t.turn } ∧ (t.turn = s.turn ∨ t.turn = s.nextServed)

/-- Nothing but one row differs. -/
def OnlyRow (r : RowId) (s t : State) : Prop := (t.updRow r fun _ => s.row r) = s

/-- A transaction of an operation on a page stands where the next word completes at an address (R183 to R185). -/
def State.wordOpen (s : State) (op : PortOp) (page : Option Page) (addr : Byte) : Prop :=
  s.port.phase = .addressNext op page ∨ s.port.phase = .atWord op page addr

/-- The operation that carries a word to its owner (R184, R185). -/
def PortOp.writes : PortOp → Bool
  | .write => true
  | .maskedWrite => true
  | _ => false

/-- The mask of a written word: a WRITE takes every bit (R184, R185). -/
def wordMask (op : PortOp) (mask : Word) : Word := if op = .maskedWrite then mask else BitVec.allOnes 16

/-- A CHnEVENT word is being shifted out (R113). -/
def Port.midWord (p : Port) : Prop := ∃ c taken, p.phase = .inEvents c taken

/-- What SDO shifts out before a word's data: the 0 of the address byte, for the first word of a transaction (R179). -/
def Port.lead (p : Port) : List Byte :=
  match p.phase with
  | .deselected => []
  | .addressNext _ _ => [0]
  | .atWord _ _ _ => []
  | .inEvents _ _ => []
  | .finished => []
  | .discarding => []

/-- The port after a written word: a WRITE goes on at the next address, a MASKED WRITE is finished; SDO shifts 0 (R179,
R184, R185). -/
def Port.written (p : Port) (op : PortOp) (page : Option Page) (addr : Byte) : Port :=
  if op = .maskedWrite then { p with phase := .finished, shiftedOut := p.lead ++ [0, 0, 0, 0] }
  else { p with phase := .atWord op page (addr + 1), shiftedOut := p.lead ++ [0, 0] }

/-- The channels a page stands for (R188). -/
def Page.covers : Page → Channel → Bool
  | .global, _ => false
  | .ch c, d => c = d
  | .allChannels, _ => true

/-- Whether a written word carries a strobe: 1 in the data and, in a MASKED WRITE, in the mask (R189). -/
def strobeIn (op : PortOp) (data mask : Word) (k : Nat) : Bool := bitAt data k && bitAt (wordMask op mask) k

/-- The clocks of the data part after the address byte, up to its first boundary (R183 to R186). -/
def PortOp.dataClocks : PortOp → Nat
  | .read => 16
  | .write => 16
  | .maskedWrite => 32
  | .compare => 40

/-- An address of the global page with a word behind it (R195). -/
def globalWord (a : Nat) : Prop := a ≤ 0x02 ∨ (0x10 ≤ a ∧ a ≤ 0x31)

/-- A writable address of the global page (R195). -/
def globalWritable (a : Nat) : Prop := a = 0x01 ∨ (0x10 ≤ a ∧ a ≤ 0x20)

/-- An address of a channel page with a word behind it (R196). -/
def channelWord (a : Nat) : Prop := a ≤ 0x09 ∨ (0x10 ≤ a ∧ a ≤ 0x15)

/-- A writable address of a channel page (R196). -/
def channelWordWritable (a : Nat) : Prop := a ≤ 0x04 ∨ a = 0x07

/-- The phases of CMDSTAT and their codes (R198). -/
def phaseCodes : List (CommandPhase × Nat) := [(.idle, 0), (.busy, 1), (.done, 2), (.refused, 3)]

/-- The result codes of CMDSTAT (R198). -/
def resultCodes : List (ResultCode × Nat) :=
  [(.none, 0), (.ok, 1), (.noRow, 2), (.tableFull, 3), (.topicInUse, 4), (.badTopic, 5), (.badLength, 6), (.badMask, 7),
   (.badTiming, 8), (.wrongRole, 9), (.wrongState, 10), (.notFound, 11), (.channelsOnline, 12), (.unknownCommand, 13),
   (.empty, 14)]

/-- The state codes of CHnSTATE (R196). -/
def stateCodes : List (ChState × Nat) :=
  [(.offline, 0), (.listening, 1), (.claiming, 2), (.receiving, 3), (.holding, 4), (.passing, 5), (.silent, 6)]

/-- What the words of the global page read in a state (R190, R194, R195, R198). -/
structure GlobalReads (s : State) (read : Nat → Option Word) : Prop where
  ident : read 0x00 = some 0x4B60
  gctrl : read 0x01 = some (if s.attnEnable then 1 else 0)
  /-- the reset cause in bit 15, the attention list length in bits 8 to 0 -/
  gstat : s.AttentionOk → ∃ w, read 0x02 = some w ∧
    w.toNat = (if s.resetCause = .soft then 32768 else 0) + s.attention.length
  params : ∀ k : Fin 16, read (0x10 + k.val) = some s.cu.params[k]
  cmdcode : read 0x20 = some s.cu.code
  /-- the row number in bits 15 to 8, OVERRUN in bit 7, the result code in bits 5 to 2, the phase in bits 1 and 0 -/
  cmdstat : ∃ w p q, read 0x21 = some w ∧ (s.cu.phase, p) ∈ phaseCodes ∧ (s.cu.resultCode, q) ∈ resultCodes ∧
    w.toNat = 256 * s.cu.rowNumber.toNat + (if s.cu.overrun then 128 else 0) + 4 * q + p
  results : ∀ k : Fin 16, read (0x22 + k.val) = some s.cu.results[k]
  absent : ∀ a, ¬ globalWord a → read a = none

/-- What the words of a channel page read of its channel engine (R194, R196). -/
structure ChannelReads (ce : ChannelEngine) (read : Nat → Option Word) : Prop where
  control : read 0x00 = some (if ce.enable then 1 else 0)
  /-- slot time in bits 15 to 8, line rate in bits 6 and 5, own station in bits 4 to 0 -/
  cfgA : ∃ w, read 0x01 = some w ∧ w = ce.cfgA ∧ ce.slotBits = w.toNat / 256 ∧
    ce.lineRate = 250 * 2 ^ (w.toNat / 32 % 4) ∧ ce.own.toNat = w.toNat % 32
  /-- retry limit in bits 14 to 12, visit budget in 11 to 8, pass timeout in 7 to 4, reply window in 3 to 0 -/
  cfgB : ∃ w, read 0x02 = some w ∧ w = ce.cfgB ∧ ce.retryLimit = w.toNat / 4096 % 8 ∧
    ce.visitBudget = w.toNat / 256 % 16 ∧ ce.passTimeoutSlots = w.toNat / 16 % 16 ∧
    ce.replyWindowSlots = w.toNat % 16
  /-- AUTO_RECOVER in bit 15, error run limit in bits 12 to 8, join interval in bits 7 to 0 -/
  cfgCFirst : ∃ w, read 0x03 = some w ∧ w = ce.cfgC1 ∧ (ce.autoRecover = true ↔ 32768 ≤ w.toNat) ∧
    ce.errorRunLimit = w.toNat / 256 % 32 ∧ ce.joinInterval = w.toNat % 256
  /-- recovery interval in bits 7 to 0 -/
  cfgCSecond : ∃ w, read 0x04 = some w ∧ w = ce.cfgC2 ∧ ce.recoveryUnits = w.toNat % 256
  /-- the pending count in bits 14 to 10, attempt in flight in bit 9, the error run in bits 8 to 4, the state in bits 3
  to 0 -/
  state : ce.Ok → ∃ w p, read 0x05 = some w ∧ (ce.state, p) ∈ stateCodes ∧
    w.toNat = 1024 * (ce.lists.q0.length + ce.lists.q1.length + ce.lists.q2.length + ce.lists.q3.length) +
      (if ce.inFlight = none then 0 else 512) + 16 * ce.errorRun + p
  event : ∃ w, read 0x06 = some w ∧ ∀ k, w.getLsbD k = ce.event.getLsbD k
  enables : ∃ w, read 0x07 = some w ∧ ∀ k, w.getLsbD k = ce.eventEnable.getLsbD k
  /-- bit k of the first word for station k, of the second for station 16 + k -/
  stations : ce.Ok → ∃ low high, read 0x08 = some low ∧ read 0x09 = some high ∧
    ∀ k, k < 16 → (low.getLsbD k = true ↔ k ∈ ce.stationList) ∧ (high.getLsbD k = true ↔ 16 + k ∈ ce.stationList)
  counters : read 0x10 = some ce.counters.goodTelegrams ∧ read 0x11 = some ce.counters.checkFailures ∧
    read 0x12 = some ce.counters.unclaimedPublishes ∧ read 0x13 = some ce.counters.fullDrops ∧
    read 0x14 = some ce.counters.failedAttempts ∧ read 0x15 = some ce.counters.failedPasses
  absent : ∀ a, ¬ channelWord a → read a = none

/-- What a reset of either kind leaves, but for the port's phase, the queue of commands and the cause (R32, R80, R103,
R104, R112, R115, R117, R136, R158, R181). -/
structure ResetValues (t : State) : Prop where
  rows : ∀ r, t.row r = Row.free
  topics : t.topicIndex = []
  rotation : t.served = .tx 3 ∧ t.turn = none
  dueList : t.iu = { dueList := [], presented := none, tickCount := 0 }
  attention : t.attention = []
  attnEnable : t.attnEnable = false
  params : ∀ k : Fin 16, t.cu.params[k] = 0
  results : ∀ k : Fin 16, t.cu.results[k] = 0
  command : t.cu.code = 0 ∧ t.cu.phase = .idle ∧ t.cu.resultCode = .none ∧ t.cu.overrun = false ∧
    t.cu.rowNumber = 0 ∧ t.cu.working = none ∧ t.cu.requested = false ∧ t.cu.wait = none
  flags : t.port.portError = false ∧ t.port.configRefused = false
  control : ∀ c, (t.ch c).enable = false ∧ (t.ch c).state = .offline ∧ (t.ch c).own = 0 ∧
    (t.ch c).lineRate = 500 ∧ (t.ch c).slotBits = 64 ∧ (t.ch c).replyWindowSlots = 2 ∧
    (t.ch c).passTimeoutSlots = 3 ∧ (t.ch c).visitBudget = 4 ∧ (t.ch c).retryLimit = 3 ∧
    (t.ch c).errorRunLimit = 16 ∧ (t.ch c).joinInterval = 16 ∧ (t.ch c).recoveryUnits = 100 ∧
    (t.ch c).autoRecover = true
  ring : ∀ c, (t.ch c).stationList = [] ∧ (t.ch c).errorRun = 0 ∧ (t.ch c).joinCount = 0 ∧
    (t.ch c).joinCursor = none ∧ (t.ch c).silenceTimer = none ∧ (t.ch c).pass = none ∧
    (t.ch c).replyWindow = none ∧ (t.ch c).recovery = none ∧ (t.ch c).sending = none
  queues : ∀ c, (t.ch c).lists = Quad.all [] ∧ (t.ch c).inFlight = none ∧ (t.ch c).arrivalQueue = [] ∧
    (t.ch c).replyQueue = [] ∧ (t.ch c).requests = [] ∧ (t.ch c).counters = Counters.zero ∧
    (t.ch c).event = 0 ∧ (t.ch c).eventEnable = 0

/-- A channel engine as R139 leaves it at a disable: everything of the line and of the token given up, an attempt in
flight ended ABORTED, and the removal transaction presented after what the send side had already presented. -/
def ChannelEngine.wentOffline (ce : ChannelEngine) : ChannelEngine :=
  { ce with
    state := .offline, rx := .off, sending := none, waiting := none, watch := none, replyWindow := none, pass := none
    visit := none, replyQueue := [], arrivalQueue := [], silenceTimer := none, recovery := none, stationList := []
    joinCursor := none, inFlight := ce.inFlight.map fun (f : InFlight) => { f with phase := .ended }
    requests := ce.requests ++ [.removal] }

/-- A SILENT channel that recovers: it enters LISTENING with LISTENING_RESUMED set, its error run, join count and cursor
cleared, its recovery interval stopped and its silence timer started where its line is idle (R144, R145, R156). -/
def ChannelEngine.recovered (ce : ChannelEngine) : ChannelEngine :=
  { ce with
    state := .listening, event := ce.event ||| 0x020, errorRun := 0, joinCount := 0, joinCursor := none
    recovery := none
    silenceTimer := if ce.lineIdle then some ((40 + ce.own.toNat) * ce.slotBits) else none }

/-- A port WRITE stands at CMDCODE, no command is under way, and no other requester waits at the table controller: the
next command word is accepted and its transaction is the next one taken. A command taken while an expiry is presented,
or while a channel's request waits, is outside it. -/
def State.Ready (s : State) : Prop :=
  s.wordOpen .write (some .global) 0x20 ∧ s.cu.phase ≠ .busy ∧ s.iu.presented = none ∧
    ∀ c, (s.ch c).arrivalQueue = [] ∧ (s.ch c).requests = []

/-- A command's word and then its table transaction lead from one state to another (R159, R160; log entry 1), with what
every command leaves alone. -/
def Carried (i : Instr) (s u : State) : Prop :=
  (∃ t, exec i s = .next t ∧ exec .commandTransaction t = .next u) ∧
    u.port = s.port.written .write (some .global) 0x20 ∧ u.attnEnable = s.attnEnable ∧ u.resetCause = s.resetCause ∧
    u.pending = s.pending ∧ u.served = .cu ∧ u.turn = none ∧ u.cu.params = s.cu.params ∧ u.cu.overrun = false ∧
    u.cu.requested = false

/-- The image table, the attention list and the deadlines stand as before; a visit that had nothing to send may have met
a row that was pending (log entry 13). -/
def SameTable (s u : State) : Prop :=
  u.rows = s.rows ∧ u.topicIndex = s.topicIndex ∧ u.attention = s.attention ∧ u.iu = s.iu ∧
    u.channels = s.channels.map ChannelEngine.wake

/-- A command has ended REFUSED with a code and changed nothing (R160). -/
def Refuses (s u : State) (code : ResultCode) : Prop :=
  u.cu.phase = .refused ∧ u.cu.resultCode = code ∧ u.cu.rowNumber = 0 ∧ (∀ k : Fin 16, u.cu.results[k] = 0) ∧
    u.cu.wait = none ∧ SameTable s u

/-- A command has ended DONE with a row number and result words, the words not given reading 0 (R160, R161). -/
def Finishes (u : State) (row : Nat) (words : List Word) : Prop :=
  u.cu.phase = .done ∧ u.cu.resultCode = .ok ∧ u.cu.rowNumber.toNat = row ∧
    (∀ k : Fin 16, u.cu.results[k] = words.getD k.val 0) ∧ u.cu.wait = none

/-- The row a parameter word names: 0 to 255 and in use (section 8.2). -/
def Names (s : State) (w : Word) (r : RowId) : Prop := w.toNat = r.val ∧ (s.row r).state ≠ .free

/-- A parameter word names no row in use (section 8.2, NO_ROW). -/
def NamesNone (s : State) (w : Word) : Prop := ∀ r : RowId, w.toNat = r.val → (s.row r).state = .free

/-- The row-and-state form (R200). -/
def rowStateWord (r : RowId) (st : RowState) : Word := BitVec.ofNat 16 (256 * st.code + r.val)

/-- Per-channel outcomes in two words (R200). -/
def outcomePair (o : Channel → ChannelOutcome) : List Word :=
  [BitVec.ofNat 16 (256 * (o 0).code + (o 1).code), BitVec.ofNat 16 (256 * (o 2).code + (o 3).code)]

/-- Image byte 2k stands in bits 15 to 8 of image word k, and byte 2k + 1 in bits 7 to 0 (R194). -/
def ImageWordsHold (words : Nat → Word) (bytes : List Byte) : Prop :=
  bytes.length = 16 ∧ ∀ k, k < 8 → bytes.getD (2 * k) 0 = (words k).extractLsb' 8 8 ∧
    bytes.getD (2 * k + 1) 0 = (words k).extractLsb' 0 8

/-- BAD_TIMING for the values a row would hold (R164 step 4, R166). -/
def TimingUnsuited (role : Role) (limit period : Word) (recallOnStale sequenceCheck : Bool) : Prop :=
  (1 ≤ period.toNat ∧ period.toNat ≤ 9) ∨ (role = .consumed ∧ period ≠ 0) ∨
    (role = .produced ∧ (limit ≠ 0 ∨ recallOnStale = true ∨ sequenceCheck = true))

/-- BAD_MASK (R164 step 3). -/
def MasksUnsuited (role : Role) (source send : ChannelMask) : Prop :=
  (role = .consumed ∧ (source = 0 ∨ source &&& send ≠ 0)) ∨ (role = .produced ∧ (send = 0 ∨ source ≠ 0))

/-- A row's side after CANCEL, SUSPEND or RETIRE has taken a PENDING or HELD row off the channel (R19, R23, R76). -/
def Side.removed (d : Side) : Side :=
  match d.sendState with
  | .pending => { d with sendState := .idle, attemptCount := 0, lastResult := .cancelled }
  | .held => { d with sendState := .idle, lastResult := .cancelled }
  | .idle => d
  | .inFlight => d

/-- A channel engine whose class lists a row has left, where it stood on them (R53). -/
def ChannelEngine.without (ce : ChannelEngine) (r : RowId) (listed : Bool) : ChannelEngine :=
  if listed then { ce with lists := ce.lists.map fun l => l.filter fun q => q ≠ r } else ce

/-- What a removal reports for a channel, with what it reports for an attempt in flight (R172, R173, R175). -/
def removalReport (d : Side) (inFlight : ChannelOutcome) : ChannelOutcome :=
  match d.sendState with
  | .pending => .removed
  | .held => .removed
  | .idle => .notQueued
  | .inFlight => inFlight

/-- The rows but one, the topic index and the attention list stand as before. -/
def OtherRowsSame (r : RowId) (s u : State) : Prop :=
  (∀ q, q ≠ r → u.row q = s.row q) ∧ u.topicIndex = s.topicIndex ∧ u.attention = s.attention

/-- The deadlines of a row that satisfy a condition have left the due list, and nothing else of the interval unit has
changed (R88). -/
def LeftDueList (r : RowId) (gone : DeadlineKind → Prop) (s u : State) : Prop :=
  u.iu.presented = s.iu.presented ∧ u.iu.tickCount = s.iu.tickCount ∧
    ∀ e, e ∈ u.iu.dueList ↔ (e ∈ s.iu.dueList ∧ ¬ (e.row = r ∧ gone e.kind))

/-- The attention list after reasons of one transaction have been recorded for a row whose attention mask lets `m` of
them through: they join the row's entry where it stands, or make a new entry at the tail (R105, R106). -/
def attentionAfter (l : List AttentionEntry) (r : RowId) (m : ReasonSet) : List AttentionEntry :=
  if m = 0 then l
  else if r ∈ l.map (fun e => e.row) then
    l.map fun e => { e with reasons := if e.row = r then e.reasons ||| m else e.reasons }
  else l ++ [{ row := r, reasons := m }]

/-- The interval unit with one deadline's expiry withdrawn: out of the due list, void where it is presented (R88). -/
def IntervalUnit.less (iu : IntervalUnit) (e : DueEntry) : IntervalUnit :=
  { iu with
    dueList := iu.dueList.filter fun x => x ≠ e
    presented := iu.presented.map fun (p : Presented) => { p with void := p.void || decide (p.entry = e) } }

/-- The head of a due list is presented, the rest of it stands (R88). -/
def IntervalUnit.offers (iu : IntervalUnit) (due : List DueEntry) : Prop :=
  match due with
  | [] => iu.presented = none ∧ iu.dueList = []
  | e :: rest => iu.presented = some { entry := e, void := false } ∧ iu.dueList = rest

/-- The order in which deadlines of one tick join the due list: by row number, and within a row freshness, refresh,
inhibit gap (R88). -/
def DueEntry.place (e : DueEntry) : Nat :=
  3 * e.row.val + match e.kind with
    | .freshness => 0
    | .refresh => 1
    | .gap => 2

/-- A requester's place in the ring (R29). -/
def Requester.place : Requester → Nat
  | .cu => 0
  | .iu => 1
  | .rx c => 2 + 2 * c.val
  | .tx c => 3 + 2 * c.val

/-- How many places of the ring a requester follows another by, 1 to 10 (R29). -/
def Requester.after (q served : Requester) : Nat := (q.place + 9 - served.place) % 10 + 1

/-- A command that brings a telegram to a channel's receive line, and the telegram it brings: an event with an own
target takes it from the channel. -/
def Brings (s : State) (i : Instr) (c : Channel) (t : Telegram) : Prop :=
  match t with
  | .publish p => i = .publishReceived c p
  | .recall q => i = .recallReceived c q
  | .confirm q => i = .confirmReceived c q
  | .token src tgt => (i = .tokenReceived c src ∧ tgt = (s.ch c).own) ∨ i = .unmatchedRingTelegram c .token src tgt
  | .joinCall src tgt =>
    (i = .joinCallReceived c src ∧ tgt = (s.ch c).own) ∨ i = .unmatchedRingTelegram c .joinCall src tgt
  | .joinReply src tgt =>
    (i = .joinReplyReceived c src ∧ tgt = (s.ch c).own) ∨ i = .unmatchedRingTelegram c .joinReply src tgt

/-- The receive side delivers a telegram that ends now, and whether a reply or pass window was open at its start bit: it
is on the line, or it ends on a line still idle and began just before (log entry 11). Nothing is being sent. -/
def ChannelEngine.listens (ce : ChannelEngine) (inWindow : Bool) : Prop :=
  ce.sending = none ∧ (ce.rx = .receiving inWindow ∨ (ce.rx = .idle ∧ ce.windowOpen = inWindow))

/-- The receive side delivers a telegram that ends now, one whose start bit was a token conflict among them (R152). -/
def ChannelEngine.delivers (ce : ChannelEngine) (inWindow : Bool) : Prop :=
  ce.listens inWindow ∨ (inWindow = false ∧ ce.sending = none ∧ ce.rx = .intruding)

/-- A command that ends a telegram on a channel's receive line, good or bad (R125). -/
def EndsTelegram (s : State) (i : Instr) (c : Channel) : Prop :=
  (∃ t, Brings s i c t) ∨ (∃ bytes, i = .checkFailure c bytes ∨ i = .unknownKindTelegram c bytes) ∨
    ∃ k, i = .framingFault c k

/-- A telegram of the token logic that stood ready on a channel's idle line has begun (R120, R128). -/
def State.sends (s : State) (c : Channel) (x : Transmission) : State :=
  s.updCh c fun ce => { ce with sending := some x, waiting := none, silenceTimer := none }

/-- A telegram that stands the tests of R125: its payload at most 16 bytes, its source 1 to 31 and not the own
station. -/
def GoodFor (ce : ChannelEngine) (t : Telegram) : Prop :=
  telegramSized t = true ∧ 1 ≤ (telegramSource t).toNat ∧ (telegramSource t).toNat ≤ 31 ∧ telegramSource t ≠ ce.own

/-- What every good telegram leaves on its channel before the token logic hears of it: it is counted good, a PUBLISH or
RECALL joins the arrival queue or, with the queue full, is counted as a check failure with CHECK_ERROR instead, its
source joins the station list with STATION_JOINED where it is new, and the line is idle (R33, R34, R126, R142). -/
structure Reported (ce v : ChannelEngine) (t : Telegram) : Prop where
  rest : { v with stationList := ce.stationList, event := ce.event, counters := ce.counters,
                  arrivalQueue := ce.arrivalQueue } = { ce with rx := .idle }
  stations : v.stationList.Pairwise (fun a b => a < b) ∧
    ∀ n, n ∈ v.stationList ↔ n ∈ ce.stationList ∨ n = (telegramSource t).toNat
  others : { v.counters with goodTelegrams := ce.counters.goodTelegrams, checkFailures := ce.counters.checkFailures } =
    ce.counters
  taken : ce.arrivalQueue.length < 4 ∨ arrivalOf t = none →
    v.arrivalQueue = ce.arrivalQueue ++ (arrivalOf t).toList ∧
      v.counters.goodTelegrams.toNat = min 65535 (ce.counters.goodTelegrams.toNat + 1) ∧
      v.counters.checkFailures = ce.counters.checkFailures ∧
      v.event = ce.event ||| (if (telegramSource t).toNat ∈ ce.stationList then 0 else 0x004)
  full : 4 ≤ ce.arrivalQueue.length → arrivalOf t ≠ none →
    v.arrivalQueue = ce.arrivalQueue ∧ v.counters.goodTelegrams = ce.counters.goodTelegrams ∧
      v.counters.checkFailures.toNat = min 65535 (ce.counters.checkFailures.toNat + 1) ∧
      v.event = ce.event ||| 0x080 ||| (if (telegramSource t).toNat ∈ ce.stationList then 0 else 0x004)

/-- The silence timer as R144 has it: running from its start in LISTENING and RECEIVING with the line idle, else
stopped. -/
def ChannelEngine.timed (ce : ChannelEngine) : ChannelEngine :=
  { ce with silenceTimer :=
      if ce.sending = none ∧ (ce.rx = .idle ∨ ce.rx = .unsynced) then
        (if ce.state = .listening then some ((40 + ce.own.toNat) * ce.slotBits)
         else if ce.state = .receiving then some ((8 + ce.own.toNat) * ce.slotBits) else none)
      else none }

/-- A telegram of the token logic made ready: it begins at once on an idle line with no reply queued, and else waits for
the line (R120, R132); not `now`, it stands ready on the idle line too (log entry 30). -/
def ChannelEngine.readied (ce : ChannelEngine) (x : Transmission) (now : Bool := true) : ChannelEngine :=
  if now = true ∧ ce.sending = none ∧ (ce.rx = .idle ∨ ce.rx = .unsynced) ∧ ce.replyQueue = [] then
    { ce with sending := some x, waiting := none, silenceTimer := none }
  else { ce with waiting := some x }

/-- The pass TOKEN of a first or second try to a station made ready (R151). -/
def ChannelEngine.passesTo (ce : ChannelEngine) (t : Byte) (second : Bool) (now : Bool := true) : ChannelEngine :=
  { ce with state := .passing, visit := none, silenceTimer := none
            pass := some { station := t, second := second, window := none } }.readied
    { job := .passToken, telegram := .token ce.own t } now

/-- The lowest listed station above the own one, or else the lowest listed (R143). -/
def Successor (own : Nat) (l : List Nat) (t : Nat) : Prop :=
  t ∈ l ∧ ((own < t ∧ ∀ x ∈ l, own < x → t ≤ x) ∨ ((∀ x ∈ l, ¬ own < x) ∧ ∀ x ∈ l, t ≤ x))

/-- The attempt under way ends with an outcome that its outcome transaction will apply; an attempt that has ended, or no
attempt, is left (R66, R68). -/
def ChannelEngine.attemptEnds (ce : ChannelEngine) (o : AttemptOutcome) : ChannelEngine :=
  match ce.inFlight with
  | some f =>
    if f.phase = .ended then ce
    else { ce with inFlight := some { f with phase := .ended }, requests := ce.requests ++ [.outcome o] }
  | none => ce

/-- Every visit, window, pass and waiting telegram given up (R152, R155). -/
def ChannelEngine.gaveUp (ce : ChannelEngine) : ChannelEngine :=
  { ce with replyWindow := none, pass := none, visit := none, waiting := none, watch := none }

/-- A channel that enters SILENT (R154, R155). -/
def ChannelEngine.fellSilent (ce : ChannelEngine) : ChannelEngine :=
  { (ce.attemptEnds .lineError).gaveUp with
    state := .silent, event := ce.event ||| 0x010, replyQueue := [], silenceTimer := none
    recovery := if ce.autoRecover then some (10 * ce.recoveryUnits + 1) else none }

/-- A telegram is what the open reply window expects (R129). -/
def Answers (ce : ChannelEngine) (t : Telegram) : Prop :=
  ∃ w, ce.replyWindow = some w ∧ match w.expect with
    | .confirm source topic sequence =>
      t = .confirm { source := source, target := ce.own, topic := topic, sequence := sequence }
    | .joinReply source => t = .joinReply source ce.own

/-- A CONFIRM or JOIN_REPLY addressed to the own station (R152). -/
def OwnReply (ce : ChannelEngine) (t : Telegram) : Prop :=
  (∃ q, t = .confirm q ∧ q.target = ce.own) ∨ ∃ source, t = .joinReply source ce.own

/-- A TOKEN or JOIN_CALL addressed to the own station (R145, R147). -/
def OwnCall (ce : ChannelEngine) (t : Telegram) : Prop :=
  (∃ source, t = .token source ce.own) ∨ ∃ source, t = .joinCall source ce.own

/-- A token conflict on a channel engine: the attempt under way ends LINE_ERROR, visit, pass and windows are given up,
TOKEN_CONFLICT is set and the channel is RECEIVING with its silence timer afresh (R152). -/
def ChannelEngine.conflicted (ce : ChannelEngine) : ChannelEngine :=
  ({ (ce.attemptEnds .lineError).gaveUp with state := .receiving, event := ce.event ||| 0x002 }).timed

/-- A visit begins with a telegram count of 0 (R148). -/
def ChannelEngine.visits (ce : ChannelEngine) : ChannelEngine :=
  { ce with state := .holding, visit := some { count := 0, step := .attempts }, pass := none, silenceTimer := none }

/-- The receive side delivers nothing: the channel is sending, or has no footing on the line (R121, R125, R128). -/
def ChannelEngine.deaf (ce : ChannelEngine) : Prop :=
  ce.sending ≠ none ∨ ce.rx = .off ∨ ce.rx = .unsynced ∨ ce.rx = .resync

/-- The line as it becomes idle: the silence timer as R144 has it, and a telegram of the token logic that waited made
ready (R120, R132, R144). -/
def ChannelEngine.settled (ce : ChannelEngine) : ChannelEngine :=
  match ce.waiting with
  | some x => ce.timed.readied x
  | none => ce.timed

/-- The requests of a send side that presents an attempt start, unless one is presented already (R63, R148). -/
def ChannelEngine.attemptRequested (ce : ChannelEngine) : List SendRequest :=
  if SendRequest.attemptStart ∈ ce.requests then ce.requests else ce.requests ++ [.attemptStart]

/-- How a visit goes on from v to u once its attempts are over: the join count and the join call of step 2, then the
pass of step 3 to the successor (R148 to R151). A station alone on its segment with no join interval begins its next
visit (log entry 13). Not `now`, the telegram of a call or a pass stands ready (log entry 30). -/
structure VisitGoesOn (v u : ChannelEngine) (now : Bool := true) : Prop where
  uncalled : ∀ t, v.joinInterval = 0 → Successor v.own.toNat v.stationList t →
    u = { v with joinCount := 0 }.passesTo (BitVec.ofNat 8 t) false now
  notDue : ∀ t, v.joinCount + 1 < v.joinInterval → Successor v.own.toNat v.stationList t →
    u = { v with joinCount := v.joinCount + 1 }.passesTo (BitVec.ofNat 8 t) false now
  gapless : ∀ t, 1 ≤ v.joinInterval → v.joinInterval ≤ v.joinCount + 1 →
    gapOf v.own.toNat v.stationList = [] → Successor v.own.toNat v.stationList t →
    u = { v with joinCount := 0 }.passesTo (BitVec.ofNat 8 t) false now
  called : ∀ g, 1 ≤ v.joinInterval → v.joinInterval ≤ v.joinCount + 1 ∨ v.stationList = [] →
    joinTarget (gapOf v.own.toNat v.stationList) v.joinCursor = some g →
    u = { v with
      joinCount := 0, joinCursor := some g, visit := v.visit.map fun (x : Visit) => { x with step := .joinCall }
      }.readied { job := .joinCall, telegram := .joinCall v.own (BitVec.ofNat 8 g) } now
  alone : v.joinInterval = 0 → v.stationList = [] → v.inFlight = none → .removal ∉ v.requests → v.waiting = none →
    u = { v.visits with
      joinCount := 0, requests := if v.pendingCount = 0 then v.requests else v.attemptRequested }

/-- A visit has begun from v: with a row pending it presents an attempt start, with none it goes on at once, and with an
attempt or a removal still to be applied it waits (R78, R148). -/
structure VisitBegun (v u : ChannelEngine) (now : Bool := true) : Prop where
  owed : v.inFlight ≠ none ∨ .removal ∈ v.requests → u = v.visits
  attempts : v.inFlight = none → .removal ∉ v.requests → v.pendingCount ≠ 0 →
    u = { v.visits with requests := v.attemptRequested }
  goesOn : v.inFlight = none → .removal ∉ v.requests → v.pendingCount = 0 → VisitGoesOn v.visits u now

/-- A pass entered from v: the TOKEN to the successor, or a new visit where the station list is empty (R151). -/
structure PassesOn (v u : ChannelEngine) (now : Bool := true) : Prop where
  token : ∀ t, Successor v.own.toNat v.stationList t → u = v.passesTo (BitVec.ofNat 8 t) false now
  visit : v.stationList = [] → u.state = .holding ∧ u.pass = none ∧ u.replyWindow = v.replyWindow ∧
    (∃ x, u.visit = some x ∧ x.count = 0) ∧ (v.waiting = none → VisitBegun v u now)

/-- A station has failed both tries of a pass: it has left the station list, STATION_LOST is set and the failed pass
counted (R142, R151). -/
structure StationLost (ce v : ChannelEngine) (station : Byte) : Prop where
  stations : v.stationList = ce.stationList.filter fun n => n ≠ station.toNat
  counted : v.counters.failedPasses.toNat = min 65535 (ce.counters.failedPasses.toNat + 1)
  rest : { v with
      stationList := ce.stationList, counters := { v.counters with failedPasses := ce.counters.failedPasses } } =
    { ce with event := ce.event ||| 0x008 }

/-- A try of a pass has failed: the second try follows the first, and after the second the station is lost and the
channel passes again (R151). -/
structure TryFails (v u : ChannelEngine) (p : Pass) (now : Bool := true) : Prop where
  first : p.second = false → u = v.passesTo p.station true now
  second : p.second = true → ∃ x, StationLost v x p.station ∧ PassesOn { x with pass := none } u now

/-- How far a station stands after the own one, counting upward and from 31 round to 1 (R143). -/
def stationDistance (own x : Nat) : Nat := (x + 31 - own) % 31

/-- The CONFIRM of an accepted or duplicate PUBLISH joins the reply queue when the telegram named the own station, the
channel sends replies and the queue has a place (R46, R47, R132). -/
def ChannelEngine.answering (ce : ChannelEngine) (p : Publish) : ChannelEngine :=
  if p.target = ce.own ∧
      (ce.state = .listening ∨ ce.state = .receiving ∨ ce.state = .holding ∨ ce.state = .passing) ∧
      ce.replyQueue.length < 4 then
    { ce with replyQueue := ce.replyQueue ++
        [.confirm { source := ce.own, target := p.source, topic := p.topic, sequence := p.sequence }] }
  else ce

/-- Everything but the rows, the attention list, the interval unit, the channels and the rotation is as before. -/
def TableOnly (s u : State) : Prop :=
  { u with
    rows := s.rows, attention := s.attention, iu := s.iu, channels := s.channels, served := s.served
    turn := s.turn } = s

/-- The table controller has served a requester and chooses its next one by the ring from there (R29). -/
def State.servedBy (u : State) (q : Requester) : Prop := u.served = q ∧ u.turn = none

/-- What a removal reports for each channel of the row's two masks; a channel of neither was not acted on (R161). -/
def removalReports (row : Row) (inFlight : ChannelOutcome) (c : Channel) : ChannelOutcome :=
  if inMask row.sourceMask c || inMask row.sendMask c then removalReport (row.side.get c) inFlight else .notNamed

/-- The rows, the attention list and the interval unit are those of another state, and the channels but one are its
channels, each waking a visit that had nothing to send (log entry 13). -/
def TableOf (m u : State) (c : Channel) : Prop :=
  u.rows = m.rows ∧ u.attention = m.attention ∧ u.iu = m.iu ∧ ∀ e, e ≠ c → u.ch e = (m.ch e).wake

/-- The row serves: it is AWAITING, LIVE or STALE (R16, R56). -/
def Row.serves (row : Row) : Prop := row.state = .awaiting ∨ row.state = .live ∨ row.state = .stale

/-- What a waiting CANCEL, or a waiting RETIRE, reports for an attempt's outcome (R74, R172, R175). -/
def waitReport (isCancel : Bool) : AttemptOutcome → ChannelOutcome
  | .sent => if isCancel then .tooLate else .sent
  | .confirmed => if isCancel then .tooLate else .confirmed
  | .noConfirm => if isCancel then .stopped else .noConfirm
  | .lineError => if isCancel then .stopped else .lineError
  | .aborted => if isCancel then .stopped else .aborted

/-- The command unit after an attempt of row r on channel c has ended: a command that does not await it is
untouched; one that awaits other channels too goes on waiting; the last awaited channel ends it DONE (R75, R162). -/
def CommandTold (s u : State) (r : RowId) (c : Channel) (o : AttemptOutcome) : Prop :=
  (∀ w, s.cu.wait = some w → w.row = r → inMask w.awaited c = true →
    let outcomes := w.outcomes.set c (waitReport w.isCancel o)
    ((∀ e, e ≠ c → inMask w.awaited e = false) → Finishes u r.val (0 :: outcomePair outcomes.get)) ∧
    ((∃ e, e ≠ c ∧ inMask w.awaited e = true) → { u.cu with wait := s.cu.wait } = s.cu ∧
      ∃ v, u.cu.wait = some v ∧ { v with awaited := w.awaited } = { w with outcomes := outcomes } ∧
        ∀ e, inMask v.awaited e = (inMask w.awaited e && decide (e ≠ c)))) ∧
  ((∀ w, s.cu.wait = some w → w.row ≠ r ∨ inMask w.awaited c = false) → u.cu = s.cu)

/-- The last result of a send that an outcome ends (R69, R71, R72, R74). -/
def endResult (o : AttemptOutcome) (cancel : Bool) : LastResult :=
  match o with
  | .sent => .sent
  | .confirmed => .confirmed
  | .noConfirm => if cancel then .cancelled else .failedNoConfirm
  | .lineError => if cancel then .cancelled else .failedLine
  | .aborted => .channelOff

/-- The reason of a send that an outcome ends: SEND_DONE, SEND_FAILED or none (R69, R71, R72, R74). -/
def endReason (o : AttemptOutcome) (cancel : Bool) : ReasonSet :=
  match o with
  | .sent => 0x10
  | .confirmed => 0x10
  | .noConfirm => if cancel then 0 else 0x20
  | .lineError => if cancel then 0 else 0x20
  | .aborted => 0

end Sys2Proof.Machine
end

