-- ==== Sys2Proof/Certificates/Slice0/Obligations.lean ====
section
/-! DEFINITION. The statements for the provers. A statement whose docstring names a log entry rests, in that clause, on
the model's choice that the entry records. -/

open Sys2Proof Sys2Proof.Machine

/-! ### The step, the resets -/

/-- The command at the front of the queue is what a step runs; with no command the part idles (the model's choice, log
entries 7 and 17). -/
def Obligations.StepRunsTheFrontCommand : Prop :=
  (∀ (s : State) (c : Instr) (rest : List Instr),
    s.pending = c :: rest → step s = exec c { s with pending := rest }) ∧
  ∀ s : State, s.pending = [] → step s = .next s

/-- PIN_RESET and SOFT_RESET leave the reset values of every block; the cause and the port's framing say which reset it
was (R32, R136, R190 to R192). The queue of commands is the model's own and stays (log entry 17). -/
def Obligations.ResetsLeaveResetValues : Prop :=
  (∀ (s : State) (selLow : Bool), ∃ t, exec (.pinReset selLow) s = .next t ∧ ResetValues t ∧ t.resetCause = .pin ∧
    t.port.phase = (if selLow then .discarding else .deselected) ∧ t.pending = s.pending) ∧
  (∀ (s : State) (op : PortOp) (data mask : Word), op.writes = true → s.wordOpen op (some .global) 0x01 →
    ∃ t, exec (.softReset data mask) s = .next t ∧ ResetValues t ∧ t.resetCause = .soft ∧
      t.port.phase = .discarding ∧ t.pending = s.pending) ∧
  ResetValues State.reset ∧ State.reset.resetCause = .pin ∧ State.reset.pending = []

/-- The words of every page read, after a reset of either kind, what the manual's tables give (R195, R196). -/
def Obligations.WordsAfterReset : Prop :=
  let tabled (t : State) (gstat : Word) : Prop :=
    (∀ a v, (a, v) ∈ [((0x00 : Nat), (0x4B60 : Word)), (0x01, 0), (0x02, gstat), (0x20, 0), (0x21, 0)] →
      t.readGlobal a = some v) ∧
    (∀ a, (0x10 ≤ a ∧ a ≤ 0x1F) ∨ (0x22 ≤ a ∧ a ≤ 0x31) → t.readGlobal a = some 0) ∧
    (∀ a, ¬ globalWord a → t.readGlobal a = none) ∧
    ∀ c,
      (∀ a v, (a, v) ∈ [((0x01 : Nat), (0x4020 : Word)), (0x02, 0x3432), (0x03, 0x9010), (0x04, 0x0064)] →
        (t.ch c).readWord a = some v) ∧
      (∀ a, a = 0x00 ∨ (0x05 ≤ a ∧ a ≤ 0x09) ∨ (0x10 ≤ a ∧ a ≤ 0x15) → (t.ch c).readWord a = some 0) ∧
      ∀ a, ¬ channelWord a → (t.ch c).readWord a = none
  (∀ (s : State) (selLow : Bool), ∃ t, exec (.pinReset selLow) s = .next t ∧ tabled t 0) ∧
  ∀ (s : State) (data mask : Word), s.wordOpen .write (some .global) 0x01 →
    ∃ t, exec (.softReset data mask) s = .next t ∧ tabled t 0x8000

/-! ### The port -/

/-- PORT_STATUS_BYTE shifts the status byte out, clears the sticky flags it reported, and judges the page code
(R180 to R182, R188). The byte is the one that stands as the piece completes (log entry 2); a transaction still open
is taken to have ended at a boundary (log entry 10), but inside a CHnEVENT word that is being shifted out, so with
PORT_ERROR (R187); and a PORT_ERROR that the byte carries as 1 is cleared even where its own page sets it again, the
second order of R180 (log entry 26). -/
def Obligations.StatusByteReportsAndClears : Prop :=
  ∀ (s : State) (control : Byte), ∃ t, exec (.portStatusByte control) s = .next t ∧ OnlyPort s t ∧
    (∃ b : Byte, t.port.shiftedOut = [b] ∧ b.getLsbD 7 = s.attn ∧ b.getLsbD 6 = decide (s.cu.phase = .busy) ∧
      (b.getLsbD 5 = true ↔ s.port.portError = true ∨ s.port.midWord) ∧ b.getLsbD 4 = s.port.configRefused ∧
      b.getLsbD 3 = s.cu.overrun ∧ b.getLsbD 2 = true ∧ b.getLsbD 1 = false ∧ b.getLsbD 0 = true) ∧
    t.port.configRefused = false ∧
    ∃ op page, t.port.phase = .addressNext op page ∧
      (op = .read ↔ control.toNat / 64 = 0) ∧ (op = .write ↔ control.toNat / 64 = 1) ∧
      (op = .maskedWrite ↔ control.toNat / 64 = 2) ∧ (op = .compare ↔ control.toNat / 64 = 3) ∧
      (page = some .global ↔ control.toNat / 8 % 8 = 0) ∧
      (∀ c : Channel, page = some (.ch c) ↔ control.toNat / 8 % 8 = c.val + 1) ∧
      (page = some .allChannels ↔ control.toNat / 8 % 8 = 5 ∧ op.writes = true) ∧
      (t.port.portError = true ↔ page = none ∧ ¬ (s.port.portError = true ∨ s.port.midWord))

/-- SEL rising ends the transaction; inside a byte, a word, a MASKED WRITE or a COMPARE it sets PORT_ERROR, at a
boundary it does not, and nothing else changes but what SDO carried last, the 0 of a whole address byte (R179, R185 to
R187); inside a word of CHnEVENT it clears no flag (R113). SDO is at high impedance exactly while SEL is high, and is
driven most significant bit first (R179, R193). The model's choices are that the row stands for ends at a boundary too
(log entry 10), what is kept of the bytes SDO carried: the last completed piece, no bit of one cut off (log entry 20),
that the discarded rest of a transaction that carried a reset ends without PORT_ERROR (log entry 21), that no
operation's end exactly after the address byte sets it (log entry 27), and that a rise of SEL with no clock does not
(log entry 28). -/
def Obligations.EndOfTransaction : Prop :=
  (∀ s : State, (s.port.phase = .deselected → s.pins.sdo = none) ∧
    (s.port.phase ≠ .deselected → ∃ l, s.pins.sdo = some l ∧ l.length = 8 * s.port.shiftedOut.length ∧
      ∀ (n i : Nat) (b : Byte), s.port.shiftedOut[n]? = some b → i < 8 →
        l[8 * n + i]? = some (if b.getLsbD (7 - i) then .high else .low))) ∧
  ∀ (s : State) (bits : Nat), ∃ t, exec (.endInsideTransaction bits) s = .next t ∧ OnlyPort s t ∧
    { t.port with
      phase := s.port.phase, portError := s.port.portError, shiftedOut := s.port.shiftedOut } = s.port ∧
    (s.port.phase = .deselected → (bits = 0 → t = s) ∧
      (0 < bits → bits < 8 → t.port.phase = .deselected ∧ t.port.portError = true)) ∧
    ((∀ op page, s.port.phase ≠ .addressNext op page) → t.port.shiftedOut = s.port.shiftedOut) ∧
    (∀ op page, s.port.phase = .addressNext op page →
      (bits < 8 → t.port.shiftedOut = s.port.shiftedOut) ∧
      (8 ≤ bits → bits < 8 + op.dataClocks → t.port.shiftedOut = [0]) ∧
      (bits = 0 ∨ bits = 8 → t.port.phase = .deselected ∧ t.port.portError = s.port.portError) ∧
      (0 < bits ∧ bits < 8 ∨ 8 < bits ∧ bits < 8 + op.dataClocks →
        t.port.phase = .deselected ∧ t.port.portError = true)) ∧
    (∀ op page a, s.port.phase = .atWord op page a →
      (bits = 0 → t.port.phase = .deselected ∧ t.port.portError = s.port.portError) ∧
      (0 < bits → bits < 16 → t.port.phase = .deselected ∧ t.port.portError = true)) ∧
    (s.port.midWord → 0 < bits → bits < 16 → t.port.phase = .deselected ∧ t.port.portError = true) ∧
    (s.port.phase = .finished → t.port.phase = .deselected ∧
      (bits = 0 → t.port.portError = s.port.portError) ∧ (0 < bits → t.port.portError = true)) ∧
    (s.port.phase = .discarding → t.port.phase = .deselected ∧ t.port.portError = s.port.portError)

/-- REGISTER_WRITE at PARAM0 to PARAM15 stores the word, a MASKED WRITE the bits of its mask, in every phase of the
command unit, and changes nothing else (R158, R184, R185). -/
def Obligations.ParamWordIsStored : Prop :=
  ∀ (s : State) (op : PortOp) (addr : Byte) (data mask : Word) (k : Fin 16), op.writes = true →
    s.wordOpen op (some .global) addr → addr.toNat = 0x10 + k.val →
    ∃ t, exec (.registerWrite addr data mask) s = .next t ∧ t.port = s.port.written op (some .global) addr ∧
      { t with port := s.port, cu := s.cu } = s ∧ { t.cu with params := s.cu.params } = s.cu ∧
      (∀ j : Fin 16, j ≠ k → t.cu.params[j] = s.cu.params[j]) ∧
      ∀ b, b < 16 → (t.cu.params[k]).getLsbD b =
        if (wordMask op mask).getLsbD b then data.getLsbD b else (s.cu.params[k]).getLsbD b

/-- REGISTER_WRITE at a read-only word or at an address with no word behind it is discarded and sets PORT_ERROR; on a
page code that names no page it is discarded (R181, R182, R184, R185, R188). -/
def Obligations.WriteWithNoWritableWordIsDiscarded : Prop :=
  ∀ (s : State) (op : PortOp) (page : Option Page) (addr : Byte) (data mask : Word), op.writes = true →
    s.wordOpen op page addr →
    (∀ p, page = some p → match p with
      | .global => ¬ globalWritable addr.toNat
      | _ => ¬ channelWordWritable addr.toNat) →
    ∃ t, exec (.registerWrite addr data mask) s = .next t ∧ OnlyPort s t ∧
      t.port = { s.port.written op page addr with portError := s.port.portError || page.isSome }

/-- A WRITE or MASKED WRITE addressed to CHnEVENT changes no flag and sets PORT_ERROR (R114). -/
def Obligations.EventWordIsNotWritten : Prop :=
  ∀ (s : State) (op : PortOp) (page : Page) (data mask : Word), op.writes = true → page ≠ .global →
    s.wordOpen op (some page) 0x06 →
    ∃ t, exec (.registerWrite 0x06 data mask) s = .next t ∧ t.port.portError = true ∧
      (∀ c, (t.ch c).event = (s.ch c).event) ∧ OnlyPort s t

/-- COMPARE returns the word, shifts 0 under the mask and a result byte of 1 exactly when every bit of the mask agrees;
with no word behind the address it returns 0, a result of 0 and PORT_ERROR; nothing is cleared (R179, R186; the word is
the one that stands as the comparison completes, log entry 2). -/
def Obligations.CompareAnswers : Prop :=
  ∀ (s : State) (page : Option Page) (addr : Byte) (expected mask : Word), s.wordOpen .compare page addr →
    ∃ t, exec (.compare addr expected mask) s = .next t ∧ OnlyPort s t ∧ t.port.phase = .finished ∧
      t.port.configRefused = s.port.configRefused ∧
      (∀ p w, page = some p → s.readWord p addr.toNat = some w →
        t.port.portError = s.port.portError ∧
        ∃ hi lo result : Byte, t.port.shiftedOut = s.port.lead ++ [hi, lo, 0, 0, result] ∧ w = hi ++ lo ∧
          (result = 1 ∨ result = 0) ∧
          (result = 1 ↔ ∀ b, b < 16 → mask.getLsbD b = true → w.getLsbD b = expected.getLsbD b)) ∧
      (∀ p, page = some p → s.readWord p addr.toNat = none →
        t.port.portError = true ∧ t.port.shiftedOut = s.port.lead ++ [0, 0, 0, 0, 0]) ∧
      (page = none → t.port.portError = s.port.portError ∧ t.port.shiftedOut = s.port.lead ++ [0, 0, 0, 0, 0])

/-- In every state each word of each page reads its own fields, each in its bits, and an address with no word behind it
none (R137, R190, R194 to R196, R198). READ_AT_ABSENT_ADDRESS: a READ at such an address shifts 0, sets PORT_ERROR and
goes on at the next address; at a word it shifts the word out and, but for CHnEVENT, changes nothing (R179, R183; the
word is the one that stands as the read completes, log entry 2). -/
def Obligations.ReadShiftsWordsOut : Prop :=
  (∀ s : State, GlobalReads s (s.readWord .global) ∧ (∀ c, ChannelReads (s.ch c) (s.readWord (.ch c))) ∧
    ∀ a, s.readWord .allChannels a = none) ∧
  ∀ (s : State) (page : Option Page) (addr : Byte), s.wordOpen .read page addr →
    ∃ t, exec (.readAtAbsentAddress addr) s = .next t ∧ t.port.phase = .atWord .read page (addr + 1) ∧
      t.port.configRefused = s.port.configRefused ∧
      ((∀ c, page = some (.ch c) → addr ≠ 0x06) → OnlyPort s t) ∧
      (page = none → t.port.shiftedOut = s.port.lead ++ [0, 0] ∧ t.port.portError = s.port.portError) ∧
      (page = some .global → ¬ globalWord addr.toNat →
        t.port.shiftedOut = s.port.lead ++ [0, 0] ∧ t.port.portError = true) ∧
      (∀ c, page = some (.ch c) → ¬ channelWord addr.toNat →
        t.port.shiftedOut = s.port.lead ++ [0, 0] ∧ t.port.portError = true) ∧
      ((page = some .global ∧ globalWord addr.toNat) ∨ (∃ c, page = some (.ch c) ∧ channelWord addr.toNat) →
        t.port.portError = s.port.portError ∧
        ∃ (hi lo : Byte) (p : Page) (w : Word), t.port.shiftedOut = s.port.lead ++ [hi, lo] ∧ page = some p ∧
          s.readWord p addr.toNat = some w ∧ w = hi ++ lo)

/-- EVENT_READ on a channel page takes the event word for output at its first bit, changing no flag, and at its last bit
has returned that value and clears exactly the flags that were 1 in it, whatever events came between; with none between
the whole word is returned and every flag cleared. Other channels keep theirs. On a page that is read as empty a READ at
CHnEVENT returns 0 and clears nothing (R113, R118, R188). That one row stands for the word, its first bit or its last is
log entry 2, what is kept of the bytes SDO carried is log entry 20. -/
def Obligations.EventReadClears : Prop :=
  (∀ (s : State) (c : Channel) (i : Instr), i = .eventRead .whole ∨ i = .readAtAbsentAddress 0x06 →
    s.wordOpen .read (some (.ch c)) 0x06 →
    ∃ t, exec i s = .next t ∧
      (∃ hi lo : Byte, t.port.shiftedOut = s.port.lead ++ [hi, lo] ∧ (s.ch c).event.setWidth 16 = hi ++ lo) ∧
      t.port.phase = .atWord .read (some (.ch c)) 0x07 ∧ t.port.portError = s.port.portError ∧
      t.ch c = { s.ch c with event := 0 } ∧ OnlyChannel c s { t with port := s.port }) ∧
  (∀ (s : State) (c : Channel), s.wordOpen .read (some (.ch c)) 0x06 →
    ∃ t, exec (.eventRead .firstBit) s = .next t ∧ OnlyPort s t ∧ t.port = { s.port with
      phase := .inEvents c (s.ch c).event
      shiftedOut := if s.port.lead = [] then s.port.shiftedOut else s.port.lead }) ∧
  (∀ (s : State) (c : Channel) (taken : BitVec 9), s.port.phase = .inEvents c taken →
    ∃ t, exec (.eventRead .lastBit) s = .next t ∧
      (∃ hi lo : Byte, t.port.shiftedOut = [hi, lo] ∧ taken.setWidth 16 = hi ++ lo) ∧
      t.port.phase = .atWord .read (some (.ch c)) 0x07 ∧ t.port.portError = s.port.portError ∧
      (∀ k, (t.ch c).event.getLsbD k = ((s.ch c).event.getLsbD k && !taken.getLsbD k)) ∧
      { t.ch c with event := (s.ch c).event } = s.ch c ∧ OnlyChannel c s { t with port := s.port }) ∧
  ∀ (s : State), s.wordOpen .read none 0x06 → ∃ t, exec (.readAtAbsentAddress 0x06) s = .next t ∧
    t.port.shiftedOut = s.port.lead ++ [0, 0] ∧ OnlyPort s t

/-- ATTN_ENABLE sets or clears GCTRL's ATTN_ENABLE, and EVENT_ENABLE_WRITE the nine enables of every channel of the
page, in any channel state; neither changes anything else. ATTN is asserted exactly while ATTN_ENABLE is set with the
attention list not empty, or some channel has a flag and its enable both set, and its pin is driven low just then (R115
to R117, R188, R190, R193, R194). -/
def Obligations.EnablesGateAttn : Prop :=
  (∀ (s : State) (op : PortOp) (data mask : Word), op.writes = true → s.wordOpen op (some .global) 0x01 →
    ∃ t, exec (.attnEnable data mask) s = .next t ∧ t.port = s.port.written op (some .global) 0x01 ∧
      t.attnEnable = (if bitAt (wordMask op mask) 0 then bitAt data 0 else s.attnEnable) ∧
      { t with port := s.port, attnEnable := s.attnEnable } = s) ∧
  (∀ (s : State) (op : PortOp) (page : Page) (data mask : Word), op.writes = true → page ≠ .global →
    s.wordOpen op (some page) 0x07 →
    ∃ t, exec (.eventEnableWrite data mask) s = .next t ∧ t.port = s.port.written op (some page) 0x07 ∧
      { t with port := s.port, channels := s.channels } = s ∧
      ∀ c, { t.ch c with eventEnable := (s.ch c).eventEnable } = s.ch c ∧
        ∀ k, k < 9 → (t.ch c).eventEnable.getLsbD k =
          if page.covers c ∧ (wordMask op mask).getLsbD k = true then data.getLsbD k
          else (s.ch c).eventEnable.getLsbD k) ∧
  (∀ s : State, s.attn = true ↔
    (s.attnEnable = true ∧ s.attention ≠ []) ∨
      ∃ (c : Channel) (k : Nat), k < 9 ∧ (s.ch c).event.getLsbD k = true ∧
        (s.ch c).eventEnable.getLsbD k = true) ∧
  ∀ s : State, s.pins.attn = if s.attn then .low else .high

/-- CONFIG_WRITE is taken, in its assigned bits, by the channels of the page that are OFFLINE, and ignored with
CONFIG_REFUSED set when some channel of the page is not (R137, R188, R194, R196). -/
def Obligations.ConfigWordsAreTakenOffline : Prop :=
  ∀ (s : State) (op : PortOp) (page : Page) (w : ConfigWord) (data mask : Word), op.writes = true →
    page ≠ .global → s.wordOpen op (some page) (match w with
      | .cfgA => 0x01
      | .cfgB => 0x02
      | .cfgCFirst => 0x03
      | .cfgCSecond => 0x04) →
    ∃ t, exec (.configWrite w data mask) s = .next t ∧ { t with port := s.port, channels := s.channels } = s ∧
      (t.port.configRefused = true ↔
        s.port.configRefused = true ∨ ∃ c, page.covers c = true ∧ (s.ch c).state ≠ .offline) ∧
      t.port.portError = s.port.portError ∧
      ∀ c, (page.covers c = false ∨ (s.ch c).state ≠ .offline → t.ch c = s.ch c) ∧
        (page.covers c = true → (s.ch c).state = .offline →
          (∀ v, v ≠ w → (t.ch c).config v = (s.ch c).config v) ∧
          (∀ k, k < 16 → ((t.ch c).config w).getLsbD k =
            ((ConfigWord.assigned w).getLsbD k &&
              if (wordMask op mask).getLsbD k then data.getLsbD k else ((s.ch c).config w).getLsbD k)) ∧
          { t.ch c with cfgA := (s.ch c).cfgA, cfgB := (s.ch c).cfgB, cfgC1 := (s.ch c).cfgC1,
                        cfgC2 := (s.ch c).cfgC2 } = s.ch c)


/-! ### The controls of a channel -/

/-- CLEAR_COUNTERS sets all six counters of every channel of the page to 0, in any state and whatever else the word
carries; in a word that neither changes ENABLE nor carries RESTART or RECOVER nothing else of the channel changes
(R140, R141, R188, R189). What a word that does has for further effects is not spoken of here. -/
def Obligations.ClearCountersZeroesCounters : Prop :=
  ∀ (s : State) (op : PortOp) (page : Page) (data mask : Word), op.writes = true → page ≠ .global →
    s.wordOpen op (some page) 0x00 →
    ∃ t, exec (.clearCounters data mask) s = .next t ∧ t.port = s.port.written op (some page) 0x00 ∧
      OnlyPortAndChannels s t ∧
      ∀ c, (page.covers c = false → t.ch c = s.ch c) ∧
        (page.covers c = true → (t.ch c).counters = Counters.zero) ∧
        (page.covers c = true →
          (if bitAt (wordMask op mask) 0 then bitAt data 0 else (s.ch c).enable) = (s.ch c).enable →
          strobeIn op data mask 4 = false → strobeIn op data mask 5 = false →
          { t.ch c with counters := (s.ch c).counters } = s.ch c)

/-- CHANNEL_ENABLE on a channel whose ENABLE is 0: with every field of the configuration in range the channel enters
LISTENING, its silence timer and its wait for an end gap begun; otherwise CONFIG_ERROR is set and it stays OFFLINE.
With ENABLE already 1 and no other strobe nothing changes but the counters a CLEAR_COUNTERS clears (R138, R140,
R144, R145). -/
def Obligations.EnableEntersListening : Prop :=
  ∀ (s : State) (op : PortOp) (page : Page) (data mask : Word), (∀ c, (s.ch c).Ok) → op.writes = true →
    page ≠ .global → s.wordOpen op (some page) 0x00 →
    ∃ t, exec (.channelEnable data mask) s = .next t ∧ t.port = s.port.written op (some page) 0x00 ∧
      OnlyPortAndChannels s t ∧
      ∀ c, ∃ counters, counters = (if strobeIn op data mask 6 then Counters.zero else (s.ch c).counters) ∧
        (page.covers c = false → t.ch c = s.ch c) ∧
        (page.covers c = true → (s.ch c).enable = true → strobeIn op data mask 4 = false →
          strobeIn op data mask 5 = false → t.ch c = { s.ch c with counters := counters }) ∧
        (page.covers c = true → (s.ch c).enable = false →
          1 ≤ (s.ch c).own.toNat ∧ 20 ≤ (s.ch c).slotBits ∧ 1 ≤ (s.ch c).replyWindowSlots ∧
            1 ≤ (s.ch c).passTimeoutSlots ∧ 1 ≤ (s.ch c).visitBudget ∧ (s.ch c).visitBudget ≤ 8 ∧
            1 ≤ (s.ch c).errorRunLimit ∧ 1 ≤ (s.ch c).recoveryUnits →
          t.ch c = { s.ch c with
            counters := counters, enable := true, state := .listening, rx := .unsynced, errorRun := 0, joinCount := 0
            joinCursor := none, recovery := none
            silenceTimer := some ((40 + (s.ch c).own.toNat) * (s.ch c).slotBits) }) ∧
        (page.covers c = true → (s.ch c).enable = false →
          ¬ (1 ≤ (s.ch c).own.toNat ∧ 20 ≤ (s.ch c).slotBits ∧ 1 ≤ (s.ch c).replyWindowSlots ∧
            1 ≤ (s.ch c).passTimeoutSlots ∧ 1 ≤ (s.ch c).visitBudget ∧ (s.ch c).visitBudget ≤ 8 ∧
            1 ≤ (s.ch c).errorRunLimit ∧ 1 ≤ (s.ch c).recoveryUnits) →
          t.ch c = { s.ch c with counters := counters, event := (s.ch c).event ||| 0x100 })

/-- CHANNEL_DISABLE on a channel whose ENABLE is 1 takes it OFFLINE with the effects of R139; on a channel whose ENABLE
is 0 only a CLEAR_COUNTERS in the word acts (R138 to R140, R77; with ENABLE 0 the channel is OFFLINE). -/
def Obligations.DisableGoesOffline : Prop :=
  ∀ (s : State) (op : PortOp) (page : Page) (data mask : Word), (∀ c, (s.ch c).Ok) → op.writes = true →
    page ≠ .global → s.wordOpen op (some page) 0x00 →
    ∃ t, exec (.channelDisable data mask) s = .next t ∧ t.port = s.port.written op (some page) 0x00 ∧
      OnlyPortAndChannels s t ∧
      ∀ c, ∃ counters, counters = (if strobeIn op data mask 6 then Counters.zero else (s.ch c).counters) ∧
        (page.covers c = false → t.ch c = s.ch c) ∧
        (page.covers c = true → (s.ch c).enable = true →
          t.ch c = { (s.ch c).wentOffline with enable := false, counters := counters }) ∧
        (page.covers c = true → (s.ch c).enable = false → t.ch c = { s.ch c with counters := counters })

/-- RESTART in a word that does not change ENABLE: with ENABLE 1 the channel takes the effects of a disable and enters
LISTENING with no configuration check, and a RECOVER in the word is not acted on; with ENABLE 0 nothing changes but the
counters a CLEAR_COUNTERS clears (R140, R145, R189). -/
def Obligations.RestartReturnsToListening : Prop :=
  ∀ (s : State) (op : PortOp) (page : Page) (data mask : Word), (∀ c, (s.ch c).Ok) → op.writes = true →
    page ≠ .global → s.wordOpen op (some page) 0x00 →
    (∀ c, page.covers c = true →
      (if bitAt (wordMask op mask) 0 then bitAt data 0 else (s.ch c).enable) = (s.ch c).enable) →
    ∃ t, exec (.restart data mask) s = .next t ∧ t.port = s.port.written op (some page) 0x00 ∧
      OnlyPortAndChannels s t ∧
      ∀ c, ∃ counters, counters = (if strobeIn op data mask 6 then Counters.zero else (s.ch c).counters) ∧
        (page.covers c = false → t.ch c = s.ch c) ∧
        (page.covers c = true → (s.ch c).enable = true →
          t.ch c = { (s.ch c).wentOffline with
            counters := counters, state := .listening, rx := .unsynced, errorRun := 0, joinCount := 0
            silenceTimer := some ((40 + (s.ch c).own.toNat) * (s.ch c).slotBits) }) ∧
        (page.covers c = true → (s.ch c).enable = false → t.ch c = { s.ch c with counters := counters })

/-- RECOVER, in a word that neither changes ENABLE nor carries RESTART, moves a SILENT channel to LISTENING and changes
nothing in any other state but the counters a CLEAR_COUNTERS clears; RECOVERY_INTERVAL_EXPIRY does the same for a SILENT
channel whose recovery interval has run out (R145, R156, R189). -/
def Obligations.RecoveryResumesListening : Prop :=
  (∀ (s : State) (op : PortOp) (page : Page) (data mask : Word), op.writes = true → page ≠ .global →
    s.wordOpen op (some page) 0x00 → strobeIn op data mask 4 = false →
    (∀ c, page.covers c = true →
      (if bitAt (wordMask op mask) 0 then bitAt data 0 else (s.ch c).enable) = (s.ch c).enable) →
    ∃ t, exec (.recover data mask) s = .next t ∧ t.port = s.port.written op (some page) 0x00 ∧
      { t with port := s.port, channels := s.channels } = s ∧
      ∀ c, ∃ ce, ce = (if strobeIn op data mask 6 then { s.ch c with counters := Counters.zero } else s.ch c) ∧
        (page.covers c = false → t.ch c = s.ch c) ∧
        (page.covers c = true → (s.ch c).state = .silent → t.ch c = ce.recovered) ∧
        (page.covers c = true → (s.ch c).state ≠ .silent → t.ch c = ce)) ∧
  ∀ (s : State) (c : Channel), (s.ch c).recovery = some 0 →
    ∃ t, exec (.recoveryIntervalExpiry c) s = .next t ∧ OnlyChannel c s t ∧
      ((s.ch c).state = .silent → t.ch c = (s.ch c).recovered) ∧
      ((s.ch c).state ≠ .silent → t.ch c = { s.ch c with recovery := none })

/-! ### The command unit -/

/-- A CMDCODE word, of a WRITE or formed by a MASKED WRITE: while BUSY it only sets OVERRUN; otherwise a code that
names a command is accepted with the parameters as they stand, CLEAR TABLE only when every channel is OFFLINE and
owes no removal, and a code that names none is refused (R159, R177, R185). The rows DECLARE to UNKNOWN_COMMAND are
read as these words, and a REGISTER_WRITE at address 20 is one too (log entries 1 and 15). -/
def Obligations.CommandWordIsJudged : Prop :=
  ∀ (s : State) (op : PortOp) (i : Instr) (code : Word), op.writes = true →
    ((i, code) ∈ [(Instr.declare, (1 : Word)), (.amend, 2), (.find, 3), (.list, 4), (.fetch, 5), (.post, 6), (.send, 7),
        (.recall, 8), (.cancel, 9), (.suspend, 10), (.resume, 11), (.retire, 12), (.take, 13), (.clearTable, 14)] ∨
      (i = .unknownCommand code ∧ (code.toNat = 0 ∨ 14 < code.toNat)) ∨
      ∃ data mask, i = .registerWrite 0x20 data mask ∧ ∀ k, k < 16 → code.getLsbD k =
        if (wordMask op mask).getLsbD k then data.getLsbD k else s.cu.code.getLsbD k) →
    s.wordOpen op (some .global) 0x20 →
    ∃ t, exec i s = .next t ∧ t.port = s.port.written op (some .global) 0x20 ∧
      { t with port := s.port, cu := s.cu, turn := s.turn } = s ∧ (t.turn = s.turn ∨ t.turn = s.nextServed) ∧
      t.cu.params = s.cu.params ∧
      (s.cu.phase = .busy → t.cu = { s.cu with overrun := true }) ∧
      (s.cu.phase ≠ .busy → t.cu.code = code ∧ t.cu.overrun = false ∧ t.cu.rowNumber = 0 ∧
        (∀ k : Fin 16, t.cu.results[k] = 0) ∧ t.cu.wait = none) ∧
      (s.cu.phase ≠ .busy → code.toNat = 0 ∨ 14 < code.toNat →
        t.cu.phase = .refused ∧ t.cu.resultCode = .unknownCommand ∧ t.cu.working = none ∧ t.cu.requested = false) ∧
      (s.cu.phase ≠ .busy → code = 14 → (∃ c, (s.ch c).state ≠ .offline ∨ .removal ∈ (s.ch c).requests) →
        t.cu.phase = .refused ∧ t.cu.resultCode = .channelsOnline ∧ t.cu.working = none ∧ t.cu.requested = false) ∧
      (s.cu.phase ≠ .busy → 1 ≤ code.toNat → code.toNat ≤ 14 →
        (code = 14 → ∀ c, (s.ch c).state = .offline ∧ .removal ∉ (s.ch c).requests) →
        t.cu.phase = .busy ∧ t.cu.resultCode = .none ∧ t.cu.working = some s.cu.params ∧ t.cu.requested = true)

/-! ### The fourteen commands -/

/-- DECLARE: its checks in order, then the lowest-numbered FREE row set up from the parameters, its topic in the index
and its deadline started (R17, R164, R165, R199). The word and its transaction are two rows (log entry 1), a visit with
nothing to send meets a row that has become pending (log entry 13), and a command taken while another request waits, an
expiry among them, is not spoken of. -/
def Obligations.DeclareTakesTheLowestFreeRow : Prop :=
  ∀ s : State, s.Ready → ∃ u, Carried .declare s u ∧
    let p := s.cu.params
    let role : Role := if p[1].getLsbD 0 then .produced else .consumed
    let source : ChannelMask := p[1].extractLsb' 4 4
    let send : ChannelMask := p[1].extractLsb' 8 4
    let topicBad := p[0].toNat = 0 ∨ 4094 < p[0].toNat
    let timingBad := TimingUnsuited role p[3] p[4] (p[1].getLsbD 12) (p[1].getLsbD 13)
    let inUse := ∃ r, (p[0], r) ∈ s.topicIndex
    (topicBad → Refuses s u .badTopic) ∧
    (¬ topicBad → 16 < p[2].toNat → Refuses s u .badLength) ∧
    (¬ topicBad → p[2].toNat ≤ 16 → MasksUnsuited role source send → Refuses s u .badMask) ∧
    (¬ topicBad → p[2].toNat ≤ 16 → ¬ MasksUnsuited role source send → timingBad → Refuses s u .badTiming) ∧
    (¬ topicBad → p[2].toNat ≤ 16 → ¬ MasksUnsuited role source send → ¬ timingBad → inUse →
      Refuses s u .topicInUse) ∧
    (¬ topicBad → p[2].toNat ≤ 16 → ¬ MasksUnsuited role source send → ¬ timingBad → ¬ inUse →
      (∀ r, (s.row r).state ≠ .free) → Refuses s u .tableFull) ∧
    (¬ topicBad → p[2].toNat ≤ 16 → ¬ MasksUnsuited role source send → ¬ timingBad → ¬ inUse →
      ∀ r, (s.row r).state = .free → (∀ q, q < r → (s.row q).state ≠ .free) →
      ∃ bytes, ImageWordsHold (fun k => p.toList.getD (7 + k) 0) bytes ∧
        u.row r = { Row.free with
          state := if p[1].getLsbD 15 then .live else .awaiting
          topic := some p[0], role := role, cls := Fin.ofNat 4 (p[1].extractLsb' 1 2).toNat, length := p[2].toNat
          sourceMask := source, sendMask := send
          image := if p[1].getLsbD 15 then some (bytes.take p[2].toNat) else none
          generation := if p[1].getLsbD 15 then 1 else 0
          sequence := if p[1].getLsbD 15 = true ∧ role = .produced then 1 else 0
          freshnessLimit := p[3], refreshPeriod := p[4], inhibitGap := p[5].extractLsb' 0 8
          confirmStation := (p[5].extractLsb' 8 5).setWidth 8
          recallOnStale := p[1].getLsbD 12, sequenceCheck := p[1].getLsbD 13
          attentionMask := p[6].extractLsb' 0 8
          freshness := startedDeadline p[3].toNat, refresh := startedDeadline p[4].toNat } ∧
        (∀ q, q ≠ r → u.row q = s.row q) ∧ u.topicIndex = s.topicIndex ++ [(p[0], r)] ∧
        u.attention = s.attention ∧ u.channels = s.channels.map ChannelEngine.wake ∧
        LeftDueList r (fun k => k ≠ .gap) s u ∧
        Finishes u r.val [rowStateWord r (if p[1].getLsbD 15 then .live else .awaiting)])

/-- AMEND: its checks in order, then the selected fields replaced, the deadlines whose lengths changed restarted or
stopped unless the row is SUSPENDED, and everything else of the row kept (R21, R97, R166, R199, R200). The word and its
transaction are two rows (log entry 1), a visit with nothing to send meets a row that has become pending (log entry
13), and a command taken while another request waits, an expiry among them, is not spoken of. -/
def Obligations.AmendReplacesSelectedFields : Prop :=
  ∀ s : State, s.Ready → ∃ u, Carried .amend s u ∧
    let p := s.cu.params
    (NamesNone s p[0] → Refuses s u .noRow) ∧
    ∀ r, Names s p[0] r →
      let old := s.row r
      let mask : ReasonSet := if p[1].getLsbD 0 then p[2].extractLsb' 0 8 else old.attentionMask
      let limit := if p[1].getLsbD 1 then p[3] else old.freshnessLimit
      let period := if p[1].getLsbD 2 then p[4] else old.refreshPeriod
      let gap : Byte := if p[1].getLsbD 3 then p[5].extractLsb' 0 8 else old.inhibitGap
      let confirm : Byte := if p[1].getLsbD 4 then (p[5].extractLsb' 8 5).setWidth 8 else old.confirmStation
      let recallFlag := if p[1].getLsbD 5 then p[2].getLsbD 12 else old.recallOnStale
      let sequenceFlag := if p[1].getLsbD 6 then p[2].getLsbD 13 else old.sequenceCheck
      let bad := TimingUnsuited old.role limit period recallFlag sequenceFlag
      (old.state = .retiring → Refuses s u .wrongState) ∧
      (old.state ≠ .retiring → bad → Refuses s u .badTiming) ∧
      (old.state ≠ .retiring → ¬ bad →
        u.row r = { old with
          attentionMask := mask, freshnessLimit := limit, refreshPeriod := period, inhibitGap := gap
          confirmStation := confirm, recallOnStale := recallFlag, sequenceCheck := sequenceFlag
          freshness := if limit ≠ old.freshnessLimit ∧ old.state ≠ .suspended then startedDeadline limit.toNat
            else old.freshness
          refresh := if period ≠ old.refreshPeriod ∧ old.state ≠ .suspended then startedDeadline period.toNat
            else old.refresh } ∧
        OtherRowsSame r s u ∧ u.channels = s.channels.map ChannelEngine.wake ∧
        LeftDueList r (fun k => old.state ≠ .suspended ∧
          ((k = .freshness ∧ limit ≠ old.freshnessLimit) ∨ (k = .refresh ∧ period ≠ old.refreshPeriod))) s u ∧
        Finishes u r.val [rowStateWord r old.state,
          BitVec.ofNat 16 (8192 * sequenceFlag.toNat + 4096 * recallFlag.toNat + mask.toNat), limit, period,
          BitVec.ofNat 16 (256 * confirm.toNat + gap.toNat)])

/-- FIND gives the row the topic index maps a topic to, LIST the lowest-numbered row in use at or above a start row, or
each is refused with NOT_FOUND; neither changes the table or the lists (R167, R200). The word and its transaction are
two rows (log entry 1), a visit with nothing to send meets a row that has become pending (log entry 13), and a command
taken while another request waits, an expiry among them, is not spoken of. -/
def Obligations.FindAndListReportRows : Prop :=
  (∀ s : State, s.Ready → ∃ u, Carried .find s u ∧
    ((∀ r, (s.cu.params[0], r) ∉ s.topicIndex) → Refuses s u .notFound) ∧
    (s.TopicsOk → ∀ r, (s.cu.params[0], r) ∈ s.topicIndex →
      SameTable s u ∧ Finishes u r.val [rowStateWord r (s.row r).state])) ∧
  ∀ s : State, s.Ready → ∃ u, Carried .list s u ∧
    ((∀ r : RowId, s.cu.params[0].toNat ≤ r.val → (s.row r).state = .free) → Refuses s u .notFound) ∧
    ∀ r : RowId, s.cu.params[0].toNat ≤ r.val → (s.row r).state ≠ .free →
      (∀ q : RowId, s.cu.params[0].toNat ≤ q.val → q < r → (s.row q).state = .free) →
      SameTable s u ∧ Finishes u r.val [rowStateWord r (s.row r).state, (s.row r).topic.getD 0]

/-- FETCH copies the row into the sixteen result words, with its clearing option sets the reject count to 0 after the
copy, and changes nothing else (R10, R168, R194, R197, R200). The word and its transaction are two rows (log entry 1),
a visit with nothing to send meets a row that has become pending (log entry 13), and a command taken while another
request waits, an expiry among them, is not spoken of. -/
def Obligations.FetchCopiesTheRow : Prop :=
  ∀ s : State, s.Ready → ∃ u, Carried .fetch s u ∧
    (NamesNone s s.cu.params[0] → Refuses s u .noRow) ∧
    ∀ r, Names s s.cu.params[0] r → (s.row r).Ok →
      let row := s.row r
      let sends (c : Channel) := (row.side.get c).sendState.code
      let lasts (c : Channel) := (row.side.get c).lastResult.code
      u.row r = { row with rejectCount := if s.cu.params[1].getLsbD 0 then 0 else row.rejectCount } ∧
        OtherRowsSame r s u ∧ u.iu = s.iu ∧ u.channels = s.channels.map ChannelEngine.wake ∧
        ∃ images : List Word, images.length = 8 ∧
          (∃ bytes, ImageWordsHold (fun k => images.getD k 0) bytes ∧
            (∀ image, row.image = some image → bytes.take row.length = image ∧ ∀ b ∈ bytes.drop row.length, b = 0) ∧
            (row.image = none → ∀ b ∈ bytes, b = 0)) ∧
          Finishes u r.val
            ([BitVec.ofNat 16 (64 * row.arrivalChannel.isSome.toNat + 32 * row.sourceStation.isSome.toNat +
                16 * row.image.isSome.toNat + row.state.code),
              row.topic.getD 0, row.generation,
              BitVec.ofNat 16 (256 * row.sequence.toNat + (row.sourceStation.getD 0).toNat), row.age,
              BitVec.ofNat 16 (64 * sends 3 + 16 * sends 2 + 4 * sends 1 + sends 0),
              BitVec.ofNat 16 (4096 * lasts 3 + 256 * lasts 2 + 16 * lasts 1 + lasts 0),
              BitVec.ofNat 16 (256 * (row.arrivalChannel.getD 0).val + row.rejectCount.toNat)] ++ images)

/-- POST: its checks in order, then the image stored whole, generation and sequence advanced, the age 0, the row LIVE,
and one enqueue request on every channel of the send mask (R5, R6, R18, R170). The word and its transaction are two
rows (log entry 1), a visit with nothing to send meets a row that has become pending (log entry 13), and a command
taken while another request waits, an expiry among them, is not spoken of. -/
def Obligations.PostStoresAndEnqueues : Prop :=
  ∀ s : State, s.Ready → ∃ u, Carried .post s u ∧
    let p := s.cu.params
    (NamesNone s p[0] → Refuses s u .noRow) ∧
    ∀ r, Names s p[0] r →
      let old := s.row r
      (old.role = .consumed → Refuses s u .wrongRole) ∧
      (old.role = .produced → old.state = .suspended ∨ old.state = .retiring → Refuses s u .wrongState) ∧
      (old.role = .produced → old.state ≠ .suspended → old.state ≠ .retiring →
        ∃ bytes, ImageWordsHold (fun k => p.toList.getD (1 + k) 0) bytes ∧
          let stored := s.updRow r fun row =>
            { row with image := some (bytes.take row.length), generation := row.generation + 1
                       sequence := (row.generation + 1).setWidth 8, age := 0, state := .live }
          let asked := stored.enqueue .post r old.sendMask
          u.rows = asked.1.rows ∧ u.attention = asked.1.attention ∧ u.iu = asked.1.iu ∧
            u.topicIndex = s.topicIndex ∧ u.channels = asked.1.channels.map ChannelEngine.wake ∧
            (u.row r).image = some (bytes.take old.length) ∧ (u.row r).generation = old.generation + 1 ∧
            (u.row r).sequence = (old.generation + 1).setWidth 8 ∧ (u.row r).age = 0 ∧
            (u.row r).state = .live ∧ (∀ q, q ≠ r → u.row q = s.row q) ∧
            (∀ c, inMask old.sendMask c = false → asked.2.get c = .notNamed) ∧
            Finishes u r.val ((old.generation + 1) :: outcomePair asked.2.get))

/-- SEND and RECALL: their checks in order, then one enqueue request on the named channels of the send mask, or of the
source mask, whose outcomes are the result; image, generation and age stay (R62, R169, R171). The word and its
transaction are two rows (log entry 1), a visit with nothing to send meets a row that has become pending (log entry
13), and a command taken while another request waits, an expiry among them, is not spoken of. -/
def Obligations.SendAndRecallEnqueue : Prop :=
  (∀ s : State, s.Ready → ∃ u, Carried .send s u ∧
    (NamesNone s s.cu.params[0] → Refuses s u .noRow) ∧
    ∀ r, Names s s.cu.params[0] r →
      ((s.row r).role = .consumed → Refuses s u .wrongRole) ∧
      ((s.row r).role = .produced → (s.row r).state ≠ .live → Refuses s u .wrongState) ∧
      ((s.row r).role = .produced → (s.row r).state = .live →
        let asked := s.enqueue .sendCommand r (s.cu.params[1].extractLsb' 0 4 &&& (s.row r).sendMask)
        u.rows = asked.1.rows ∧ u.attention = asked.1.attention ∧ u.iu = asked.1.iu ∧
          u.topicIndex = s.topicIndex ∧ u.channels = asked.1.channels.map ChannelEngine.wake ∧
          (u.row r).image = (s.row r).image ∧ (u.row r).generation = (s.row r).generation ∧
          (u.row r).age = (s.row r).age ∧
          (∀ c, (s.cu.params[1].getLsbD c.val && inMask (s.row r).sendMask c) = false → asked.2.get c = .notNamed) ∧
          Finishes u r.val (0 :: outcomePair asked.2.get))) ∧
  ∀ s : State, s.Ready → ∃ u, Carried .recall s u ∧
    (NamesNone s s.cu.params[0] → Refuses s u .noRow) ∧
    ∀ r, Names s s.cu.params[0] r →
      ((s.row r).role = .produced → Refuses s u .wrongRole) ∧
      ((s.row r).role = .consumed → (s.row r).state = .suspended ∨ (s.row r).state = .retiring →
        Refuses s u .wrongState) ∧
      ((s.row r).role = .consumed → (s.row r).state ≠ .suspended → (s.row r).state ≠ .retiring →
        let asked := s.enqueue .recallCommand r (s.cu.params[1].extractLsb' 0 4 &&& (s.row r).sourceMask)
        u.rows = asked.1.rows ∧ u.attention = asked.1.attention ∧ u.iu = asked.1.iu ∧
          u.topicIndex = s.topicIndex ∧ u.channels = asked.1.channels.map ChannelEngine.wake ∧
          (u.row r).image = (s.row r).image ∧ (u.row r).generation = (s.row r).generation ∧
          (u.row r).age = (s.row r).age ∧
          (∀ c, (s.cu.params[1].getLsbD c.val && inMask (s.row r).sourceMask c) = false →
            asked.2.get c = .notNamed) ∧
          Finishes u r.val (0 :: outcomePair asked.2.get))

/-- CANCEL takes the row off the named channels where it is PENDING or HELD, sets the cancel-requested mark where it is
IN_FLIGHT and then waits for those channels with every result word 0, and ends DONE at once where there are none (R76,
R162, R172). The word and its transaction are two rows (log entry 1), a visit with nothing to send meets a row that has
become pending (log entry 13), and a command taken while another request waits, an expiry among them, is not spoken of.
-/
def Obligations.CancelRemovesOrWaits : Prop :=
  ∀ s : State, s.Ready → ∃ u, Carried .cancel s u ∧
    (NamesNone s s.cu.params[0] → Refuses s u .noRow) ∧
    ∀ r, Names s s.cu.params[0] r →
      let old := s.row r
      let named (c : Channel) : Bool :=
        s.cu.params[1].getLsbD c.val && (inMask old.sourceMask c || inMask old.sendMask c)
      let report (c : Channel) : ChannelOutcome :=
        if named c then removalReport (old.side.get c) .notNamed else .notNamed
      OtherRowsSame r s u ∧ u.iu = s.iu ∧ { u.row r with side := old.side, heldMask := old.heldMask } = old ∧
      (∀ c, inMask (u.row r).heldMask c =
        (inMask old.heldMask c && !(named c && decide (old.sendStateOn c = .held)))) ∧
      (∀ c, (named c = false → (u.row r).side.get c = old.side.get c) ∧
        (named c = true → old.sendStateOn c ≠ .inFlight → (u.row r).side.get c = (old.side.get c).removed) ∧
        (named c = true → old.sendStateOn c = .inFlight →
          (u.row r).side.get c = { old.side.get c with cancelRequested := true }) ∧
        u.ch c = ((s.ch c).without r (named c && decide (old.sendStateOn c = .pending))).wake) ∧
      ((∀ c, named c = true → old.sendStateOn c ≠ .inFlight) → Finishes u r.val (0 :: outcomePair report)) ∧
      ((∃ c, named c = true ∧ old.sendStateOn c = .inFlight) →
        u.cu.phase = .busy ∧ u.cu.resultCode = .none ∧ u.cu.rowNumber = 0 ∧ (∀ k : Fin 16, u.cu.results[k] = 0) ∧
        ∃ w, u.cu.wait = some w ∧ w.isCancel = true ∧ w.row = r ∧ ∀ c, w.outcomes.get c = report c ∧
          (inMask w.awaited c = true ↔ named c = true ∧ old.sendStateOn c = .inFlight))

/-- SUSPEND: its checks, then the row SUSPENDED, off every channel where it was PENDING or HELD, its gap and its three
deadlines stopped, an attempt in flight left running; everything else of the row is kept, and a channel of neither mask
of the row reports NOT_NAMED (R19, R98, R161, R173). The word and its transaction are two rows (log entry 1), a visit
with nothing to send meets a row that has become pending (log entry 13), and a command taken while another request
waits, an expiry among them, is not spoken of. -/
def Obligations.SuspendTakesOutOfService : Prop :=
  ∀ s : State, s.Ready → ∃ u, Carried .suspend s u ∧
    (NamesNone s s.cu.params[0] → Refuses s u .noRow) ∧
    ∀ r, Names s s.cu.params[0] r →
      let old := s.row r
      (old.state = .suspended ∨ old.state = .retiring → Refuses s u .wrongState) ∧
      (old.state ≠ .suspended → old.state ≠ .retiring →
        u.row r = { old with
          state := .suspended, side := old.side.map Side.removed, heldMask := 0, gapRunning := false
          freshness := .stopped, refresh := .stopped, gap := .stopped } ∧
        OtherRowsSame r s u ∧ LeftDueList r (fun _ => True) s u ∧
        (∀ c, u.ch c = ((s.ch c).without r (decide (old.sendStateOn c = .pending))).wake) ∧
        Finishes u r.val (0 :: outcomePair (removalReports old .running)))

/-- RESUME: its checks, then the row STALE, LIVE or AWAITING by its role and image, with the deadline of its role
started; no request is made and no reason recorded (R20, R98, R174, R200). The word and its transaction are two rows
(log entry 1), a visit with nothing to send meets a row that has become pending (log entry 13), and a command taken
while another request waits, an expiry among them, is not spoken of. -/
def Obligations.ResumeReturnsToService : Prop :=
  ∀ s : State, s.Ready → ∃ u, Carried .resume s u ∧
    (NamesNone s s.cu.params[0] → Refuses s u .noRow) ∧
    ∀ r, Names s s.cu.params[0] r →
      let old := s.row r
      let state : RowState := if old.image = none then .awaiting else if old.role = .consumed then .stale else .live
      (old.state ≠ .suspended → Refuses s u .wrongState) ∧
      (old.state = .suspended →
        u.row r = { old with
          state := state
          freshness := if old.role = .consumed then startedDeadline old.freshnessLimit.toNat else old.freshness
          refresh := if old.role = .produced then startedDeadline old.refreshPeriod.toNat else old.refresh } ∧
        OtherRowsSame r s u ∧ u.channels = s.channels.map ChannelEngine.wake ∧
        LeftDueList r (fun k => (k = .freshness ∧ old.role = .consumed) ∨ (k = .refresh ∧ old.role = .produced)) s u ∧
        Finishes u r.val [rowStateWord r state])

/-- RETIRE: its checks, then the row off every channel where it was PENDING or HELD and its deadlines stopped; with no
attempt in flight it becomes FREE, leaves the topic index and the attention list, and the command ends; otherwise it
becomes RETIRING and the command waits for its attempts; a channel of neither mask of the row reports NOT_NAMED (R22,
R23, R161, R162, R175). The word and its transaction are two rows (log entry 1), a visit with nothing to send meets a
row that has become pending (log entry 13), and a command taken while another request waits, an expiry among them, is
not spoken of. -/
def Obligations.RetireFreesOrWaits : Prop :=
  ∀ s : State, s.Ready → ∃ u, Carried .retire s u ∧
    (NamesNone s s.cu.params[0] → Refuses s u .noRow) ∧
    ∀ r, Names s s.cu.params[0] r →
      let old := s.row r
      let report := removalReports old .notNamed
      (old.state = .retiring → Refuses s u .wrongState) ∧
      (old.state ≠ .retiring →
        (∀ q, q ≠ r → u.row q = s.row q) ∧ LeftDueList r (fun _ => True) s u ∧
        (∀ c, u.ch c = ((s.ch c).without r (decide (old.sendStateOn c = .pending))).wake) ∧
        ((∀ c, old.sendStateOn c ≠ .inFlight) →
          u.row r = Row.free ∧ (∀ e, e ∈ u.topicIndex ↔ e ∈ s.topicIndex ∧ e.2 ≠ r) ∧
          u.attention = s.attention.filter (fun e => e.row ≠ r) ∧ Finishes u r.val (0 :: outcomePair report)) ∧
        ((∃ c, old.sendStateOn c = .inFlight) →
          u.row r = { old with
            state := .retiring, side := old.side.map Side.removed, heldMask := 0, gapRunning := false
            freshness := .stopped, refresh := .stopped, gap := .stopped } ∧
          u.topicIndex = s.topicIndex ∧ u.attention = s.attention ∧
          u.cu.phase = .busy ∧ u.cu.resultCode = .none ∧ u.cu.rowNumber = 0 ∧ (∀ k : Fin 16, u.cu.results[k] = 0) ∧
          ∃ w, u.cu.wait = some w ∧ w.isCancel = false ∧ w.row = r ∧ ∀ c, w.outcomes.get c = report c ∧
            (inMask w.awaited c = true ↔ old.sendStateOn c = .inFlight)))

/-- TAKE removes the head entry of the attention list and returns its row, its reasons and the row's generation as it
stands, or is refused with EMPTY; it changes no row (R108, R176, R200). The word and its transaction are two rows (log
entry 1), a visit with nothing to send meets a row that has become pending (log entry 13), and a command taken while
another request waits, an expiry among them, is not spoken of. -/
def Obligations.TakeRemovesTheHead : Prop :=
  ∀ s : State, s.Ready → ∃ u, Carried .take s u ∧
    (s.attention = [] → Refuses s u .empty) ∧
    ∀ e rest, s.attention = e :: rest →
      u.attention = rest ∧ u.rows = s.rows ∧ u.topicIndex = s.topicIndex ∧ u.iu = s.iu ∧
        u.channels = s.channels.map ChannelEngine.wake ∧
        Finishes u e.row.val [BitVec.ofNat 16 e.row.val, BitVec.ofNat 16 e.reasons.toNat, (s.row e.row).generation]

/-- CLEAR_TABLE with every channel OFFLINE and no removal waiting frees every row and empties the topic index, the
attention list and the due list, leaving every channel engine as it is; its transaction refuses it, the table left as
it is, where a channel has left OFFLINE meanwhile (R25, R177). The word and its transaction are two rows (log entry 1),
a visit with nothing to send meets a row that has become pending (log entry 13), and a command taken while another
request waits, an expiry among them, is not spoken of. -/
def Obligations.ClearTableFreesEveryRow : Prop :=
  (∀ s : State, s.Ready → (∀ c, (s.ch c).state = .offline) → ∃ u, Carried .clearTable s u ∧
    (∀ r, u.row r = Row.free) ∧ u.topicIndex = [] ∧ u.attention = [] ∧
    u.iu = { dueList := [], presented := none, tickCount := s.iu.tickCount } ∧ u.channels = s.channels ∧
    Finishes u 0 []) ∧
  ∀ (s : State) (p : Vector Word 16), s.cu.code = 14 → s.cu.requested = true → s.cu.working = some p →
    s.nextServed = some .cu → (∃ c, (s.ch c).state ≠ .offline ∨ .removal ∈ (s.ch c).requests) →
    ∃ u, exec .commandTransaction s = .next u ∧ u.cu.phase = .refused ∧ u.cu.resultCode = .channelsOnline ∧
      u.cu.rowNumber = 0 ∧ SameTable s u

/-! ### Enqueue requests -/

/-- An enqueue request does on each channel it names what the first matching line of R57's table says, judged by the gap
as the request found it, a full drop as R58 has it; where it made a channel PENDING it starts the gap and the refresh
deadline once (R59); a row out of service refuses it whole (R56). -/
def Obligations.EnqueueFollowsTheTable : Prop :=
  ∀ (s : State) (src : Source) (r : RowId) (mask : ChannelMask),
    let row := s.row r
    let side (c : Channel) : Side := row.side.get c
    let off (c : Channel) : Prop := (s.ch c).state = .offline ∨ .removal ∈ (s.ch c).requests
    let recalls (c : Channel) : Prop := row.role = .consumed ∧ inMask row.sourceMask c = true
    let rows (c : Channel) : Nat :=
      (s.ch c).lists.q0.length + (s.ch c).lists.q1.length + (s.ch c).lists.q2.length + (s.ch c).lists.q3.length +
        (if (s.ch c).inFlight = none then 0 else 1)
    ∃ u o, s.enqueue src r mask = (u, o) ∧
      (¬ row.serves → u = s ∧ ∀ c, o.get c = .notNamed) ∧
      (row.serves →
        let after (c : Channel) : Side := (u.row r).side.get c
        let queued : Prop := ∃ c, o.get c = .queued
        let dropped : Prop := ∃ c, o.get c = .droppedFull
        (∀ c, inMask mask c = false → o.get c = .notNamed ∧ after c = side c ∧ u.ch c = s.ch c) ∧
        (∀ c, inMask mask c = true →
          (off c → o.get c = .channelOff ∧ after c = { side c with lastResult := .channelOff } ∧ u.ch c = s.ch c) ∧
          (¬ off c → ¬ recalls c → row.image = none → o.get c = .noImage ∧ after c = side c ∧ u.ch c = s.ch c) ∧
          (¬ off c → recalls c ∨ row.image ≠ none →
            ((side c).sendState = .held ∨ (side c).sendState = .pending ∨ ((side c).sendState = .inFlight ∧
              src ≠ .post) →
              o.get c = .already ∧ after c = side c ∧ u.ch c = s.ch c) ∧
            ((side c).sendState = .inFlight → src = .post →
              o.get c = .renewed ∧ after c = { side c with renewed := true } ∧ u.ch c = s.ch c) ∧
            ((side c).sendState = .idle → row.gapRunning = true →
              o.get c = .held ∧ after c = { side c with sendState := .held } ∧ u.ch c = s.ch c) ∧
            ((side c).sendState = .idle → row.gapRunning = false → 24 ≤ rows c →
              o.get c = .droppedFull ∧ after c = { side c with lastResult := .droppedFull } ∧
              (u.ch c).counters.fullDrops.toNat = min 65535 ((s.ch c).counters.fullDrops.toNat + 1) ∧
              { u.ch c with counters := { (u.ch c).counters with fullDrops := (s.ch c).counters.fullDrops } } =
                s.ch c) ∧
            ((side c).sendState = .idle → row.gapRunning = false → rows c < 24 →
              o.get c = .queued ∧ after c = { side c with sendState := .pending } ∧
              u.ch c = { s.ch c with
                lists := (s.ch c).lists.set row.cls ((s.ch c).lists.get row.cls ++ [r]) }))) ∧
        (∀ c, inMask (u.row r).heldMask c = (inMask row.heldMask c || decide (o.get c = .held))) ∧
        { u.row r with side := row.side, heldMask := row.heldMask, gapRunning := row.gapRunning, gap := row.gap
                       refresh := row.refresh } = row ∧
        (queued → row.inhibitGap ≠ 0 →
          (u.row r).gapRunning = true ∧ (u.row r).gap = startedDeadline row.inhibitGap.toNat) ∧
        (¬ queued ∨ row.inhibitGap = 0 → (u.row r).gapRunning = row.gapRunning ∧ (u.row r).gap = row.gap) ∧
        (queued → row.role = .produced → row.refreshPeriod ≠ 0 →
          (u.row r).refresh = startedDeadline row.refreshPeriod.toNat) ∧
        (¬ queued ∨ row.role = .consumed ∨ row.refreshPeriod = 0 → (u.row r).refresh = row.refresh) ∧
        (¬ queued → u.iu = s.iu) ∧
        (queued → u.iu =
          (let iu := if row.inhibitGap ≠ 0 then s.iu.less { row := r, kind := .gap } else s.iu
           if row.role = .produced ∧ row.refreshPeriod ≠ 0 then iu.less { row := r, kind := .refresh } else iu)) ∧
        (dropped → u.attention = attentionAfter s.attention r (row.attentionMask &&& 0x40)) ∧
        (¬ dropped → u.attention = s.attention) ∧ (∀ q, q ≠ r → u.row q = s.row q) ∧
        { u with rows := s.rows, channels := s.channels, iu := s.iu, attention := s.attention } = s)

/-! ### Time -/

/-- TICK counts every row's age that is not FREE, counts every RUNNING deadline down, makes DUE the deadlines whose
last tick had already come and puts them on the due list in its order, and counts the recovery intervals; a deadline of
length d comes to its last tick at the (d+1)th (R85, R86, R88, R99, R156; the split of a tick and its due events is log
entry 3). DEADLINE_DUE makes the first deadline of that order DUE and presents the head of the due list; that with no
deadline at its last tick it changes nothing is the model's choice (log entry 8). -/
def Obligations.TicksRunDeadlinesToDue : Prop :=
  let atLast (s : State) (e : DueEntry) : Prop := ∃ d, (s.row e.row).deadline e.kind = .running d 0
  (∀ s : State, ∃ t, exec .tick s = .next t ∧
    { t with rows := s.rows, channels := s.channels, iu := s.iu, turn := s.turn } = s ∧
    (t.turn = s.turn ∨ t.turn = s.nextServed) ∧ t.iu.tickCount = s.iu.tickCount + 1 ∧
    (∀ r, (t.row r).age.toNat =
        (if (s.row r).state = .free then (s.row r).age.toNat else min 65535 ((s.row r).age.toNat + 1)) ∧
      { t.row r with age := (s.row r).age, freshness := (s.row r).freshness, refresh := (s.row r).refresh,
                     gap := (s.row r).gap } = s.row r ∧
      ∀ k, (t.row r).deadline k = match (s.row r).deadline k with
        | .running d (n + 1) => .running d n
        | .running d 0 => .due d
        | .due d => .due d
        | .stopped => .stopped) ∧
    (∃ joined : List DueEntry, joined.Pairwise (fun a b => a.place < b.place) ∧ (∀ e, e ∈ joined ↔ atLast s e) ∧
      (s.iu.presented = none → t.iu.offers (s.iu.dueList ++ joined)) ∧
      ∀ p, s.iu.presented = some p → t.iu.presented = some p ∧ t.iu.dueList = s.iu.dueList ++ joined) ∧
    ∀ c, ((s.ch c).recovery ≠ some 0 → t.ch c = { s.ch c with recovery := (s.ch c).recovery.map fun n => n - 1 }) ∧
      ((s.ch c).recovery = some 0 → t.ch c =
        if (s.ch c).state = .silent then (s.ch c).recovered else { s.ch c with recovery := none })) ∧
  (∀ (states : Nat → State) (d : Nat) (r : RowId) (k : DeadlineKind),
    (∀ n, n ≤ d → exec .tick (states n) = .next (states (n + 1))) →
    ((states 0).row r).deadline k = .running d (d + 1) →
    ∀ n, n ≤ d + 1 → ((states n).row r).deadline k = .running d (d + 1 - n)) ∧
  (∀ (s : State) (e : DueEntry) (d : Nat), (s.row e.row).deadline e.kind = .running d 0 →
    (∀ f : DueEntry, f.place < e.place → ¬ atLast s f) →
    ∃ t, exec .deadlineDue s = .next t ∧ { t with rows := s.rows, iu := s.iu, turn := s.turn } = s ∧
      (t.turn = s.turn ∨ t.turn = s.nextServed) ∧
      t.iu.tickCount = s.iu.tickCount ∧ (∀ q, q ≠ e.row → t.row q = s.row q) ∧
      t.row e.row = (s.row e.row).withDeadline e.kind (.due d) ∧
      (s.iu.presented = none → t.iu.offers (s.iu.dueList ++ [e])) ∧
      ∀ p, s.iu.presented = some p → t.iu.presented = some p ∧ t.iu.dueList = s.iu.dueList ++ [e]) ∧
  ∀ s : State, (∀ e, ¬ atLast s e) → exec .deadlineDue s = .next s

/-- FRESHNESS_EXPIRY that is DUE: a CONSUMED row that is LIVE or AWAITING becomes STALE with the reason STALE, the
deadline is restarted with the limit the row holds, a row with RECALL_ON_STALE makes its request on its source mask,
and the next expiry is presented (R88, R91, R92). That visits with nothing to send then meet a row that has become
pending is log entry 13. -/
def Obligations.FreshnessExpiryMakesStale : Prop :=
  ∀ (s : State) (r : RowId) (d : Nat),
    s.iu.presented = some { entry := { row := r, kind := .freshness }, void := false } →
    (s.row r).freshness = .due d → s.nextServed = some .iu →
    let old := s.row r
    let moves := old.role = .consumed ∧ (old.state = .live ∨ old.state = .awaiting)
    let base : State := { s.updRow r (fun row => { row with
        state := if moves then .stale else old.state, freshness := startedDeadline old.freshnessLimit.toNat }) with
      served := .iu
      iu := { s.iu with
        presented := none, dueList := s.iu.dueList.filter fun e => e ≠ { row := r, kind := .freshness } }
      attention := if moves then attentionAfter s.attention r (old.attentionMask &&& 0x04) else s.attention }
    let m := if old.recallOnStale then (base.enqueue .recallOnStale r old.sourceMask).1 else base
    ∃ u, exec .freshnessExpiry s = .next u ∧ u.rows = m.rows ∧ u.attention = m.attention ∧
      u.channels = m.channels.map ChannelEngine.wake ∧ u.iu.offers m.iu.dueList ∧ u.iu.tickCount = s.iu.tickCount ∧
      u.servedBy .iu ∧ TableOnly s u ∧
      (u.row r).state = (if moves then .stale else old.state) ∧
      (u.row r).freshness = startedDeadline old.freshnessLimit.toNat ∧ (u.row r).image = old.image ∧
      ∀ q, q ≠ r → u.row q = s.row q

/-- REFRESH_EXPIRY that is DUE makes one request on the row's send mask where its image is present, and restarts the
deadline; INHIBIT_GAP_EXPIRY that is DUE ends the gap, releases every held channel as IDLE and makes one request on
them; both present the next expiry (R62, R88, R94, R96). That visits with nothing to send then meet a row that has
become pending is log entry 13. -/
def Obligations.RefreshAndGapExpiriesEnqueue : Prop :=
  (∀ (s : State) (r : RowId) (d : Nat),
    s.iu.presented = some { entry := { row := r, kind := .refresh }, void := false } →
    (s.row r).refresh = .due d → s.nextServed = some .iu →
    let old := s.row r
    let base : State := { s with served := .iu, iu := { s.iu with presented := none } }
    let m := if old.image = none then base else (base.enqueue .refreshExpiry r old.sendMask).1
    ∃ u, exec .refreshExpiry s = .next u ∧ u.attention = m.attention ∧
      u.channels = m.channels.map ChannelEngine.wake ∧
      u.iu.offers (m.iu.dueList.filter fun e => e ≠ { row := r, kind := .refresh }) ∧
      u.iu.tickCount = s.iu.tickCount ∧ u.servedBy .iu ∧ TableOnly s u ∧
      u.row r = { m.row r with refresh := startedDeadline old.refreshPeriod.toNat } ∧
      ∀ q, q ≠ r → u.row q = s.row q) ∧
  ∀ (s : State) (r : RowId) (d : Nat),
    s.iu.presented = some { entry := { row := r, kind := .gap }, void := false } →
    (s.row r).gap = .due d → s.nextServed = some .iu →
    let old := s.row r
    let base : State := { s.updRow r (fun row => { row with
        gapRunning := false, heldMask := 0, gap := .stopped
        side := Quad.tabulate fun c => { row.side.get c with
          sendState := if inMask old.heldMask c then .idle else (row.side.get c).sendState } }) with
      served := .iu, iu := { s.iu with presented := none } }
    let m := if old.heldMask = 0 then base else (base.enqueue .gapRelease r old.heldMask).1
    ∃ u, exec .inhibitGapExpiry s = .next u ∧ u.rows = m.rows ∧ u.attention = m.attention ∧
      u.channels = m.channels.map ChannelEngine.wake ∧ u.iu.offers m.iu.dueList ∧ u.iu.tickCount = s.iu.tickCount ∧
      u.servedBy .iu ∧ TableOnly s u ∧
      (∀ q, q ≠ r → u.row q = s.row q) ∧
      (old.heldMask = 0 → (u.row r).gapRunning = false ∧ (u.row r).gap = .stopped ∧ (u.row r).heldMask = 0)

/-- The table controller takes next the requester it has chosen, while that one waits, and else the first waiting one
that follows the one served last in the ring order. A request that arrives later does not come before the one it would
have taken: a lone request is taken at once, and after a transaction the next is fixed as that one ends (R29). A
transaction presented out of its turn is not taken (log entry 4; that a request which stops waiting frees the choice,
and that an attempt start which a transaction wakes waits already as the next is fixed, is log entry 29), and an expiry
that is void or whose deadline is not DUE changes nothing but what is presented next (R88, R89). That visits with
nothing to send meet a row that has become pending after an expiry turned away, too, is log entry 13. -/
def Obligations.RotationAndTurnedAwayExpiries : Prop :=
  let takes (c : Channel) (i : Instr) (q : Requester) : Prop :=
    (i, q) ∈ [(Instr.commandTransaction, Requester.cu), (.freshnessExpiry, .iu), (.refreshExpiry, .iu),
      (.inhibitGapExpiry, .iu), (.publishArrival c, .rx c), (.recallArrival c, .rx c), (.attemptStart c, .tx c),
      (.attemptOutcome c, .tx c), (.removalTransaction c, .tx c)]
  (∀ (s : State) (q : Requester), s.turn = some q → s.waits q = true → s.nextServed = some q) ∧
  (∀ (s : State) (q : Requester), (∀ p, s.turn = some p → s.waits p = false) →
    (s.nextServed = some q ↔
      s.waits q = true ∧ ∀ p : Requester, p.after s.served < q.after s.served → s.waits p = false)) ∧
  (∀ s : State, s.nextServed = none ↔ ∀ q, s.waits q = false) ∧
  (∀ (s t : State) (i : Instr) (q : Requester), exec i s = .next t → s.nextServed = some q → (∀ c, ¬ takes c i q) →
    t.waits q = true → t.nextServed = some q) ∧
  (∀ (s : State) (c : Channel) (i : Instr) (q : Requester), takes c i q →
    s.nextServed ≠ some q → exec i s = .next s) ∧
  ∀ (s : State) (p : Presented) (i : Instr),
    (p.entry.kind, i) ∈ [(DeadlineKind.freshness, Instr.freshnessExpiry), (.refresh, .refreshExpiry),
      (.gap, .inhibitGapExpiry)] →
    s.iu.presented = some p → s.nextServed = some .iu →
    p.void = true ∨ (∀ d, (s.row p.entry.row).deadline p.entry.kind ≠ .due d) →
    ∃ u, exec i s = .next u ∧ u.iu.offers s.iu.dueList ∧ u.iu.tickCount = s.iu.tickCount ∧ u.servedBy .iu ∧
      u.channels = s.channels.map ChannelEngine.wake ∧
      { u with iu := s.iu, served := s.served, channels := s.channels, turn := s.turn } = s

/-! ### The receive line -/

/-- A good telegram on a channel that does not hold the token is reported: counted, offered to the arrival queue or
turned away by a full one, its source learnt; one that is not a TOKEN or JOIN_CALL to a LISTENING or RECEIVING station
changes nothing more than the line and the silence timer (R33, R34, R126, R127, R142, R144, R147; log entry 14; that a
telegram with no START_BIT before it counts as begun just before its end is log entry 11). So is one whose start bit
was a token conflict after an echo mismatch, and neither a token nor a call is taken from it (R152, log entry 23).
While the channel sends or has no footing on the line, no telegram is delivered (log entry 12). -/
def Obligations.GoodTelegramsAreReportedAndOffered : Prop :=
  (∀ (s : State) (c : Channel) (i : Instr) (t : Telegram) (w : Bool), Brings s i c t → (s.ch c).Ok →
    (s.ch c).listens w → GoodFor (s.ch c) t →
    (s.ch c).state = .silent ∨
      (((s.ch c).state = .listening ∨ (s.ch c).state = .receiving) ∧ ¬ OwnCall (s.ch c) t) →
    ∃ (u : State) (v : ChannelEngine), exec i s = .next u ∧ OnlyChannel c s u ∧ Reported (s.ch c) v t ∧
      u.ch c = v.timed) ∧
  (∀ (s : State) (c : Channel) (i : Instr) (t : Telegram), Brings s i c t → (s.ch c).Ok → (s.ch c).sending = none →
    (s.ch c).rx = .intruding → GoodFor (s.ch c) t →
    (s.ch c).state = .silent ∨ (s.ch c).state = .listening ∨ (s.ch c).state = .receiving →
    ∃ (u : State) (v : ChannelEngine), exec i s = .next u ∧ OnlyChannel c s u ∧ Reported (s.ch c) v t ∧
      u.ch c = v.timed) ∧
  ∀ (s : State) (c : Channel) (i : Instr) (t : Telegram), Brings s i c t → (s.ch c).deaf → exec i s = .next s

/-- A CONFIRM that answers the open reply window ends the attempt CONFIRMED; another CONFIRM or JOIN_REPLY to the own
station leaves the window open, unless its length has passed, and then the attempt ends NO_CONFIRM; REPLY_WINDOW_EXPIRY
ends it NO_CONFIRM at once where no telegram that began inside the window is on the line, and else leaves it open for
that telegram (R129, R130; that a telegram with no START_BIT before it began inside an open window is log entry 11,
that neither the part's own reply nor a line not yet idle after a fault or a mismatch holds the window open is log
entry 25). With no window open REPLY_WINDOW_EXPIRY changes nothing, which is the model's choice (log entry 8). -/
def Obligations.ConfirmsAnswerReplyWindows : Prop :=
  (∀ (s : State) (c : Channel) (f : InFlight) (w : ReplyWindow) (i : Instr) (t : Telegram), Brings s i c t →
    (s.ch c).Ok → (s.ch c).state = .holding → (s.ch c).listens true → GoodFor (s.ch c) t →
    (s.ch c).waiting = none → (s.ch c).inFlight = some f → f.phase = .awaitingConfirm →
    (s.ch c).replyWindow = some w → (∃ source topic sequence, w.expect = .confirm source topic sequence) →
    ∃ (u : State) (v : ChannelEngine), exec i s = .next u ∧ OnlyChannel c s u ∧ Reported (s.ch c) v t ∧
      (Answers (s.ch c) t → u.ch c = { v with
        replyWindow := none, inFlight := some { f with phase := .ended }
        requests := v.requests ++ [.outcome .confirmed] }) ∧
      (¬ Answers (s.ch c) t → OwnReply (s.ch c) t → u.ch c = if w.ranOut then { v with
        replyWindow := none, inFlight := some { f with phase := .ended }
        requests := v.requests ++ [.outcome .noConfirm] } else v)) ∧
  (∀ (s : State) (c : Channel) (f : InFlight) (w : ReplyWindow), (s.ch c).waiting = none →
    (s.ch c).inFlight = some f → f.phase = .awaitingConfirm → (s.ch c).replyWindow = some w →
    (∃ source topic sequence, w.expect = .confirm source topic sequence) →
    ∃ u, exec (.replyWindowExpiry c) s = .next u ∧ OnlyChannel c s u ∧
      u.ch c = if (s.ch c).rx = .receiving true then { s.ch c with replyWindow := some { w with ranOut := true } }
        else { s.ch c with
          replyWindow := none, inFlight := some { f with phase := .ended }
          requests := (s.ch c).requests ++ [.outcome .noConfirm] }) ∧
  ∀ (s : State) (c : Channel), (s.ch c).replyWindow = none → exec (.replyWindowExpiry c) s = .next s

/-- A TOKEN to the own station, in RECEIVING or LISTENING, begins a visit: with a row pending it presents an attempt
start; with none it calls a station of the gap when a join call is due, and else passes to its successor; with an
attempt or a removal still to be applied it waits (R145, R147 to R151, R78; a telegram with no START_BIT before it is
log entry 11). -/
def Obligations.TokenBeginsAVisit : Prop :=
  ∀ (s : State) (c : Channel) (i : Instr) (source : Byte) (w : Bool), Brings s i c (.token source (s.ch c).own) →
    (s.ch c).Ok → (s.ch c).state = .listening ∨ (s.ch c).state = .receiving → (s.ch c).listens w →
    GoodFor (s.ch c) (.token source (s.ch c).own) →
    ∃ (u : State) (v : ChannelEngine), exec i s = .next u ∧ OnlyChannel c s u ∧
      Reported (s.ch c) v (.token source (s.ch c).own) ∧ VisitBegun v (u.ch c)

/-- The successor is the lowest listed station above the own one, or else the lowest listed; the gap holds, in counting
order, the stations after the own one up to the successor, every other station where the list is empty; the join cursor
goes to the number that follows it in the gap, or else to the gap's first (R143, R149). -/
def Obligations.SuccessorGapAndCursor : Prop :=
  ∀ (own : Nat) (l : List Nat), 1 ≤ own → own ≤ 31 → l.Pairwise (fun a b => a < b) →
    (∀ x ∈ l, 1 ≤ x ∧ x ≤ 31 ∧ x ≠ own) →
    (∀ t, successorOf own l = some t ↔ Successor own l t) ∧ (successorOf own l = none ↔ l = []) ∧
    (gapOf own l).Pairwise (fun a b => stationDistance own a < stationDistance own b) ∧
    (∀ x, x ∈ gapOf own l ↔ 1 ≤ x ∧ x ≤ 31 ∧ x ≠ own ∧
      ∀ t, Successor own l t → stationDistance own x < stationDistance own t) ∧
    ∀ cursor : Option Nat,
      (joinTarget (gapOf own l) cursor = none ↔ gapOf own l = []) ∧
      ∀ g, joinTarget (gapOf own l) cursor = some g →
        (∃ k before after, cursor = some k ∧ gapOf own l = before ++ k :: g :: after) ∨
        ((∀ k before x after, cursor = some k → gapOf own l ≠ before ++ k :: x :: after) ∧
          ∃ after, gapOf own l = g :: after)

/-- A JOIN_CALL to the own station makes a LISTENING or RECEIVING channel RECEIVING and queues a JOIN_REPLY, discarded
where the reply queue is full; a JOIN_REPLY that answers the open window, or REPLY_WINDOW_EXPIRY without an answer,
ends the join call and the channel passes; a CONFIRM or JOIN_REPLY to the own station that is no answer leaves the
window of the call open, unless it held open a window whose length has passed, and then the call ends and the channel
passes; one that meets a visit with nothing to send and nobody to pass to lets that visit go on to the station it has
made known (R130, R132, R142, R145, R147, R148, R150; a telegram with no START_BIT before it is log entry 11, the visit
with nobody to pass to is log entry 13, that neither the part's own reply nor a line not yet idle holds the window open
is log entry 25, and that the telegram which follows the expiry stands ready, so that a start bit can come first, is
log entry 30). -/
def Obligations.JoinCallsAndReplies : Prop :=
  (∀ (s : State) (c : Channel) (i : Instr) (source : Byte) (w : Bool),
    Brings s i c (.joinCall source (s.ch c).own) → (s.ch c).Ok →
    (s.ch c).state = .listening ∨ (s.ch c).state = .receiving → (s.ch c).listens w →
    GoodFor (s.ch c) (.joinCall source (s.ch c).own) →
    ∃ (u : State) (v : ChannelEngine), exec i s = .next u ∧ OnlyChannel c s u ∧
      Reported (s.ch c) v (.joinCall source (s.ch c).own) ∧
      u.ch c = ({ v with
        state := .receiving
        replyQueue := if v.replyQueue.length < 4 then v.replyQueue ++ [.joinReply v.own source] else v.replyQueue
        } : ChannelEngine).timed) ∧
  (∀ (s : State) (c : Channel) (i : Instr) (source : Byte) (w : ReplyWindow) (t : Nat),
    Brings s i c (.joinReply source (s.ch c).own) → (s.ch c).Ok → (s.ch c).state = .holding →
    (s.ch c).listens true → GoodFor (s.ch c) (.joinReply source (s.ch c).own) →
    (s.ch c).replyWindow = some w → w.expect = .joinReply source →
    ∃ (u : State) (v : ChannelEngine), exec i s = .next u ∧ OnlyChannel c s u ∧
      Reported (s.ch c) v (.joinReply source (s.ch c).own) ∧
      (Successor v.own.toNat v.stationList t →
        u.ch c = { v with replyWindow := none }.passesTo (BitVec.ofNat 8 t) false)) ∧
  (∀ (s : State) (c : Channel) (source : Byte) (w : ReplyWindow), (s.ch c).Ok → (s.ch c).state = .holding →
    (s.ch c).replyWindow = some w → w.expect = .joinReply source →
    ∃ u, exec (.replyWindowExpiry c) s = .next u ∧ OnlyChannel c s u ∧
      ((s.ch c).rx = .receiving true →
        u.ch c = { s.ch c with replyWindow := some { w with ranOut := true } }) ∧
      ((s.ch c).rx ≠ .receiving true → PassesOn { s.ch c with replyWindow := none } (u.ch c) false)) ∧
  (∀ (s : State) (c : Channel) (i : Instr) (t : Telegram) (source : Byte) (w : ReplyWindow) (v : Visit)
    (inWindow : Bool), Brings s i c t → (s.ch c).Ok → (s.ch c).state = .holding → (s.ch c).listens inWindow →
    GoodFor (s.ch c) t → OwnReply (s.ch c) t → ¬ (inWindow = true ∧ Answers (s.ch c) t) →
    (s.ch c).replyWindow = some w → w.expect = .joinReply source → (s.ch c).waiting = none →
    (s.ch c).visit = some v → v.step = .joinCall →
    ∃ (u : State) (x : ChannelEngine), exec i s = .next u ∧ OnlyChannel c s u ∧ Reported (s.ch c) x t ∧
      (inWindow = false ∨ w.ranOut = false → u.ch c = x) ∧
      (inWindow = true → w.ranOut = true → PassesOn { x with replyWindow := none } (u.ch c))) ∧
  ∀ (s : State) (c : Channel) (i : Instr) (t : Telegram) (v : Visit) (inWindow : Bool), Brings s i c t →
    (s.ch c).Ok → (s.ch c).state = .holding → (s.ch c).listens inWindow → GoodFor (s.ch c) t →
    OwnReply (s.ch c) t → (s.ch c).replyWindow = none → (s.ch c).waiting = none → (s.ch c).inFlight = none →
    (s.ch c).requests = [] → (s.ch c).visit = some v → v.step = .attempts →
    ∃ (u : State) (x : ChannelEngine), exec i s = .next u ∧ OnlyChannel c s u ∧ Reported (s.ch c) x t ∧
      ((s.ch c).pendingCount ≠ 0 → v.count < (s.ch c).visitBudget →
        u.ch c = { x with requests := [.attemptStart] }) ∧
      ((s.ch c).pendingCount = 0 ∨ (s.ch c).visitBudget ≤ v.count → VisitGoesOn x (u.ch c))

/-- A good telegram that is neither the awaited answer nor a reply to the own station, received in HOLDING, is a token
conflict; in PASSING it is one too, unless it comes from the station passed to inside the pass window, which ends the
pass. There a reply to the own station that is no answer leaves the pass as it is, but where it held open a pass window
whose length has passed that try has failed (R129, R130); in HOLDING one that began outside a reply window leaves a
visit as it is that has an attempt, a removal or a join call before it. In CLAIMING a good telegram ends the claim. One
with the own station as its source is counted good and no more is made of it but DUPLICATE_STATION: the channel enters
SILENT, or starts its recovery interval afresh where it is SILENT already (R125, R146, R148, R151 to R153, R155; a
telegram with no START_BIT before it is log entry 11, that one turned away by a full arrival queue still reaches the
token logic is log entry 14, that the exception for the station passed to holds inside the pass window only is log
entry 16, and that a conflict or a duplicate station is also the end of a window whose length has passed is log entry
24). A TOKEN or JOIN_CALL of the station passed to is then taken as in RECEIVING. -/
def Obligations.ConflictsPassesAndClaims : Prop :=
  (∀ (s : State) (c : Channel) (i : Instr) (t : Telegram) (w : Bool), Brings s i c t → (s.ch c).Ok →
    (s.ch c).listens w → GoodFor (s.ch c) t →
    ∃ (u : State) (v : ChannelEngine), exec i s = .next u ∧ OnlyChannel c s u ∧ Reported (s.ch c) v t ∧
      ((s.ch c).state = .holding → ¬ (w = true ∧ Answers (s.ch c) t) → ¬ OwnReply (s.ch c) t →
        u.ch c = v.conflicted) ∧
      ((s.ch c).state = .holding → OwnReply (s.ch c) t → w = false ∨ (s.ch c).replyWindow = none →
        (s.ch c).inFlight ≠ none ∨ .removal ∈ (s.ch c).requests ∨ .attemptStart ∈ (s.ch c).requests ∨
          (∃ x, (s.ch c).visit = some x ∧ x.step ≠ .attempts) →
        u.ch c = v.settled) ∧
      (∀ p, (s.ch c).state = .passing → (s.ch c).pass = some p →
        (¬ (w = true ∧ p.window.isSome = true ∧ telegramSource t = p.station) → ¬ OwnReply (s.ch c) t →
          u.ch c = v.conflicted) ∧
        (¬ (w = true ∧ p.window.isSome = true ∧ telegramSource t = p.station) → OwnReply (s.ch c) t →
          (s.ch c).replyWindow = none →
          ((∀ x, w = true → p.window = some x → x.ranOut = false) → u.ch c = v.settled) ∧
          ∀ x, w = true → p.window = some x → x.ranOut = true → TryFails v (u.ch c) p) ∧
        (w = true → p.window.isSome = true → telegramSource t = p.station → ¬ OwnCall (s.ch c) t →
          u.ch c = ({ v with state := .receiving, pass := none, waiting := none } : ChannelEngine).timed) ∧
        (w = true → p.window.isSome = true → telegramSource t = p.station →
          ((∃ source, t = .token source (s.ch c).own) → VisitBegun { v with pass := none, waiting := none } (u.ch c)) ∧
          ((∃ source, t = .joinCall source (s.ch c).own) → u.ch c = ({ v with
            state := .receiving, pass := none, waiting := none
            replyQueue := if v.replyQueue.length < 4 then v.replyQueue ++ [.joinReply v.own p.station]
              else v.replyQueue } : ChannelEngine).timed))) ∧
      ((s.ch c).state = .claiming → u.ch c = ({ v with state := match (s.ch c).claimedFrom with
        | .listening => .listening
        | .receiving => .receiving } : ChannelEngine).timed)) ∧
  ∀ (s : State) (c : Channel) (i : Instr) (t : Telegram) (w : Bool), Brings s i c t → (s.ch c).Ok →
    (s.ch c).delivers w → telegramSized t = true → telegramSource t = (s.ch c).own →
    ∃ (u : State) (v : ChannelEngine), exec i s = .next u ∧ OnlyChannel c s u ∧
      v.counters.goodTelegrams.toNat = min 65535 ((s.ch c).counters.goodTelegrams.toNat + 1) ∧
      { v with counters := { v.counters with goodTelegrams := (s.ch c).counters.goodTelegrams } } =
        { s.ch c with rx := .idle, event := (s.ch c).event ||| 0x040 } ∧
      ((s.ch c).state ≠ .silent → u.ch c = v.fellSilent) ∧
      ((s.ch c).state = .silent → u.ch c = { v with
        recovery := if v.autoRecover then some (10 * v.recoveryUnits + 1) else none })

/-- CHECK_FAILURE and FRAMING_FAULT raise the check-failure count and set CHECK_ERROR; UNKNOWN_KIND_TELEGRAM raises the
good count; none of the three is offered, learnt or answered (R121, R124 to R126, R142). One that began inside a reply
or pass window leaves it open, unless its length has passed: then the attempt ends NO_CONFIRM, the join call ends and
the channel passes, or the try of the pass has failed (R130, R150, R151). The line is idle then, but for a short gap,
whose start bit begins the next telegram, and for a low stop bit and a 26th byte, after which it is not idle and the
silence timer is stopped until END_GAP, which is the model's choice (log entry 12). A telegram with no START_BIT before
it is log entry 11, as is one after an echo mismatch, of which START_BIT's statement speaks. A visit with nothing to
send and nobody to pass to is log entry 13. -/
def Obligations.BadTelegramsAreCounted : Prop :=
  ∀ (s : State) (c : Channel) (i : Instr) (bad : Bool),
    (bad = true ∧ ((∃ bytes, i = .checkFailure c bytes ∧ i.wellFormed = true) ∨ ∃ k, i = .framingFault c k)) ∨
      (bad = false ∧ ∃ bytes, i = .unknownKindTelegram c bytes ∧ i.wellFormed = true) →
    let done (y : ChannelEngine) : ChannelEngine :=
      if i = .framingFault c .shortGap then { y with rx := .receiving y.windowOpen, silenceTimer := none }
      else y.settled
    ((s.ch c).deaf → exec i s = .next s) ∧
    ∀ w, (s.ch c).delivers w →
      ∃ (u : State) (v : ChannelEngine), exec i s = .next u ∧ OnlyChannel c s u ∧
        { v with rx := (s.ch c).rx, counters := (s.ch c).counters, event := (s.ch c).event } = s.ch c ∧
        { v.counters with goodTelegrams := (s.ch c).counters.goodTelegrams,
                          checkFailures := (s.ch c).counters.checkFailures } = (s.ch c).counters ∧
        (bad = false → v.counters.goodTelegrams.toNat = min 65535 ((s.ch c).counters.goodTelegrams.toNat + 1) ∧
            v.counters.checkFailures = (s.ch c).counters.checkFailures ∧ v.event = (s.ch c).event) ∧
        (bad = true → v.counters.checkFailures.toNat = min 65535 ((s.ch c).counters.checkFailures.toNat + 1) ∧
            v.counters.goodTelegrams = (s.ch c).counters.goodTelegrams ∧ v.event = (s.ch c).event ||| 0x080) ∧
        ((∀ k, i ≠ .framingFault c k) ∨ i = .framingFault c .tooShort → v.rx = .idle) ∧
        (∀ k, i = .framingFault c k → k ≠ .tooShort → v.rx = .resync) ∧
        (w = false → u.ch c = done v) ∧
        (∀ x, w = true → (s.ch c).replyWindow = some x →
          (x.ranOut = false → u.ch c = done v) ∧
          (x.ranOut = true → (∃ source topic sequence, x.expect = .confirm source topic sequence) →
            u.ch c = done (({ v with replyWindow := none } : ChannelEngine).attemptEnds .noConfirm)) ∧
          (x.ranOut = true → (∃ source, x.expect = .joinReply source) → (s.ch c).Ok →
            ∃ y, PassesOn { v with replyWindow := none } y ∧ u.ch c = done y)) ∧
        (w = true → (s.ch c).replyWindow = none →
          (∀ p x, (s.ch c).pass = some p → p.window = some x → x.ranOut = true → (s.ch c).Ok →
            ∃ y, TryFails v y p ∧ u.ch c = done y) ∧
          ((∀ p x, (s.ch c).pass = some p → p.window = some x → x.ranOut = false) → u.ch c = done v))

/-- START_BIT puts a telegram on an idle line and stops the silence timer, with the mark of an open window; before the
first end gap and after a fault it keeps the line busy; after a mismatch it begins a telegram, in HOLDING or PASSING as
a token conflict, and a telegram that ends there with no START_BIT before it had its start bit just before (R33, R120,
R121, R125, R128, R130, R144, R152; log entries 11 and 23). END_GAP gives the receive side its footing or the line
back: the silence timer and a waiting telegram begin, and a mismatch that stayed quiet is a line fault, which ends a
join call without an answer and fails a try of a pass (R150 to R152). That the line counts as idle before the first end
gap and as not idle from a fault until END_GAP, and from a mismatch until END_GAP or a telegram's end, is log entry 12;
that either changes nothing where no such bit or gap can come is log entry 8. A visit with nothing to send and nobody
to pass to is log entry 13. -/
def Obligations.StartBitsAndEndGaps : Prop :=
  (∀ (s : State) (c : Channel), ∃ u, exec (.startBit c) s = .next u ∧ OnlyChannel c s u ∧
    ((s.ch c).sending ≠ none ∨ (s.ch c).rx = .off ∨ (∃ w, (s.ch c).rx = .receiving w) ∨ (s.ch c).rx = .intruding →
      u = s) ∧
    ((s.ch c).sending = none →
      ((s.ch c).rx = .unsynced → u.ch c = { s.ch c with rx := .resync, silenceTimer := none }) ∧
      ((s.ch c).rx = .idle →
        u.ch c = { s.ch c with rx := .receiving (s.ch c).windowOpen, silenceTimer := none }) ∧
      ((s.ch c).rx = .resync → u.ch c = { s.ch c with silenceTimer := none }) ∧
      ((s.ch c).rx = .released →
        ((s.ch c).watch ≠ none → (s.ch c).state = .holding ∨ (s.ch c).state = .passing →
          u.ch c = ({ s.ch c with rx := .intruding } : ChannelEngine).conflicted) ∧
        ((s.ch c).watch = none ∨ ((s.ch c).state ≠ .holding ∧ (s.ch c).state ≠ .passing) →
          u.ch c = { s.ch c with
            rx := .receiving (s.ch c).windowOpen, watch := none, silenceTimer := none })))) ∧
  (∀ (s : State) (c : Channel) (i : Instr), EndsTelegram s i c → (s.ch c).sending = none → (s.ch c).rx = .released →
    ∃ t u v, exec (.startBit c) s = .next t ∧ exec i s = .next u ∧ exec i t = .next v ∧ OnlyChannel c s u ∧
      u.ch c = v.ch c) ∧
  ∀ (s : State) (c : Channel), ∃ u, exec (.endGap c) s = .next u ∧ OnlyChannel c s u ∧
    ((s.ch c).sending ≠ none ∨ (s.ch c).rx = .off ∨ (s.ch c).rx = .idle ∨ (∃ w, (s.ch c).rx = .receiving w) ∨
      (s.ch c).rx = .intruding → u = s) ∧
    ((s.ch c).sending = none →
      ((s.ch c).rx = .unsynced → u.ch c = ({ s.ch c with rx := .idle } : ChannelEngine).settled) ∧
      ((s.ch c).rx = .resync → u.ch c = ({ s.ch c with rx := .idle } : ChannelEngine).settled) ∧
      ((s.ch c).rx = .released →
        let v : ChannelEngine := { s.ch c with rx := .idle, watch := none }
        (¬ ((s.ch c).watch = some .joinCall ∧ (s.ch c).state = .holding) →
          ¬ ((s.ch c).watch = some .passToken ∧ (s.ch c).state = .passing) → u.ch c = v.settled) ∧
        ((s.ch c).watch = some .joinCall → (s.ch c).state = .holding → (s.ch c).Ok → PassesOn v (u.ch c)) ∧
        (∀ p, (s.ch c).watch = some .passToken → (s.ch c).state = .passing → (s.ch c).Ok →
          (s.ch c).pass = some p → TryFails v (u.ch c) p)))

/-! ### Arrivals -/

/-- PUBLISH_ARRIVAL that is not accepted: without a row for it, or on a row or channel that does not take it, it is
counted unclaimed; a row out of service counts it rejected without a reason; a wrong length, and a sequence 128 to 255
ahead under SEQUENCE_CHECK on a LIVE row, count it rejected with REJECTED; the same sequence is a duplicate, which only
the reply tells of (R35 to R41, R46). That a visit with nothing to send meets a row that has become pending, on every
channel, is the model's choice (log entry 13). -/
def Obligations.ArrivalsAreTurnedAway : Prop :=
  ∀ (s : State) (c : Channel) (p : Publish) (rest : List Arrival), s.TopicsOk →
    (s.ch c).arrivalQueue = .publish p :: rest → s.nextServed = some (.rx c) →
    let popped : ChannelEngine := { s.ch c with arrivalQueue := rest }
    ∃ u, exec (.publishArrival c) s = .next u ∧ TableOnly s u ∧ u.servedBy (.rx c) ∧
      ((∀ r, (p.topic, r) ∈ s.topicIndex → (s.row r).role = .produced ∨ inMask (s.row r).sourceMask c = false) →
        u.rows = s.rows ∧ u.attention = s.attention ∧ u.iu = s.iu ∧ (∀ e, e ≠ c → u.ch e = (s.ch e).wake) ∧
        ∃ v : ChannelEngine, u.ch c = v.wake ∧
          v.counters.unclaimedPublishes.toNat = min 65535 ((s.ch c).counters.unclaimedPublishes.toNat + 1) ∧
          { v with counters :=
            { v.counters with unclaimedPublishes := (s.ch c).counters.unclaimedPublishes } } = popped) ∧
      ∀ r, (p.topic, r) ∈ s.topicIndex → (s.row r).role = .consumed → inMask (s.row r).sourceMask c = true →
        let old := s.row r
        let rejected (reasons : ReasonSet) : Prop :=
          (u.row r).rejectCount.toNat = min 255 (old.rejectCount.toNat + 1) ∧
            { u.row r with rejectCount := old.rejectCount } = old ∧ (∀ q, q ≠ r → u.row q = s.row q) ∧
            u.attention = attentionAfter s.attention r (old.attentionMask &&& reasons) ∧ u.iu = s.iu ∧
            u.ch c = popped.wake ∧ ∀ e, e ≠ c → u.ch e = (s.ch e).wake
        (old.state = .suspended ∨ old.state = .retiring → rejected 0) ∧
        (old.serves → p.payload.length ≠ old.length → rejected 0x08) ∧
        (old.serves → p.payload.length = old.length → old.sequenceCheck = true → old.state = .live →
          (128 ≤ (p.sequence - old.sequence).toNat → rejected 0x08) ∧
          (p.sequence = old.sequence → TableOf s u c ∧ u.ch c = (popped.answering p).wake))

/-- PUBLISH_ARRIVAL that is accepted stores payload, sequence, source station and channel, advances the generation, sets
the age to 0 and the row LIVE, records NEW_DATA (and RESTORED for a row that was STALE), starts the freshness deadline
afresh, asks the relay channels once, and answers a telegram that named the own station (R39, R41 to R47). That a visit
with nothing to send meets a row that has become pending is the model's choice (log entry 13). -/
def Obligations.ArrivalsAreAccepted : Prop :=
  ∀ (s : State) (c : Channel) (p : Publish) (rest : List Arrival) (r : RowId), s.TopicsOk →
    (s.ch c).arrivalQueue = .publish p :: rest → s.nextServed = some (.rx c) → (p.topic, r) ∈ s.topicIndex →
    let old := s.row r
    old.role = .consumed → inMask old.sourceMask c = true → old.serves → p.payload.length = old.length →
    old.sequenceCheck = false ∨ old.state ≠ .live ∨
      (1 ≤ (p.sequence - old.sequence).toNat ∧ (p.sequence - old.sequence).toNat ≤ 127) →
    let base : State := { s with
      rows := (s.updRow r fun row => { row with
        state := .live, image := some p.payload, generation := old.generation + 1, sequence := p.sequence, age := 0
        sourceStation := some p.source, arrivalChannel := some c
        freshness := startedDeadline old.freshnessLimit.toNat }).rows
      channels := (s.updCh c fun ce => { ce with arrivalQueue := rest }).channels
      attention := attentionAfter s.attention r (old.attentionMask &&& (if old.state = .stale then 0x03 else 0x01))
      iu := s.iu.less { row := r, kind := .freshness }, served := .rx c }
    let m := (base.enqueue .relay r old.sendMask).1
    ∃ u, exec (.publishArrival c) s = .next u ∧ TableOnly s u ∧ u.servedBy (.rx c) ∧ TableOf m u c ∧
      u.ch c = ((m.ch c).answering p).wake ∧ (∀ q, q ≠ r → u.row q = s.row q) ∧ (u.row r).state = .live ∧
      (u.row r).image = some p.payload ∧ (u.row r).generation = old.generation + 1 ∧
      (u.row r).sequence = p.sequence ∧ (u.row r).age = 0 ∧ (u.row r).sourceStation = some p.source ∧
      (u.row r).arrivalChannel = some c ∧ (u.row r).freshness = startedDeadline old.freshnessLimit.toNat

/-- RECALL_ARRIVAL is taken for a PRODUCED row that is LIVE with the channel in its send mask: one request on that
channel and the reason RECALLED; otherwise it only leaves the arrival queue (R48, R49; that a visit with nothing to send
meets a row that has become pending is log entry 13). -/
def Obligations.RecallsAreTaken : Prop :=
  ∀ (s : State) (c : Channel) (q : Recall) (rest : List Arrival), s.TopicsOk →
    (s.ch c).arrivalQueue = .recall q :: rest → s.nextServed = some (.rx c) →
    let base : State :=
      { s with channels := (s.updCh c fun ce => { ce with arrivalQueue := rest }).channels, served := .rx c }
    let taken (r : RowId) : Prop :=
      (s.row r).role = .produced ∧ inMask (s.row r).sendMask c = true ∧ (s.row r).state = .live
    ∃ u, exec (.recallArrival c) s = .next u ∧ TableOnly s u ∧ u.servedBy (.rx c) ∧
      ((∀ r, (q.topic, r) ∈ s.topicIndex → ¬ taken r) →
        u.rows = s.rows ∧ u.attention = s.attention ∧ u.iu = s.iu ∧
          u.channels = base.channels.map ChannelEngine.wake) ∧
      ∀ r, (q.topic, r) ∈ s.topicIndex → taken r →
        let m := (base.enqueue .recallTelegram r (maskOf c)).1
        u.rows = m.rows ∧ u.iu = m.iu ∧ u.channels = m.channels.map ChannelEngine.wake ∧
          u.attention = attentionAfter m.attention r ((s.row r).attentionMask &&& 0x80) ∧
          (u.row r).image = (s.row r).image ∧ (u.row r).generation = (s.row r).generation ∧
          ∀ q, q ≠ r → u.row q = s.row q

/-! ### Attempts and replies -/

/-- SEND_REPLY begins the head of the reply queue on an idle line, REPLY_LATEST_START discards a head that has not
begun, and REPLY_ECHO ends a reply's business whether its echo is good or not; none is repeated (R128, R132). That
SEND_REPLY with no reply to send or no idle line, REPLY_LATEST_START with no reply queued and REPLY_ECHO with no reply
under way change nothing is the model's choice (log entry 8), as are the line counted idle before the first end gap and
not idle after a mismatch until END_GAP or a telegram's end (log entry 12). -/
def Obligations.RepliesGoOutOrAreDiscarded : Prop :=
  (∀ (s : State) (c : Channel), (s.ch c).Ok → ∃ u, exec (.sendReply c) s = .next u ∧ OnlyChannel c s u ∧
    (∀ t rest, (s.ch c).replyQueue = t :: rest → (s.ch c).sending = none →
      (s.ch c).rx = .idle ∨ (s.ch c).rx = .unsynced →
      u.ch c = { s.ch c with
        sending := some { job := .reply, telegram := t }, replyQueue := rest, silenceTimer := none }) ∧
    ((s.ch c).replyQueue = [] ∨ (s.ch c).sending ≠ none ∨ ((s.ch c).rx ≠ .idle ∧ (s.ch c).rx ≠ .unsynced) →
      u = s)) ∧
  (∀ (s : State) (c : Channel) (t : Telegram) (rest : List Telegram), (s.ch c).replyQueue = t :: rest →
    ∃ u, exec (.replyLatestStart c) s = .next u ∧ OnlyChannel c s u ∧
      ((s.ch c).waiting = none → u.ch c = { s.ch c with replyQueue := rest }) ∧
      ∀ x, (s.ch c).waiting = some x → u.ch c = ({ s.ch c with replyQueue := rest } : ChannelEngine).readied x) ∧
  (∀ (s : State) (c : Channel), (s.ch c).replyQueue = [] → exec (.replyLatestStart c) s = .next s) ∧
  (∀ (s : State) (c : Channel) (readBack : List Byte) (clean : Bool) (t : Telegram),
    (s.ch c).sending = some { job := .reply, telegram := t } →
    ∃ u, exec (.replyEcho c readBack clean) s = .next u ∧ OnlyChannel c s u ∧
      (clean = true → readBack = telegramBytes t →
        ((s.ch c).waiting = none →
          u.ch c = ({ s.ch c with sending := none, rx := .idle } : ChannelEngine).timed) ∧
        ∀ x, (s.ch c).waiting = some x →
          u.ch c = (({ s.ch c with sending := none, rx := .idle } : ChannelEngine).timed).readied x) ∧
      (clean = false ∨ readBack ≠ telegramBytes t →
        u.ch c = { s.ch c with sending := none, rx := .released, watch := none })) ∧
  ∀ (s : State) (c : Channel) (readBack : List Byte) (clean : Bool),
    (∀ t, (s.ch c).sending ≠ some { job := .reply, telegram := t }) → exec (.replyEcho c readBack clean) s = .next s

/-- ATTEMPT_START takes the head of the lowest-numbered class list that is not empty, makes it IN_FLIGHT with its
attempt counted, records the snapshot, counts a telegram of the visit and makes the telegram ready; where the token
logic does not allow it or no row waits, nothing starts and the visit goes on to its join call or its pass (R53, R63 to
R65, R148 to R151; a visit with nobody to pass to, and its waking, are log entry 13). -/
def Obligations.AttemptsStartFromTheLowestClass : Prop :=
  ∀ (s : State) (c : Channel) (rest : List SendRequest), (s.ch c).requests = .attemptStart :: rest →
    s.nextServed = some (.tx c) → .removal ∉ rest →
    ∃ u, exec (.attemptStart c) s = .next u ∧ TableOnly s u ∧ u.servedBy (.tx c) ∧ u.attention = s.attention ∧
      u.iu = s.iu ∧ (∀ e, e ≠ c → u.ch e = (s.ch e).wake) ∧
      ((s.ch c).state ≠ .holding → u.rows = s.rows ∧ u.ch c = { s.ch c with requests := rest }) ∧
      ∀ v, (s.ch c).state = .holding → (s.ch c).visit = some v → v.step = .attempts → (s.ch c).inFlight = none →
        ((s.ch c).visitBudget ≤ v.count ∨ (∀ k, (s.ch c).lists.get k = []) → u.rows = s.rows ∧
          ((s.ch c).stationList.Pairwise (fun a b => a < b) → (s.ch c).pass = none →
            VisitGoesOn { s.ch c with requests := rest } (u.ch c))) ∧
        ∀ (k : Fin 4) (r : RowId) (tail : List RowId), v.count < (s.ch c).visitBudget →
          (s.ch c).lists.get k = r :: tail → (∀ j, j < k → (s.ch c).lists.get j = []) →
          let old := s.row r
          let recalls := old.role = .consumed ∧ inMask old.sourceMask c = true
          let f : InFlight :=
            { row := r, kind := if recalls then .recall else .publish, payload := if recalls then none else old.image
              sequence := if recalls then none else some old.sequence
              confirm := if recalls then 0 else old.confirmStation
              cls := old.cls, topic := old.topic.getD 0, phase := .onLine }
          let telegram : Telegram :=
            if recalls then .recall { cls := old.cls, source := (s.ch c).own, target := 0, topic := old.topic.getD 0 }
            else .publish { cls := old.cls, source := (s.ch c).own, target := old.confirmStation
                            topic := old.topic.getD 0, sequence := old.sequence, payload := old.image.getD [] }
          u.row r = { old with side := old.side.set c { old.side.get c with
            sendState := .inFlight, attemptCount := (old.side.get c).attemptCount + 1 } } ∧
          (∀ q, q ≠ r → u.row q = s.row q) ∧
          u.ch c = ({ s.ch c with
            requests := rest, lists := (s.ch c).lists.set k tail, inFlight := some f
            visit := some { v with count := v.count + 1 } } : ChannelEngine).readied
              { job := .attempt, telegram := telegram }

/-- ATTEMPT_ECHO: a good echo ends an attempt that asked for no confirmation SENT and opens the reply window of one
that did; a mismatch ends it LINE_ERROR and leaves the line not idle until END_GAP or a telegram's end (R65, R66, R128,
R129; log entry 12). The echo of an attempt that has ended, or that is in flight no more, gives the line back and
changes no outcome (log entry 22); the echo of one that stood ready on the idle line says that it had begun (log entry
30); ATTEMPT_ECHO with no attempt's telegram under way changes nothing, which is the model's choice (log entry 8). -/
def Obligations.AttemptEchoesEndOrAwait : Prop :=
  (∀ (s : State) (c : Channel) (readBack : List Byte) (clean : Bool) (t : Telegram) (f : InFlight),
    (s.ch c).sending = some { job := .attempt, telegram := t } → (s.ch c).waiting = none →
    (s.ch c).inFlight = some f → f.phase = .onLine →
    ∃ u, exec (.attemptEcho c readBack clean) s = .next u ∧ OnlyChannel c s u ∧
      (clean = true → readBack = telegramBytes t →
        (f.confirm = 0 → u.ch c = ({ s.ch c with
          sending := none, rx := .idle, inFlight := some { f with phase := .ended }
          requests := (s.ch c).requests ++ [.outcome .sent] } : ChannelEngine).timed) ∧
        (f.confirm ≠ 0 → u.ch c = ({ s.ch c with
          sending := none, rx := .idle, inFlight := some { f with phase := .awaitingConfirm }
          replyWindow := some
            { expect := .confirm f.confirm f.topic (f.sequence.getD 0)
              length := (s.ch c).replyWindowSlots * (s.ch c).slotBits, ranOut := false } } : ChannelEngine).timed)) ∧
      (clean = false ∨ readBack ≠ telegramBytes t → u.ch c = { s.ch c with
        sending := none, rx := .released, watch := some .attempt, inFlight := some { f with phase := .ended }
        requests := (s.ch c).requests ++ [.outcome .lineError] })) ∧
  (∀ (s : State) (c : Channel) (readBack : List Byte) (clean : Bool) (t : Telegram),
    (s.ch c).sending = some { job := .attempt, telegram := t } →
    (∀ f, (s.ch c).inFlight = some f → f.phase = .ended) →
    ∃ u, exec (.attemptEcho c readBack clean) s = .next u ∧ OnlyChannel c s u ∧
      (clean = true → readBack = telegramBytes t →
        u.ch c = ({ s.ch c with sending := none, rx := .idle } : ChannelEngine).settled) ∧
      (clean = false ∨ readBack ≠ telegramBytes t →
        u.ch c = { s.ch c with sending := none, rx := .released, watch := some .attempt })) ∧
  (∀ (s : State) (c : Channel) (readBack : List Byte) (clean : Bool) (x : Transmission), (s.ch c).waiting = some x →
    x.job = .attempt → (s.ch c).sending = none → (s.ch c).rx = .idle ∨ (s.ch c).rx = .unsynced →
    exec (.attemptEcho c readBack clean) s = exec (.attemptEcho c readBack clean) (s.sends c x)) ∧
  ∀ (s : State) (c : Channel) (readBack : List Byte) (clean : Bool),
    (∀ t, (s.ch c).sending ≠ some { job := .attempt, telegram := t }) →
    (∀ x, (s.ch c).waiting = some x → x.job = .attempt →
      (s.ch c).sending ≠ none ∨ ((s.ch c).rx ≠ .idle ∧ (s.ch c).rx ≠ .unsynced)) →
    exec (.attemptEcho c readBack clean) s = .next s

/-- ATTEMPT_OUTCOME: a retried outcome returns the row to the head of its class list; any other ends the send with
its last result, its reason and its count, makes the renewal's request where a POST renewed the row, frees a
RETIRING row in flight nowhere else, and is told to the command that awaits it; LINE_ERROR raises the error run,
SENT and CONFIRMED set it to 0 (R53, R68 to R75, R154, R162). In HOLDING the visit then presents its next attempt start
while its budget lasts and a row is pending, and else goes on to its join call or its pass (R148 to R151; a visit with
nobody to pass to, and its waking, are log entry 13). -/
def Obligations.OutcomesRetryOrEndTheSend : Prop :=
  ∀ (s : State) (c : Channel) (o : AttemptOutcome) (rest : List SendRequest) (f : InFlight),
    (s.ch c).requests = .outcome o :: rest → s.nextServed = some (.tx c) → (s.ch c).inFlight = some f →
    let r := f.row
    let old := s.row r
    let d := old.side.get c
    let fails := o = .noConfirm ∨ o = .lineError
    let again := fails ∧ d.attemptCount ≤ (s.ch c).retryLimit ∧ d.cancelRequested = false ∧ old.serves
    let elsewhere := ∃ e, e ≠ c ∧ old.sendStateOn e = .inFlight
    let ended : Row := { old with side := old.side.set c { d with
      sendState := .idle, renewed := false, cancelRequested := false, attemptCount := 0
      lastResult := endResult o d.cancelRequested } }
    let counted (v : ChannelEngine) : Prop :=
      v.counters.failedAttempts.toNat = (if fails ∧ d.cancelRequested = false then
          min 65535 ((s.ch c).counters.failedAttempts.toNat + 1)
        else (s.ch c).counters.failedAttempts.toNat) ∧
        { v.counters with failedAttempts := (s.ch c).counters.failedAttempts } = (s.ch c).counters
    ∃ u, exec (.attemptOutcome c) s = .next u ∧ u.servedBy (.tx c) ∧ (u.ch c).inFlight = none ∧
      u.port = s.port ∧ u.attnEnable = s.attnEnable ∧ u.pending = s.pending ∧ CommandTold s u r c o ∧
      (∀ q, q ≠ r → u.row q = s.row q) ∧
      (u.ch c).errorRun = (match o with
        | .lineError => min 31 ((s.ch c).errorRun + 1)
        | .sent => 0
        | .confirmed => 0
        | _ => (s.ch c).errorRun) ∧
      (o = .lineError → (s.ch c).errorRunLimit ≤ min 31 ((s.ch c).errorRun + 1) →
        (s.ch c).state ≠ .offline → (u.ch c).state = .silent) ∧
      (∀ v, (s.ch c).state = .holding → (s.ch c).visit = some v → v.step = .attempts → .removal ∉ rest →
        (s.ch c).waiting = none → (s.ch c).stationList.Pairwise (fun a b => a < b) → (s.ch c).pass = none →
        (o = .lineError → min 31 ((s.ch c).errorRun + 1) < (s.ch c).errorRunLimit) →
        ∃ x : ChannelEngine, x.lists = (u.ch c).lists ∧ x.counters = (u.ch c).counters ∧
          x.errorRun = (u.ch c).errorRun ∧
          { x with lists := (s.ch c).lists, counters := (s.ch c).counters, errorRun := (s.ch c).errorRun } =
            { s.ch c with requests := rest, inFlight := none } ∧
          (v.count < x.visitBudget → x.pendingCount ≠ 0 → u.ch c = { x with requests := x.attemptRequested }) ∧
          (x.visitBudget ≤ v.count ∨ x.pendingCount = 0 → VisitGoesOn x (u.ch c))) ∧
      (again →
        u.row r = { old with side := old.side.set c { d with
          sendState := .pending, renewed := false, cancelRequested := false } } ∧
        (u.ch c).lists = (s.ch c).lists.set old.cls (r :: (s.ch c).lists.get old.cls) ∧
        (u.ch c).counters = (s.ch c).counters ∧ u.attention = s.attention ∧ u.iu = s.iu ∧
        u.topicIndex = s.topicIndex ∧ ∀ e, e ≠ c → u.ch e = (s.ch e).wake) ∧
      (¬ again → d.renewed = false ∨ d.cancelRequested = true ∨ o = .aborted ∨ ¬ old.serves →
        (u.ch c).lists = (s.ch c).lists ∧ counted (u.ch c) ∧ (∀ e, e ≠ c → u.ch e = (s.ch e).wake) ∧
        (old.state ≠ .retiring ∨ elsewhere → u.row r = ended ∧ u.iu = s.iu ∧ u.topicIndex = s.topicIndex ∧
          u.attention = attentionAfter s.attention r (old.attentionMask &&& endReason o d.cancelRequested)) ∧
        (old.state = .retiring → ¬ elsewhere → u.row r = Row.free ∧
          (∀ e, e ∈ u.topicIndex ↔ e ∈ s.topicIndex ∧ e.2 ≠ r) ∧
          u.attention = s.attention.filter fun e => e.row ≠ r)) ∧
      (¬ again → d.renewed = true → d.cancelRequested = false → o ≠ .aborted → old.serves →
        ∃ base : State, base.row r = ended ∧ (∀ q, q ≠ r → base.row q = s.row q) ∧ base.iu = s.iu ∧
          base.attention = attentionAfter s.attention r (old.attentionMask &&& endReason o false) ∧
          (∀ e, e ≠ c → base.ch e = s.ch e) ∧ counted (base.ch c) ∧
          { base.ch c with counters := (s.ch c).counters } = { s.ch c with requests := rest, inFlight := none } ∧
          let m := (base.enqueue .renewal r (maskOf c)).1
          TableOf m u c ∧ (u.ch c).lists = (m.ch c).lists ∧ (u.ch c).counters = (m.ch c).counters ∧
            u.topicIndex = s.topicIndex)

/-- REMOVAL_TRANSACTION empties the channel's lists and held entries and ends its attempt ABORTED: every such row is
IDLE there with last result CHANNEL_OFF, no reason recorded and nothing counted; a RETIRING row in flight nowhere
else becomes FREE, and the command that awaits the attempt is told. Nothing else of the channel changes, but that the
visit of a restarted channel which waited for its last removal goes on to its join call or its pass, and that a telegram
of the token logic that waits begins where the line is idle (R24, R75, R77, R78, R120, R148, R162; that other channels'
visits with nothing to send meet a pending row, and a visit with nobody to pass to, are log entry 13). -/
def Obligations.RemovalEmptiesTheChannel : Prop :=
  ∀ (s : State) (c : Channel) (rest : List SendRequest), s.Agrees → (s.ch c).requests = .removal :: rest →
    s.nextServed = some (.tx c) →
    let x : ChannelEngine := { s.ch c with requests := rest, inFlight := none, lists := Quad.all [] }
    ∃ u, exec (.removalTransaction c) s = .next u ∧ u.servedBy (.tx c) ∧ (u.ch c).inFlight = none ∧
      (∀ k, (u.ch c).lists.get k = []) ∧ (u.ch c).requests = rest ∧ (u.ch c).counters = (s.ch c).counters ∧
      (u.ch c).event = (s.ch c).event ∧ (∀ e, e ≠ c → u.ch e = (s.ch e).wake) ∧ u.port = s.port ∧
      u.attnEnable = s.attnEnable ∧ u.resetCause = s.resetCause ∧ u.pending = s.pending ∧
      (((s.ch c).state ≠ .holding ∨ .removal ∈ rest ∨ (∀ v, (s.ch c).visit = some v → v.step ≠ .attempts) →
          ((s.ch c).waiting = none → u.ch c = x) ∧
          ∀ t, (s.ch c).waiting = some t → u.ch c = x.readied t) ∧
        (∀ v, (s.ch c).state = .holding → (s.ch c).visit = some v → v.step = .attempts → .removal ∉ rest →
          (s.ch c).waiting = none → (s.ch c).stationList.Pairwise (fun a b => a < b) → (s.ch c).pass = none →
          VisitGoesOn x (u.ch c))) ∧
      (∀ r, let old := s.row r
        let d := old.side.get c
        let gone := d.sendState = .inFlight ∧ old.state = .retiring ∧
          ∀ e, e ≠ c → old.sendStateOn e ≠ .inFlight
        (d.sendState = .idle → u.row r = old) ∧
        (d.sendState = .pending → u.row r = { old with side := old.side.set c { d with
          sendState := .idle, attemptCount := 0, lastResult := .channelOff } }) ∧
        (d.sendState = .held → (∀ e, inMask (u.row r).heldMask e = (inMask old.heldMask e && decide (e ≠ c))) ∧
          { u.row r with heldMask := old.heldMask } = { old with side := old.side.set c { d with
            sendState := .idle, lastResult := .channelOff } }) ∧
        (d.sendState = .inFlight → ¬ gone → u.row r = { old with side := old.side.set c { d with
          sendState := .idle, renewed := false, cancelRequested := false, attemptCount := 0
          lastResult := .channelOff } }) ∧
        (gone → u.row r = Row.free ∧ (∀ e, e ∈ u.topicIndex ↔ e ∈ s.topicIndex ∧ e.2 ≠ r) ∧
          u.attention = s.attention.filter fun e => e.row ≠ r)) ∧
      ((∀ r, (s.row r).sendStateOn c = .inFlight → (s.row r).state ≠ .retiring) →
        u.attention = s.attention ∧ u.topicIndex = s.topicIndex ∧ u.iu = s.iu) ∧
      (∀ f, (s.ch c).inFlight = some f → CommandTold s u f.row c .aborted) ∧
      ((s.ch c).inFlight = none → u.cu = s.cu)

/-! ### The token ring's own telegrams -/

/-- JOIN_CALL_ECHO and PASS_TOKEN_ECHO: a good echo opens the reply window for the called station, or the pass window;
a mismatch leaves the line not idle, watched for another station. PASS_WINDOW_EXPIRY with no telegram that began inside
the window: the second try follows the first, and after the second the station leaves the list with STATION_LOST and a
failed pass, and the channel passes again (R128, R129, R150, R151). The TOKEN or call that follows the expiry stands
ready, so that a start bit can come before it (R157), and its echo says that it had begun (log entry 30). That the line
is not idle from a mismatch until END_GAP or a telegram's end is log entry 12, and that neither the part's own reply
nor a line not yet idle holds the pass window open is log entry 25; PASS_WINDOW_EXPIRY with no pass window open changes
nothing, which is the model's choice (log entry 8). A visit with nothing to send and nobody to pass to is log entry 13.
-/
def Obligations.JoinAndPassEchoesOpenWindows : Prop :=
  (∀ (s : State) (c : Channel) (readBack : List Byte) (clean : Bool) (t : Telegram),
    (s.ch c).sending = some { job := .joinCall, telegram := t } → (s.ch c).state = .holding → (s.ch c).waiting = none →
    ∃ u, exec (.joinCallEcho c readBack clean) s = .next u ∧ OnlyChannel c s u ∧
      (clean = true → readBack = telegramBytes t → u.ch c = ({ s.ch c with
        sending := none, rx := .idle
        replyWindow := some
          { expect := .joinReply (telegramTarget t)
            length := (s.ch c).replyWindowSlots * (s.ch c).slotBits, ranOut := false } } : ChannelEngine).timed) ∧
      (clean = false ∨ readBack ≠ telegramBytes t →
        u.ch c = { s.ch c with sending := none, rx := .released, watch := some .joinCall })) ∧
  (∀ (s : State) (c : Channel) (readBack : List Byte) (clean : Bool) (t : Telegram) (p : Pass),
    (s.ch c).sending = some { job := .passToken, telegram := t } → (s.ch c).pass = some p → (s.ch c).waiting = none →
    ∃ u, exec (.passTokenEcho c readBack clean) s = .next u ∧ OnlyChannel c s u ∧
      (clean = true → readBack = telegramBytes t → u.ch c = ({ s.ch c with
        sending := none, rx := .idle
        pass := some { p with
          window := some { length := (s.ch c).passTimeoutSlots * (s.ch c).slotBits, ranOut := false } }
        } : ChannelEngine).timed) ∧
      (clean = false ∨ readBack ≠ telegramBytes t →
        u.ch c = { s.ch c with sending := none, rx := .released, watch := some .passToken })) ∧
  (∀ (s : State) (c : Channel) (p : Pass) (w : PassWindow), (s.ch c).Ok → (s.ch c).pass = some p →
    p.window = some w →
    ∃ u, exec (.passWindowExpiry c) s = .next u ∧ OnlyChannel c s u ∧
      ((s.ch c).rx = .receiving true →
        u.ch c = { s.ch c with pass := some { p with window := some { w with ranOut := true } } }) ∧
      ((s.ch c).rx ≠ .receiving true → TryFails (s.ch c) (u.ch c) p false)) ∧
  (∀ (s : State) (c : Channel) (readBack : List Byte) (clean : Bool) (x : Transmission), (s.ch c).waiting = some x →
    (s.ch c).sending = none → (s.ch c).rx = .idle ∨ (s.ch c).rx = .unsynced →
    (x.job = .joinCall →
      exec (.joinCallEcho c readBack clean) s = exec (.joinCallEcho c readBack clean) (s.sends c x)) ∧
    (x.job = .passToken →
      exec (.passTokenEcho c readBack clean) s = exec (.passTokenEcho c readBack clean) (s.sends c x))) ∧
  ∀ (s : State) (c : Channel), (∀ p, (s.ch c).pass = some p → p.window = none) →
    exec (.passWindowExpiry c) s = .next s

/-- SILENCE_TIMER_EXPIRY enters CLAIMING with the reply queue emptied, CLAIM_TRANSMIT puts a TOKEN to the own station
on the idle line, and CLAIM_ECHO makes a good claim a visit with TOKEN_REGENERATED and the error run 0; a mismatch
raises the error run and returns the channel to the state it claimed from, or to SILENT at the limit (R133, R144, R146,
R148, R154, R155; the visit with nobody to pass to is log entry 13). That SILENCE_TIMER_EXPIRY with no timer running,
CLAIM_TRANSMIT with no claim to send or no idle line, and CLAIM_ECHO with no claim under way change nothing is the
model's choice (log entry 8), and so is that the line counts as idle before the first end gap and as not idle from a
mismatch until END_GAP or a telegram's end (log entry 12). -/
def Obligations.ClaimsRegenerateTheToken : Prop :=
  (∀ (s : State) (c : Channel), ∃ u, exec (.silenceTimerExpiry c) s = .next u ∧ OnlyChannel c s u ∧
    ((s.ch c).silenceTimer ≠ none →
      ((s.ch c).state = .listening → u.ch c = { s.ch c with
        state := .claiming, claimedFrom := .listening, silenceTimer := none, replyQueue := [] }) ∧
      ((s.ch c).state = .receiving → u.ch c = { s.ch c with
        state := .claiming, claimedFrom := .receiving, silenceTimer := none, replyQueue := [] })) ∧
    ((s.ch c).silenceTimer = none → u = s)) ∧
  (∀ (s : State) (c : Channel), ∃ u, exec (.claimTransmit c) s = .next u ∧ OnlyChannel c s u ∧
    ((s.ch c).state = .claiming → (s.ch c).sending = none → (s.ch c).rx = .idle ∨ (s.ch c).rx = .unsynced →
      u.ch c = { s.ch c with
        sending := some { job := .claim, telegram := .token (s.ch c).own (s.ch c).own } }) ∧
    ((s.ch c).state ≠ .claiming ∨ (s.ch c).sending ≠ none ∨
      ((s.ch c).rx ≠ .idle ∧ (s.ch c).rx ≠ .unsynced) → u = s)) ∧
  (∀ (s : State) (c : Channel) (readBack : List Byte) (clean : Bool) (t : Telegram), (s.ch c).Ok →
    (s.ch c).sending = some { job := .claim, telegram := t } → (s.ch c).state = .claiming →
    let heard : ChannelEngine := { s.ch c with
      sending := none, rx := .idle, errorRun := 0, event := (s.ch c).event ||| 0x001 }
    let run := min 31 ((s.ch c).errorRun + 1)
    let missed : ChannelEngine := { s.ch c with sending := none, rx := .released, watch := none, errorRun := run }
    ∃ u, exec (.claimEcho c readBack clean) s = .next u ∧ OnlyChannel c s u ∧
      (clean = true → readBack = telegramBytes t → VisitBegun heard (u.ch c)) ∧
      (clean = false ∨ readBack ≠ telegramBytes t →
        ((s.ch c).errorRunLimit ≤ run → u.ch c = missed.fellSilent) ∧
        (run < (s.ch c).errorRunLimit → u.ch c = { missed with
          silenceTimer := none
          state := match (s.ch c).claimedFrom with
            | .listening => .listening
            | .receiving => .receiving }))) ∧
  ∀ (s : State) (c : Channel) (readBack : List Byte) (clean : Bool),
    (∀ t, (s.ch c).sending ≠ some { job := .claim, telegram := t }) → exec (.claimEcho c readBack clean) s = .next s

/-! ### The telegram's layout -/

/-- A telegram laid out on the line is 5 to 25 bytes, is check-good, and reads back as itself in every field; so it is
judged as itself (R122 to R125, R201). Each byte is a start bit low, eight data bits most significant first and a stop
bit high, the bytes without gaps and the end gap after them, and LTX carries just that while LTXEN is asserted, on each
channel's pins (R120, R128, R193). Levels so laid out read back as their bytes where these are 5 to 25, and fewer
bytes, a 26th, a stop bit read low and 1 to 3 high bit times before a start bit end in their framing faults (R121). -/
def Obligations.TelegramsReadBackAsThemselves : Prop :=
  (∀ t : Telegram, telegramSized t = true →
    5 ≤ (telegramBytes t).length ∧ (telegramBytes t).length ≤ 25 ∧ parseTelegram (telegramBytes t) = .known t ∧
      ∀ own, judgeBytes own (telegramBytes t) = judgeTelegram own t) ∧
  (∀ bytes : List Byte, (lineLevels bytes).length = 10 * bytes.length + 4 ∧
    (∀ (n : Nat) (b : Byte), bytes[n]? = some b → (lineLevels bytes)[10 * n]? = some false ∧
      (∀ i, i < 8 → (lineLevels bytes)[10 * n + 1 + i]? = some (b.getLsbD (7 - i))) ∧
      (lineLevels bytes)[10 * n + 9]? = some true) ∧
    ∀ i, i < 4 → (lineLevels bytes)[10 * bytes.length + i]? = some true) ∧
  (∀ ce : ChannelEngine, (ce.ltxen = true ↔ ce.sending ≠ none) ∧ (ce.sending = none → ce.ltx = []) ∧
    ∀ x, ce.sending = some x → ce.ltx = lineLevels (telegramBytes x.telegram)) ∧
  (∀ (s : State) (c : Channel), s.pins.ltxen.get c = (s.ch c).ltxen ∧
    ∀ n : Nat, (s.pins.ltx.get c)[n]? = (s.ch c).ltx[n]?.map fun b => if b then .high else .low) ∧
  (∀ bytes : List Byte,
    (bytes ≠ [] → bytes.length < 5 → readLevels [] (lineLevels bytes) = .fault .tooShort) ∧
    (5 ≤ bytes.length → bytes.length ≤ 25 → readLevels [] (lineLevels bytes) = .completed bytes) ∧
    (25 < bytes.length → readLevels [] (lineLevels bytes) = .fault .byte26)) ∧
  ∀ (bytes : List Byte) (rest : List Bool),
    (∀ b : Byte, bytes.length < 25 → readLevels []
      (bytes.flatMap byteLevels ++ (byteLevels b).take 9 ++ false :: rest) = .fault .lowStopBit) ∧
    (∀ k, 1 ≤ k → k ≤ 3 → bytes ≠ [] → bytes.length ≤ 25 → readLevels []
      (bytes.flatMap byteLevels ++ List.replicate k true ++ false :: rest) = .fault .shortGap)

/-! ### What every step keeps -/

/-- The state after reset, whose values are those of R32, R103, R104 and R136, is as the manual promises of every
state: channel engines, rows, attention list, topic index, agreement of rows and channels, due list. -/
def Obligations.ResetMeetsTheInvariants : Prop :=
  State.reset.PartsOk ∧ State.reset.AttentionOk ∧ State.reset.TopicsOk ∧ State.reset.Agrees ∧ State.reset.DueOk

/-- Every step keeps every channel engine and every row as the manual promises (R2, R4, R6 to R8, R16, R34, R54, R132 to
R139, R142, R144, R148, R149, R151, R154). -/
def Obligations.StepsKeepChannelsAndRows : Prop :=
  ∀ s t : State, s.PartsOk → step s = .next t → t.PartsOk

/-- Every step keeps the attention list free of repeated rows and empty reason sets, and keeps in the topic index
exactly one entry for each row that is not FREE (R26, R104). -/
def Obligations.StepsKeepAttentionAndTopics : Prop :=
  ∀ s t : State, s.AttentionOk → s.TopicsOk → step s = .next t → t.AttentionOk ∧ t.TopicsOk

/-- Every step keeps the agreement of the image table with the channels, FREE rows at their free values, and the due
list naming exactly the deadlines that are DUE (R1, R11, R12, R22, R23, R25, R53, R77, R88, R104). -/
def Obligations.StepsKeepTheAgreement : Prop :=
  ∀ s t : State, s.Agrees → s.DueOk → step s = .next t → t.Agrees ∧ t.DueOk

/-- A row that is not FREE before and after a step keeps its topic, role, class, length and masks, and keeps an
image that is present; its generation stays with image and sequence unchanged, or rises by 1 with an image present
(R3 to R6). -/
def Obligations.StepsKeepARowsIdentity : Prop :=
  ∀ (s t : State) (r : RowId), step s = .next t → (s.row r).state ≠ .free → (t.row r).state ≠ .free →
    (t.row r).topic = (s.row r).topic ∧ (t.row r).role = (s.row r).role ∧ (t.row r).cls = (s.row r).cls ∧
      (t.row r).length = (s.row r).length ∧ (t.row r).sourceMask = (s.row r).sourceMask ∧
      (t.row r).sendMask = (s.row r).sendMask ∧ ((s.row r).image.isSome = true → (t.row r).image.isSome = true) ∧
      (((t.row r).generation = (s.row r).generation ∧ (t.row r).image = (s.row r).image ∧
          (t.row r).sequence = (s.row r).sequence) ∨
        ((t.row r).generation = (s.row r).generation + 1 ∧ (t.row r).image.isSome = true))
end

