-- ==== Sys2Proof/Laws/State.lean ====
section
/-! SUPPORT. What the accessors and updates of the state read back: one lemma per field per update. -/

namespace Sys2Proof

@[simp] theorem Quad.get_set_self {α : Type} (q : Quad α) (i : Fin 4) (x : α) : (q.set i x).get i = x := by
  match i with
  | 0 => rfl
  | 1 => rfl
  | 2 => rfl
  | 3 => rfl

theorem Quad.get_set {α : Type} (q : Quad α) (i j : Fin 4) (x : α) :
    (q.set i x).get j = if i = j then x else q.get j := by
  match i, j with
  | 0, 0 => rfl
  | 0, 1 => rfl
  | 0, 2 => rfl
  | 0, 3 => rfl
  | 1, 0 => rfl
  | 1, 1 => rfl
  | 1, 2 => rfl
  | 1, 3 => rfl
  | 2, 0 => rfl
  | 2, 1 => rfl
  | 2, 2 => rfl
  | 2, 3 => rfl
  | 3, 0 => rfl
  | 3, 1 => rfl
  | 3, 2 => rfl
  | 3, 3 => rfl

@[simp] theorem Quad.get_set_ne {α : Type} (q : Quad α) {i j : Fin 4} (x : α) (h : i ≠ j) :
    (q.set i x).get j = q.get j := by
  rw [Quad.get_set, if_neg h]

theorem Quad.ext_get {α : Type} {p q : Quad α} (h : ∀ i, p.get i = q.get i) : p = q := by
  cases p; cases q
  have h0 := h 0; have h1 := h 1; have h2 := h 2; have h3 := h 3
  simp only [Quad.get] at h0 h1 h2 h3
  simp [h0, h1, h2, h3]

@[simp] theorem Quad.get_map {α β : Type} (f : α → β) (q : Quad α) (i : Fin 4) :
    (q.map f).get i = f (q.get i) := by
  match i with
  | 0 => rfl
  | 1 => rfl
  | 2 => rfl
  | 3 => rfl

@[simp] theorem Quad.get_all {α : Type} (x : α) (i : Fin 4) : (Quad.all x).get i = x := by
  match i with
  | 0 => rfl
  | 1 => rfl
  | 2 => rfl
  | 3 => rfl

@[simp] theorem Quad.get_tabulate {α : Type} (f : Fin 4 → α) (i : Fin 4) : (Quad.tabulate f).get i = f i := by
  match i with
  | 0 => rfl
  | 1 => rfl
  | 2 => rfl
  | 3 => rfl

@[simp] theorem Quad.set_get {α : Type} (q : Quad α) (i : Fin 4) : q.set i (q.get i) = q := by
  match i with
  | 0 => rfl
  | 1 => rfl
  | 2 => rfl
  | 3 => rfl

@[simp] theorem Quad.set_set {α : Type} (q : Quad α) (i : Fin 4) (x y : α) : (q.set i x).set i y = q.set i y := by
  match i with
  | 0 => rfl
  | 1 => rfl
  | 2 => rfl
  | 3 => rfl

end Sys2Proof

namespace Sys2Proof.Machine

/-! ### Rows -/

@[simp] theorem State.row_updRow_self (s : State) (r : RowId) (f : Row → Row) :
    (s.updRow r f).row r = f (s.row r) := by
  simp only [State.row, State.updRow]
  exact Vector.getElem_set_self r.isLt

@[simp] theorem State.row_updRow_ne (s : State) {r r' : RowId} (f : Row → Row) (h : r ≠ r') :
    (s.updRow r f).row r' = s.row r' := by
  have h' : r.val ≠ r'.val := fun e => h (Fin.ext e)
  simp only [State.row, State.updRow]
  exact Vector.getElem_set_ne r.isLt r'.isLt h'

theorem State.row_updRow (s : State) (r r' : RowId) (f : Row → Row) :
    (s.updRow r f).row r' = if r = r' then f (s.row r) else s.row r' := by
  by_cases h : r = r'
  · subst h; simp
  · simp [h]

@[simp] theorem State.ch_updRow (s : State) (r : RowId) (f : Row → Row) (c : Channel) :
    (s.updRow r f).ch c = s.ch c := rfl

@[simp] theorem State.updRow_topicIndex (s : State) (r : RowId) (f : Row → Row) :
    (s.updRow r f).topicIndex = s.topicIndex := rfl
@[simp] theorem State.updRow_served (s : State) (r : RowId) (f : Row → Row) : (s.updRow r f).served = s.served := rfl
@[simp] theorem State.updRow_turn (s : State) (r : RowId) (f : Row → Row) : (s.updRow r f).turn = s.turn := rfl
@[simp] theorem State.updRow_iu (s : State) (r : RowId) (f : Row → Row) : (s.updRow r f).iu = s.iu := rfl
@[simp] theorem State.updRow_attention (s : State) (r : RowId) (f : Row → Row) :
    (s.updRow r f).attention = s.attention := rfl
@[simp] theorem State.updRow_attnEnable (s : State) (r : RowId) (f : Row → Row) :
    (s.updRow r f).attnEnable = s.attnEnable := rfl
@[simp] theorem State.updRow_cu (s : State) (r : RowId) (f : Row → Row) : (s.updRow r f).cu = s.cu := rfl
@[simp] theorem State.updRow_port (s : State) (r : RowId) (f : Row → Row) : (s.updRow r f).port = s.port := rfl
@[simp] theorem State.updRow_resetCause (s : State) (r : RowId) (f : Row → Row) :
    (s.updRow r f).resetCause = s.resetCause := rfl
@[simp] theorem State.updRow_channels (s : State) (r : RowId) (f : Row → Row) :
    (s.updRow r f).channels = s.channels := rfl
@[simp] theorem State.updRow_pending (s : State) (r : RowId) (f : Row → Row) :
    (s.updRow r f).pending = s.pending := rfl

/-- States with the same rows have the same row table. -/
theorem rows_ext {u v : Vector Row 256} (h : ∀ r : RowId, u.get r = v.get r) : u = v := by
  apply Vector.ext
  intro i hi
  exact h ⟨i, hi⟩

theorem mapRows_get {α : Type} {n : Nat} (f : Fin n → α → α) (v : Vector α n) (r : Fin n) :
    (Machine.mapRows f v).get r = f r (v.get r) := by
  obtain ⟨i, hi⟩ := r
  unfold Machine.mapRows
  simp only [Vector.get, List.getElem_toArray, Fin.val_cast, List.getElem_ofFn]
  rfl

@[simp] theorem State.row_mapRows (s : State) (f : RowId → Row → Row) (r : RowId) :
    (s.mapRows f).row r = f r (s.row r) := mapRows_get f s.rows r

@[simp] theorem State.ch_mapRows (s : State) (f : RowId → Row → Row) (c : Channel) :
    (s.mapRows f).ch c = s.ch c := rfl

@[simp] theorem State.mapRows_topicIndex (s : State) (f : RowId → Row → Row) :
    (s.mapRows f).topicIndex = s.topicIndex := rfl
@[simp] theorem State.mapRows_served (s : State) (f : RowId → Row → Row) : (s.mapRows f).served = s.served := rfl
@[simp] theorem State.mapRows_turn (s : State) (f : RowId → Row → Row) : (s.mapRows f).turn = s.turn := rfl
@[simp] theorem State.mapRows_iu (s : State) (f : RowId → Row → Row) : (s.mapRows f).iu = s.iu := rfl
@[simp] theorem State.mapRows_attention (s : State) (f : RowId → Row → Row) :
    (s.mapRows f).attention = s.attention := rfl
@[simp] theorem State.mapRows_attnEnable (s : State) (f : RowId → Row → Row) :
    (s.mapRows f).attnEnable = s.attnEnable := rfl
@[simp] theorem State.mapRows_cu (s : State) (f : RowId → Row → Row) : (s.mapRows f).cu = s.cu := rfl
@[simp] theorem State.mapRows_port (s : State) (f : RowId → Row → Row) : (s.mapRows f).port = s.port := rfl
@[simp] theorem State.mapRows_resetCause (s : State) (f : RowId → Row → Row) :
    (s.mapRows f).resetCause = s.resetCause := rfl
@[simp] theorem State.mapRows_channels (s : State) (f : RowId → Row → Row) :
    (s.mapRows f).channels = s.channels := rfl
@[simp] theorem State.mapRows_pending (s : State) (f : RowId → Row → Row) : (s.mapRows f).pending = s.pending := rfl

/-! ### Channel engines -/

@[simp] theorem State.ch_updCh_self (s : State) (c : Channel) (f : ChannelEngine → ChannelEngine) :
    (s.updCh c f).ch c = f (s.ch c) := by
  simp [State.ch, State.updCh]

@[simp] theorem State.ch_updCh_ne (s : State) {c d : Channel} (f : ChannelEngine → ChannelEngine) (h : c ≠ d) :
    (s.updCh c f).ch d = s.ch d := by
  simp [State.ch, State.updCh, h]

theorem State.ch_updCh (s : State) (c d : Channel) (f : ChannelEngine → ChannelEngine) :
    (s.updCh c f).ch d = if c = d then f (s.ch c) else s.ch d := by
  by_cases h : c = d
  · subst h; simp
  · simp [h]

@[simp] theorem State.row_updCh (s : State) (c : Channel) (f : ChannelEngine → ChannelEngine) (r : RowId) :
    (s.updCh c f).row r = s.row r := rfl

@[simp] theorem State.updCh_rows (s : State) (c : Channel) (f : ChannelEngine → ChannelEngine) :
    (s.updCh c f).rows = s.rows := rfl
@[simp] theorem State.updCh_topicIndex (s : State) (c : Channel) (f : ChannelEngine → ChannelEngine) :
    (s.updCh c f).topicIndex = s.topicIndex := rfl
@[simp] theorem State.updCh_served (s : State) (c : Channel) (f : ChannelEngine → ChannelEngine) :
    (s.updCh c f).served = s.served := rfl
@[simp] theorem State.updCh_turn (s : State) (c : Channel) (f : ChannelEngine → ChannelEngine) :
    (s.updCh c f).turn = s.turn := rfl
@[simp] theorem State.updCh_iu (s : State) (c : Channel) (f : ChannelEngine → ChannelEngine) :
    (s.updCh c f).iu = s.iu := rfl
@[simp] theorem State.updCh_attention (s : State) (c : Channel) (f : ChannelEngine → ChannelEngine) :
    (s.updCh c f).attention = s.attention := rfl
@[simp] theorem State.updCh_attnEnable (s : State) (c : Channel) (f : ChannelEngine → ChannelEngine) :
    (s.updCh c f).attnEnable = s.attnEnable := rfl
@[simp] theorem State.updCh_cu (s : State) (c : Channel) (f : ChannelEngine → ChannelEngine) :
    (s.updCh c f).cu = s.cu := rfl
@[simp] theorem State.updCh_port (s : State) (c : Channel) (f : ChannelEngine → ChannelEngine) :
    (s.updCh c f).port = s.port := rfl
@[simp] theorem State.updCh_resetCause (s : State) (c : Channel) (f : ChannelEngine → ChannelEngine) :
    (s.updCh c f).resetCause = s.resetCause := rfl
@[simp] theorem State.updCh_pending (s : State) (c : Channel) (f : ChannelEngine → ChannelEngine) :
    (s.updCh c f).pending = s.pending := rfl

/-- A channel engine put back as it was. -/
theorem State.updCh_restore (s : State) (c : Channel) (f : ChannelEngine → ChannelEngine) :
    ((s.updCh c f).updCh c fun _ => s.ch c) = s := by
  simp [State.updCh, State.ch]

/-- A row put back as it was. -/
theorem State.updRow_restore (s : State) (r : RowId) (f : Row → Row) :
    ((s.updRow r f).updRow r fun _ => s.row r) = s := by
  have h : (s.updRow r f).rows.set r.val (s.row r) = s.rows := by
    apply Vector.ext
    intro i hi
    by_cases h : r.val = i
    · subst h; simp [State.row, State.updRow, Vector.get]
    · simp [State.updRow, h]
  simp only [State.updRow] at h ⊢
  rw [h]

/-! ### Ports, attention and rotation -/

@[simp] theorem State.setPortError_rows (s : State) : s.setPortError.rows = s.rows := rfl
@[simp] theorem State.setPortError_topicIndex (s : State) : s.setPortError.topicIndex = s.topicIndex := rfl
@[simp] theorem State.setPortError_served (s : State) : s.setPortError.served = s.served := rfl
@[simp] theorem State.setPortError_turn (s : State) : s.setPortError.turn = s.turn := rfl
@[simp] theorem State.setPortError_iu (s : State) : s.setPortError.iu = s.iu := rfl
@[simp] theorem State.setPortError_attention (s : State) : s.setPortError.attention = s.attention := rfl
@[simp] theorem State.setPortError_attnEnable (s : State) : s.setPortError.attnEnable = s.attnEnable := rfl
@[simp] theorem State.setPortError_cu (s : State) : s.setPortError.cu = s.cu := rfl
@[simp] theorem State.setPortError_resetCause (s : State) : s.setPortError.resetCause = s.resetCause := rfl
@[simp] theorem State.setPortError_channels (s : State) : s.setPortError.channels = s.channels := rfl
@[simp] theorem State.setPortError_pending (s : State) : s.setPortError.pending = s.pending := rfl
@[simp] theorem State.row_setPortError (s : State) (r : RowId) : s.setPortError.row r = s.row r := rfl
@[simp] theorem State.ch_setPortError (s : State) (c : Channel) : s.setPortError.ch c = s.ch c := rfl
@[simp] theorem State.setConfigRefused_rows (s : State) : s.setConfigRefused.rows = s.rows := rfl
@[simp] theorem State.setConfigRefused_topicIndex (s : State) : s.setConfigRefused.topicIndex = s.topicIndex := rfl
@[simp] theorem State.setConfigRefused_served (s : State) : s.setConfigRefused.served = s.served := rfl
@[simp] theorem State.setConfigRefused_turn (s : State) : s.setConfigRefused.turn = s.turn := rfl
@[simp] theorem State.setConfigRefused_iu (s : State) : s.setConfigRefused.iu = s.iu := rfl
@[simp] theorem State.setConfigRefused_attention (s : State) : s.setConfigRefused.attention = s.attention := rfl
@[simp] theorem State.setConfigRefused_attnEnable (s : State) : s.setConfigRefused.attnEnable = s.attnEnable := rfl
@[simp] theorem State.setConfigRefused_cu (s : State) : s.setConfigRefused.cu = s.cu := rfl
@[simp] theorem State.setConfigRefused_resetCause (s : State) : s.setConfigRefused.resetCause = s.resetCause := rfl
@[simp] theorem State.setConfigRefused_channels (s : State) : s.setConfigRefused.channels = s.channels := rfl
@[simp] theorem State.setConfigRefused_pending (s : State) : s.setConfigRefused.pending = s.pending := rfl
@[simp] theorem State.row_setConfigRefused (s : State) (r : RowId) : s.setConfigRefused.row r = s.row r := rfl
@[simp] theorem State.ch_setConfigRefused (s : State) (c : Channel) : s.setConfigRefused.ch c = s.ch c := rfl

@[simp] theorem State.wakeAll_ch (s : State) (c : Channel) : s.wakeAll.ch c = (s.ch c).wake := by
  simp [State.wakeAll, State.ch]

@[simp] theorem State.wakeAll_row (s : State) (r : RowId) : s.wakeAll.row r = s.row r := rfl

@[simp] theorem State.wakeAll_rows (s : State) : s.wakeAll.rows = s.rows := rfl
@[simp] theorem State.wakeAll_topicIndex (s : State) : s.wakeAll.topicIndex = s.topicIndex := rfl
@[simp] theorem State.wakeAll_served (s : State) : s.wakeAll.served = s.served := rfl
@[simp] theorem State.wakeAll_turn (s : State) : s.wakeAll.turn = s.turn := rfl
@[simp] theorem State.wakeAll_iu (s : State) : s.wakeAll.iu = s.iu := rfl
@[simp] theorem State.wakeAll_attention (s : State) : s.wakeAll.attention = s.attention := rfl
@[simp] theorem State.wakeAll_attnEnable (s : State) : s.wakeAll.attnEnable = s.attnEnable := rfl
@[simp] theorem State.wakeAll_cu (s : State) : s.wakeAll.cu = s.cu := rfl
@[simp] theorem State.wakeAll_port (s : State) : s.wakeAll.port = s.port := rfl
@[simp] theorem State.wakeAll_resetCause (s : State) : s.wakeAll.resetCause = s.resetCause := rfl
@[simp] theorem State.wakeAll_pending (s : State) : s.wakeAll.pending = s.pending := rfl

@[simp] theorem State.withdraw_row (s : State) (r : RowId) (k : DeadlineKind) (r' : RowId) :
    (s.withdraw r k).row r' = s.row r' := rfl

@[simp] theorem State.withdraw_ch (s : State) (r : RowId) (k : DeadlineKind) (c : Channel) :
    (s.withdraw r k).ch c = s.ch c := rfl

@[simp] theorem State.withdraw_rows (s : State) (r : RowId) (k : DeadlineKind) : (s.withdraw r k).rows = s.rows := rfl
@[simp] theorem State.withdraw_topicIndex (s : State) (r : RowId) (k : DeadlineKind) :
    (s.withdraw r k).topicIndex = s.topicIndex := rfl
@[simp] theorem State.withdraw_served (s : State) (r : RowId) (k : DeadlineKind) :
    (s.withdraw r k).served = s.served := rfl
@[simp] theorem State.withdraw_turn (s : State) (r : RowId) (k : DeadlineKind) :
    (s.withdraw r k).turn = s.turn := rfl
@[simp] theorem State.withdraw_attention (s : State) (r : RowId) (k : DeadlineKind) :
    (s.withdraw r k).attention = s.attention := rfl
@[simp] theorem State.withdraw_attnEnable (s : State) (r : RowId) (k : DeadlineKind) :
    (s.withdraw r k).attnEnable = s.attnEnable := rfl
@[simp] theorem State.withdraw_cu (s : State) (r : RowId) (k : DeadlineKind) : (s.withdraw r k).cu = s.cu := rfl
@[simp] theorem State.withdraw_port (s : State) (r : RowId) (k : DeadlineKind) : (s.withdraw r k).port = s.port := rfl
@[simp] theorem State.withdraw_resetCause (s : State) (r : RowId) (k : DeadlineKind) :
    (s.withdraw r k).resetCause = s.resetCause := rfl
@[simp] theorem State.withdraw_channels (s : State) (r : RowId) (k : DeadlineKind) :
    (s.withdraw r k).channels = s.channels := rfl
@[simp] theorem State.withdraw_pending (s : State) (r : RowId) (k : DeadlineKind) :
    (s.withdraw r k).pending = s.pending := rfl

@[simp] theorem State.finish_row (s : State) (row : Byte) (ws : List Word) (r : RowId) :
    (s.finish row ws).row r = s.row r := rfl
@[simp] theorem State.finish_ch (s : State) (row : Byte) (ws : List Word) (c : Channel) :
    (s.finish row ws).ch c = s.ch c := rfl
@[simp] theorem State.finish_rows (s : State) (row : Byte) (ws : List Word) : (s.finish row ws).rows = s.rows := rfl
@[simp] theorem State.finish_topicIndex (s : State) (row : Byte) (ws : List Word) :
    (s.finish row ws).topicIndex = s.topicIndex := rfl
@[simp] theorem State.finish_served (s : State) (row : Byte) (ws : List Word) :
    (s.finish row ws).served = s.served := rfl
@[simp] theorem State.finish_turn (s : State) (row : Byte) (ws : List Word) :
    (s.finish row ws).turn = s.turn := rfl
@[simp] theorem State.finish_iu (s : State) (row : Byte) (ws : List Word) : (s.finish row ws).iu = s.iu := rfl
@[simp] theorem State.finish_attention (s : State) (row : Byte) (ws : List Word) :
    (s.finish row ws).attention = s.attention := rfl
@[simp] theorem State.finish_attnEnable (s : State) (row : Byte) (ws : List Word) :
    (s.finish row ws).attnEnable = s.attnEnable := rfl
@[simp] theorem State.finish_port (s : State) (row : Byte) (ws : List Word) : (s.finish row ws).port = s.port := rfl
@[simp] theorem State.finish_resetCause (s : State) (row : Byte) (ws : List Word) :
    (s.finish row ws).resetCause = s.resetCause := rfl
@[simp] theorem State.finish_channels (s : State) (row : Byte) (ws : List Word) :
    (s.finish row ws).channels = s.channels := rfl
@[simp] theorem State.finish_pending (s : State) (row : Byte) (ws : List Word) :
    (s.finish row ws).pending = s.pending := rfl

@[simp] theorem State.presenting_row (s : State) (f : State → State) (r : RowId) :
    (s.presenting f).row r = (f s).row r := rfl
@[simp] theorem State.presenting_ch (s : State) (f : State → State) (c : Channel) :
    (s.presenting f).ch c = (f s).ch c := rfl
@[simp] theorem State.presenting_rows (s : State) (f : State → State) : (s.presenting f).rows = (f s).rows := rfl
@[simp] theorem State.presenting_topicIndex (s : State) (f : State → State) :
    (s.presenting f).topicIndex = (f s).topicIndex := rfl
@[simp] theorem State.presenting_served (s : State) (f : State → State) : (s.presenting f).served = (f s).served := rfl
@[simp] theorem State.presenting_iu (s : State) (f : State → State) : (s.presenting f).iu = (f s).iu := rfl
@[simp] theorem State.presenting_attention (s : State) (f : State → State) :
    (s.presenting f).attention = (f s).attention := rfl
@[simp] theorem State.presenting_attnEnable (s : State) (f : State → State) :
    (s.presenting f).attnEnable = (f s).attnEnable := rfl
@[simp] theorem State.presenting_cu (s : State) (f : State → State) : (s.presenting f).cu = (f s).cu := rfl
@[simp] theorem State.presenting_port (s : State) (f : State → State) : (s.presenting f).port = (f s).port := rfl
@[simp] theorem State.presenting_resetCause (s : State) (f : State → State) :
    (s.presenting f).resetCause = (f s).resetCause := rfl
@[simp] theorem State.presenting_channels (s : State) (f : State → State) :
    (s.presenting f).channels = (f s).channels := rfl
@[simp] theorem State.presenting_pending (s : State) (f : State → State) :
    (s.presenting f).pending = (f s).pending := rfl
@[simp] theorem State.presenting_waits (s : State) (f : State → State) (q : Requester) :
    (s.presenting f).waits q = (f s).waits q := by
  cases q <;> rfl

@[simp] theorem State.onChannel_row (s : State) (c : Channel) (f : ChannelEngine → ChannelEngine) (r : RowId) :
    (s.onChannel c f).row r = s.row r := rfl
@[simp] theorem State.onChannel_ch_self (s : State) (c : Channel) (f : ChannelEngine → ChannelEngine) :
    (s.onChannel c f).ch c = f (s.ch c) := State.ch_updCh_self s c f
@[simp] theorem State.onChannel_ch_ne (s : State) {c e : Channel} (f : ChannelEngine → ChannelEngine) (h : c ≠ e) :
    (s.onChannel c f).ch e = s.ch e := State.ch_updCh_ne s f h

@[simp] theorem State.refuse_row (s : State) (code : ResultCode) (r : RowId) : (s.refuse code).row r = s.row r := rfl
@[simp] theorem State.refuse_ch (s : State) (code : ResultCode) (c : Channel) : (s.refuse code).ch c = s.ch c := rfl
@[simp] theorem State.refuse_rows (s : State) (code : ResultCode) : (s.refuse code).rows = s.rows := rfl
@[simp] theorem State.refuse_topicIndex (s : State) (code : ResultCode) :
    (s.refuse code).topicIndex = s.topicIndex := rfl
@[simp] theorem State.refuse_served (s : State) (code : ResultCode) : (s.refuse code).served = s.served := rfl
@[simp] theorem State.refuse_turn (s : State) (code : ResultCode) : (s.refuse code).turn = s.turn := rfl
@[simp] theorem State.refuse_iu (s : State) (code : ResultCode) : (s.refuse code).iu = s.iu := rfl
@[simp] theorem State.refuse_attention (s : State) (code : ResultCode) :
    (s.refuse code).attention = s.attention := rfl
@[simp] theorem State.refuse_attnEnable (s : State) (code : ResultCode) :
    (s.refuse code).attnEnable = s.attnEnable := rfl
@[simp] theorem State.refuse_port (s : State) (code : ResultCode) : (s.refuse code).port = s.port := rfl
@[simp] theorem State.refuse_resetCause (s : State) (code : ResultCode) :
    (s.refuse code).resetCause = s.resetCause := rfl
@[simp] theorem State.refuse_channels (s : State) (code : ResultCode) : (s.refuse code).channels = s.channels := rfl
@[simp] theorem State.refuse_pending (s : State) (code : ResultCode) : (s.refuse code).pending = s.pending := rfl

/-! ### The side of a row -/

@[simp] theorem Row.side_updSide_self (row : Row) (c : Channel) (f : Side → Side) :
    (row.updSide c f).side.get c = f (row.side.get c) := by
  simp [Row.updSide]

@[simp] theorem Row.side_updSide_ne (row : Row) {c d : Channel} (f : Side → Side) (h : c ≠ d) :
    (row.updSide c f).side.get d = row.side.get d := by
  simp [Row.updSide, h]

@[simp] theorem Row.updSide_state (row : Row) (c : Channel) (g : Side → Side) :
    (row.updSide c g).state = row.state := rfl
@[simp] theorem Row.updSide_topic (row : Row) (c : Channel) (g : Side → Side) :
    (row.updSide c g).topic = row.topic := rfl
@[simp] theorem Row.updSide_role (row : Row) (c : Channel) (g : Side → Side) :
    (row.updSide c g).role = row.role := rfl
@[simp] theorem Row.updSide_cls (row : Row) (c : Channel) (g : Side → Side) : (row.updSide c g).cls = row.cls := rfl
@[simp] theorem Row.updSide_length (row : Row) (c : Channel) (g : Side → Side) :
    (row.updSide c g).length = row.length := rfl
@[simp] theorem Row.updSide_sourceMask (row : Row) (c : Channel) (g : Side → Side) :
    (row.updSide c g).sourceMask = row.sourceMask := rfl
@[simp] theorem Row.updSide_sendMask (row : Row) (c : Channel) (g : Side → Side) :
    (row.updSide c g).sendMask = row.sendMask := rfl
@[simp] theorem Row.updSide_image (row : Row) (c : Channel) (g : Side → Side) :
    (row.updSide c g).image = row.image := rfl
@[simp] theorem Row.updSide_generation (row : Row) (c : Channel) (g : Side → Side) :
    (row.updSide c g).generation = row.generation := rfl
@[simp] theorem Row.updSide_sequence (row : Row) (c : Channel) (g : Side → Side) :
    (row.updSide c g).sequence = row.sequence := rfl
@[simp] theorem Row.updSide_sourceStation (row : Row) (c : Channel) (g : Side → Side) :
    (row.updSide c g).sourceStation = row.sourceStation := rfl
@[simp] theorem Row.updSide_arrivalChannel (row : Row) (c : Channel) (g : Side → Side) :
    (row.updSide c g).arrivalChannel = row.arrivalChannel := rfl
@[simp] theorem Row.updSide_freshnessLimit (row : Row) (c : Channel) (g : Side → Side) :
    (row.updSide c g).freshnessLimit = row.freshnessLimit := rfl
@[simp] theorem Row.updSide_refreshPeriod (row : Row) (c : Channel) (g : Side → Side) :
    (row.updSide c g).refreshPeriod = row.refreshPeriod := rfl
@[simp] theorem Row.updSide_inhibitGap (row : Row) (c : Channel) (g : Side → Side) :
    (row.updSide c g).inhibitGap = row.inhibitGap := rfl
@[simp] theorem Row.updSide_confirmStation (row : Row) (c : Channel) (g : Side → Side) :
    (row.updSide c g).confirmStation = row.confirmStation := rfl
@[simp] theorem Row.updSide_recallOnStale (row : Row) (c : Channel) (g : Side → Side) :
    (row.updSide c g).recallOnStale = row.recallOnStale := rfl
@[simp] theorem Row.updSide_sequenceCheck (row : Row) (c : Channel) (g : Side → Side) :
    (row.updSide c g).sequenceCheck = row.sequenceCheck := rfl
@[simp] theorem Row.updSide_attentionMask (row : Row) (c : Channel) (g : Side → Side) :
    (row.updSide c g).attentionMask = row.attentionMask := rfl
@[simp] theorem Row.updSide_rejectCount (row : Row) (c : Channel) (g : Side → Side) :
    (row.updSide c g).rejectCount = row.rejectCount := rfl
@[simp] theorem Row.updSide_gapRunning (row : Row) (c : Channel) (g : Side → Side) :
    (row.updSide c g).gapRunning = row.gapRunning := rfl
@[simp] theorem Row.updSide_heldMask (row : Row) (c : Channel) (g : Side → Side) :
    (row.updSide c g).heldMask = row.heldMask := rfl
@[simp] theorem Row.updSide_age (row : Row) (c : Channel) (g : Side → Side) : (row.updSide c g).age = row.age := rfl
@[simp] theorem Row.updSide_freshness (row : Row) (c : Channel) (g : Side → Side) :
    (row.updSide c g).freshness = row.freshness := rfl
@[simp] theorem Row.updSide_refresh (row : Row) (c : Channel) (g : Side → Side) :
    (row.updSide c g).refresh = row.refresh := rfl
@[simp] theorem Row.updSide_gap (row : Row) (c : Channel) (g : Side → Side) : (row.updSide c g).gap = row.gap := rfl

end Sys2Proof.Machine
end

