-- ==== Sys2Proof/Laws/Ops.lean ====
section
/-! SUPPORT. What each shared operation of the table transactions can do, said once. -/

namespace Sys2Proof.Machine

/-! ### Every command answers with a next state -/

/-- No command faults and none is refused (log entry 5). -/
theorem exec_next (i : Instr) (s : State) : ∃ t, exec i s = .next t := by
  cases i
  case publishArrival c => simp only [exec, execPublishArrival]; split <;> exact ⟨_, rfl⟩
  case recallArrival c => simp only [exec, execRecallArrival]; split <;> exact ⟨_, rfl⟩
  case attemptStart c => simp only [exec, execAttemptStart]; split <;> exact ⟨_, rfl⟩
  case attemptOutcome c => simp only [exec, execAttemptOutcome]; split <;> exact ⟨_, rfl⟩
  case removalTransaction c => simp only [exec, execRemovalTransaction]; split <;> exact ⟨_, rfl⟩
  case commandTransaction => simp only [exec, execCommandTransaction]; split <;> exact ⟨_, rfl⟩
  case deadlineDue => simp only [exec, execDeadlineDue]; split <;> exact ⟨_, rfl⟩
  case endInsideTransaction bits => simp only [exec, execEndInsideTransaction]; (repeat' split) <;> exact ⟨_, rfl⟩
  case unmatchedRingTelegram c k a b => cases k <;> exact ⟨_, rfl⟩
  all_goals exact ⟨_, rfl⟩

/-- A step takes the front of the queue. -/
theorem step_cons {s : State} {c : Instr} {rest : List Instr} (h : s.pending = c :: rest) :
    step s = exec c { s with pending := rest } := by
  simp only [step, h]

/-- A step of an empty queue changes nothing. -/
theorem step_nil {s : State} (h : s.pending = []) : step s = .next s := by
  simp only [step, h]

/-! ### The table controller -/

/-- A transaction taken in its turn. -/
theorem State.transact_turn {s : State} {q : Requester} (h : s.nextServed = some q) (f : State → State) :
    s.transact q f = (f { s with served := q, turn := none }).wakeAll := by
  simp only [State.transact, h, if_true]

/-- A transaction out of its turn is not taken. -/
theorem State.transact_other {s : State} {q : Requester} (h : s.nextServed ≠ some q) (f : State → State) :
    s.transact q f = s := by
  simp only [State.transact, if_neg h]

/-- Everything a transaction can do. -/
theorem State.transact_cases (s : State) (q : Requester) (f : State → State) :
    s.transact q f = s ∨ (s.nextServed = some q ∧ s.transact q f = (f { s with served := q, turn :=
      none }).wakeAll) := by
  by_cases h : s.nextServed = some q
  · exact .inr ⟨h, State.transact_turn h f⟩
  · exact .inl (State.transact_other h f)

/-- A change that makes no requester wait that did not wait before leaves the controller's choice as it is. -/
theorem State.presenting_of_same {s : State} {f : State → State} (h : ∀ q, (f s).waits q = true → s.waits q = true) :
    s.presenting f = f s := by
  have none_new : (requesters.any fun q => (f s).waits q && !s.waits q) = false := by
    rw [List.any_eq_false]
    intro q _
    cases w : (f s).waits q
    · simp
    · simp [h q w]
  simp only [State.presenting, none_new]
  rfl

/-- The ring holds every requester (R29). -/
theorem mem_requesters (q : Requester) : q ∈ requesters := by
  cases q with
  | cu => decide
  | iu => decide
  | rx c => revert c; decide
  | tx c => revert c; decide

/-- A request that arrives while others wait finds the choice among those made. -/
theorem State.presenting_turn_of_new {s : State} {f : State → State} {q : Requester} (hw : (f s).waits q = true)
    (hs : s.waits q = false) : (s.presenting f).turn = s.nextServed := by
  have new : (requesters.any fun q => (f s).waits q && !s.waits q) = true := by
    rw [List.any_eq_true]
    exact ⟨q, mem_requesters q, by simp [hw, hs]⟩
  simp only [State.presenting, new, if_true]

/-- The requester chosen is the next one taken for as long as it waits. -/
theorem State.nextServed_of_turn {s : State} {q : Requester} (ht : s.turn = some q) (hw : s.waits q = true) :
    s.nextServed = some q := by
  simp only [State.nextServed, ht, hw, if_true]

/-- With no choice made that still waits, the next one taken is the first waiting after the one served last. -/
theorem State.nextServed_of_free {s : State} (h : ∀ q, s.turn = some q → s.waits q = false) :
    s.nextServed = s.firstWaiting := by
  unfold State.nextServed
  split
  · rename_i q hq
    simp [h q hq]
  · rfl

/-! ### Deadlines -/

@[simp] theorem State.withdraw_tickCount (s : State) (r : RowId) (k : DeadlineKind) :
    (s.withdraw r k).iu.tickCount = s.iu.tickCount := rfl
@[simp] theorem State.withdraw_dueList (s : State) (r : RowId) (k : DeadlineKind) :
    (s.withdraw r k).iu.dueList = s.iu.dueList.filter fun e => e ≠ { row := r, kind := k } := rfl

/-- A withdrawn expiry voids the presented one where it names the same deadline, and no other. -/
theorem State.withdraw_presented (s : State) (r : RowId) (k : DeadlineKind) :
    (s.withdraw r k).iu.presented = s.iu.presented.map fun p =>
      if p.entry = { row := r, kind := k } then { p with void := true } else p := rfl

@[simp] theorem Row.deadline_withDeadline_self (row : Row) (k : DeadlineKind) (d : Deadline) :
    (row.withDeadline k d).deadline k = d := by
  cases k <;> rfl

theorem Row.deadline_withDeadline_ne (row : Row) {k j : DeadlineKind} (d : Deadline) (h : k ≠ j) :
    (row.withDeadline k d).deadline j = row.deadline j := by
  cases k <;> cases j <;> first | rfl | exact absurd rfl h

/-- A started deadline: the row's deadline runs afresh with the length the row holds, and its expiry is withdrawn. -/
theorem State.startDeadline_eq (s : State) (r : RowId) (k : DeadlineKind) :
    s.startDeadline r k =
      (s.withdraw r k).updRow r fun row => row.withDeadline k (startedDeadline (row.deadlineLength k)) := rfl

@[simp] theorem State.startDeadline_row_self (s : State) (r : RowId) (k : DeadlineKind) :
    (s.startDeadline r k).row r = (s.row r).withDeadline k (startedDeadline ((s.row r).deadlineLength k)) := by
  simp [State.startDeadline_eq]

@[simp] theorem State.startDeadline_row_ne (s : State) {r q : RowId} (k : DeadlineKind) (h : r ≠ q) :
    (s.startDeadline r k).row q = s.row q := by
  simp [State.startDeadline_eq, h]

@[simp] theorem State.startDeadline_iu (s : State) (r : RowId) (k : DeadlineKind) :
    (s.startDeadline r k).iu = (s.withdraw r k).iu := rfl
@[simp] theorem State.startDeadline_channels (s : State) (r : RowId) (k : DeadlineKind) :
    (s.startDeadline r k).channels = s.channels := rfl
@[simp] theorem State.startDeadline_ch (s : State) (r : RowId) (k : DeadlineKind) (c : Channel) :
    (s.startDeadline r k).ch c = s.ch c := rfl
@[simp] theorem State.startDeadline_attention (s : State) (r : RowId) (k : DeadlineKind) :
    (s.startDeadline r k).attention = s.attention := rfl
@[simp] theorem State.startDeadline_topicIndex (s : State) (r : RowId) (k : DeadlineKind) :
    (s.startDeadline r k).topicIndex = s.topicIndex := rfl
@[simp] theorem State.startDeadline_cu (s : State) (r : RowId) (k : DeadlineKind) :
    (s.startDeadline r k).cu = s.cu := rfl

@[simp] theorem State.stopDeadline_row_self (s : State) (r : RowId) (k : DeadlineKind) :
    (s.stopDeadline r k).row r = (s.row r).withDeadline k .stopped := by
  simp [State.stopDeadline]

@[simp] theorem State.stopDeadline_row_ne (s : State) {r q : RowId} (k : DeadlineKind) (h : r ≠ q) :
    (s.stopDeadline r k).row q = s.row q := by
  simp [State.stopDeadline, h]

@[simp] theorem State.stopDeadline_iu (s : State) (r : RowId) (k : DeadlineKind) :
    (s.stopDeadline r k).iu = (s.withdraw r k).iu := rfl
@[simp] theorem State.stopDeadline_ch (s : State) (r : RowId) (k : DeadlineKind) (c : Channel) :
    (s.stopDeadline r k).ch c = s.ch c := rfl

/-- All three deadlines stopped. -/
@[simp] theorem State.stopDeadlines_row_self (s : State) (r : RowId) :
    (s.stopDeadlines r).row r = { s.row r with freshness := .stopped, refresh := .stopped, gap := .stopped } := by
  simp [State.stopDeadlines, Row.withDeadline]

@[simp] theorem State.stopDeadlines_row_ne (s : State) {r q : RowId} (h : r ≠ q) :
    (s.stopDeadlines r).row q = s.row q := by
  simp [State.stopDeadlines, h]

@[simp] theorem State.stopDeadlines_ch (s : State) (r : RowId) (c : Channel) :
    (s.stopDeadlines r).ch c = s.ch c := rfl

@[simp] theorem State.presentDue_rows (s : State) : s.presentDue.rows = s.rows := by
  unfold State.presentDue; split <;> rfl
@[simp] theorem State.presentDue_row (s : State) (r : RowId) : s.presentDue.row r = s.row r := by
  simp [State.row]
@[simp] theorem State.presentDue_channels (s : State) : s.presentDue.channels = s.channels := by
  unfold State.presentDue; split <;> rfl
@[simp] theorem State.presentDue_attention (s : State) : s.presentDue.attention = s.attention := by
  unfold State.presentDue; split <;> rfl

/-! ### Reasons -/

/-- Everything recording a reason can do: the attention list alone may change. -/
theorem State.record_cases (s : State) (r : RowId) (q : Reason) :
    (hasReason (s.row r).attentionMask q = false ∧ s.record r q = s) ∨
      (hasReason (s.row r).attentionMask q = true ∧
        s.record r q = { s with attention := addReason s.attention r q }) := by
  unfold State.record
  cases h : hasReason (s.row r).attentionMask q
  · exact .inl ⟨rfl, if_neg (by simp)⟩
  · exact .inr ⟨rfl, if_pos rfl⟩

@[simp] theorem State.record_rows (s : State) (r : RowId) (q : Reason) : (s.record r q).rows = s.rows := by
  unfold State.record; split <;> rfl
@[simp] theorem State.record_row (s : State) (r p : RowId) (q : Reason) : (s.record r q).row p = s.row p := by
  simp [State.row]
@[simp] theorem State.record_channels (s : State) (r : RowId) (q : Reason) :
    (s.record r q).channels = s.channels := by
  unfold State.record; split <;> rfl
@[simp] theorem State.record_ch (s : State) (r : RowId) (q : Reason) (c : Channel) :
    (s.record r q).ch c = s.ch c := by
  simp [State.ch]
@[simp] theorem State.record_iu (s : State) (r : RowId) (q : Reason) : (s.record r q).iu = s.iu := by
  unfold State.record; split <;> rfl
@[simp] theorem State.record_topicIndex (s : State) (r : RowId) (q : Reason) :
    (s.record r q).topicIndex = s.topicIndex := by
  unfold State.record; split <;> rfl
@[simp] theorem State.record_cu (s : State) (r : RowId) (q : Reason) : (s.record r q).cu = s.cu := by
  unfold State.record; split <;> rfl

/-! ### Enqueue requests -/

/-- What an enqueue request may change: row r, the channels, the attention list and the interval unit. -/
structure EnqueueFrame (r : RowId) (s u : State) : Prop where
  rows : ∀ q, q ≠ r → u.row q = s.row q
  topicIndex : u.topicIndex = s.topicIndex
  served : u.served = s.served
  turn : u.turn = s.turn
  cu : u.cu = s.cu
  port : u.port = s.port
  attnEnable : u.attnEnable = s.attnEnable
  resetCause : u.resetCause = s.resetCause
  pending : u.pending = s.pending
  tickCount : u.iu.tickCount = s.iu.tickCount

theorem EnqueueFrame.refl (r : RowId) (s : State) : EnqueueFrame r s s :=
  ⟨fun _ _ => rfl, rfl, rfl, rfl, rfl, rfl, rfl, rfl, rfl, rfl⟩

theorem EnqueueFrame.trans {r : RowId} {s t u : State} (a : EnqueueFrame r s t) (b : EnqueueFrame r t u) :
    EnqueueFrame r s u :=
  ⟨fun q h => (b.rows q h).trans (a.rows q h), b.topicIndex.trans a.topicIndex, b.served.trans a.served,
    b.turn.trans a.turn, b.cu.trans a.cu, b.port.trans a.port, b.attnEnable.trans a.attnEnable,
      b.resetCause.trans a.resetCause,
    b.pending.trans a.pending, b.tickCount.trans a.tickCount⟩

theorem EnqueueFrame.of_updRow (r : RowId) (s : State) (f : Row → Row) : EnqueueFrame r s (s.updRow r f) :=
  ⟨fun _ h => State.row_updRow_ne s f (Ne.symm h), rfl, rfl, rfl, rfl, rfl, rfl, rfl, rfl, rfl⟩

theorem EnqueueFrame.of_updCh (r : RowId) (s : State) (c : Channel) (f : ChannelEngine → ChannelEngine) :
    EnqueueFrame r s (s.updCh c f) :=
  ⟨fun _ _ => rfl, rfl, rfl, rfl, rfl, rfl, rfl, rfl, rfl, rfl⟩

theorem EnqueueFrame.of_record (r p : RowId) (s : State) (q : Reason) : EnqueueFrame r s (s.record p q) := by
  obtain ⟨_, h⟩ | ⟨_, h⟩ := State.record_cases s p q
  · rw [h]; exact EnqueueFrame.refl r s
  · rw [h]; exact ⟨fun _ _ => rfl, rfl, rfl, rfl, rfl, rfl, rfl, rfl, rfl, rfl⟩

theorem EnqueueFrame.of_startDeadline (r : RowId) (s : State) (k : DeadlineKind) :
    EnqueueFrame r s (s.startDeadline r k) :=
  ⟨fun _ h => State.startDeadline_row_ne s k (Ne.symm h), rfl, rfl, rfl, rfl, rfl, rfl, rfl, rfl, rfl⟩

/-- An enqueue request on one channel changes row r, that channel and the attention list at most. -/
theorem State.enqueueOn_frame (s : State) (src : Source) (r : RowId) (gap : Bool) (c : Channel) :
    EnqueueFrame r s (s.enqueueOn src r gap c).1 := by
  have last (x : LastResult) : EnqueueFrame r s (s.setLastResult r c x) := EnqueueFrame.of_updRow r s _
  have drop : EnqueueFrame r s (s.fullDrop r c) :=
    ((last _).trans (EnqueueFrame.of_record r r _ _)).trans (EnqueueFrame.of_updCh r _ _ _)
  have join : EnqueueFrame r s (s.joinList r c) :=
    (EnqueueFrame.of_updRow r s _).trans (EnqueueFrame.of_updCh r _ _ _)
  have hold : EnqueueFrame r s (s.hold r c) := EnqueueFrame.of_updRow r s _
  unfold State.enqueueOn
  split
  · exact last _
  · split
    · exact EnqueueFrame.refl r s
    · split
      · exact EnqueueFrame.refl r s
      · exact EnqueueFrame.refl r s
      · split
        · dsimp only
          exact EnqueueFrame.of_updRow r s _
        · exact EnqueueFrame.refl r s
      · split
        · exact hold
        · split
          · exact drop
          · exact join

theorem State.enqueueNext_frame (src : Source) (r : RowId) (gap : Bool) (mask : ChannelMask)
    (acc : State × Quad ChannelOutcome) (c : Channel) :
    EnqueueFrame r acc.1 (State.enqueueNext src r gap mask acc c).1 := by
  unfold State.enqueueNext
  split
  · exact State.enqueueOn_frame acc.1 src r gap c
  · exact EnqueueFrame.refl r acc.1

theorem State.afterQueuing_frame (s : State) (r : RowId) : EnqueueFrame r s (s.afterQueuing r) := by
  have gap : EnqueueFrame r s (if (s.row r).inhibitGap = 0 then s
      else (s.updRow r fun row => { row with gapRunning := true }).startDeadline r .gap) := by
    split
    · exact EnqueueFrame.refl r s
    · exact (EnqueueFrame.of_updRow r s _).trans (EnqueueFrame.of_startDeadline r _ _)
  unfold State.afterQueuing
  refine gap.trans ?_
  dsimp only
  generalize (if (s.row r).inhibitGap = 0 then s
    else (s.updRow r fun row => { row with gapRunning := true }).startDeadline r .gap) = t
  split
  · exact EnqueueFrame.of_startDeadline r t _
  · exact EnqueueFrame.refl r t

/-- An enqueue request changes row r, the channels, the attention list and the interval unit's lists at most. -/
theorem State.enqueue_frame (s : State) (src : Source) (r : RowId) (mask : ChannelMask) :
    EnqueueFrame r s (s.enqueue src r mask).1 := by
  have fold : ∀ (l : List Channel) (acc : State × Quad ChannelOutcome) (gap : Bool),
      EnqueueFrame r acc.1 (l.foldl (State.enqueueNext src r gap mask) acc).1 := by
    intro l
    induction l with
    | nil => intro acc _; exact EnqueueFrame.refl r acc.1
    | cons c l ih =>
      intro acc gap
      exact (State.enqueueNext_frame src r gap mask acc c).trans (ih _ gap)
  unfold State.enqueue
  split
  · dsimp only
    split
    · exact (fold allChannels (s, Quad.all .notNamed) (s.row r).gapRunning).trans (State.afterQueuing_frame _ r)
    · exact fold allChannels (s, Quad.all .notNamed) (s.row r).gapRunning
  · exact EnqueueFrame.refl r s

/-! ### The freeing of a row and the end of a command -/

@[simp] theorem State.freeRow_row_self (s : State) (r : RowId) : (s.freeRow r).row r = Row.free := by
  show (((s.stopDeadlines r).updRow r fun _ => Row.free).row r) = Row.free
  simp

@[simp] theorem State.freeRow_row_ne (s : State) {r q : RowId} (h : r ≠ q) : (s.freeRow r).row q = s.row q := by
  show (((s.stopDeadlines r).updRow r fun _ => Row.free).row q) = s.row q
  simp [h]

@[simp] theorem State.freeRow_ch (s : State) (r : RowId) (c : Channel) : (s.freeRow r).ch c = s.ch c := rfl
@[simp] theorem State.freeRow_topicIndex (s : State) (r : RowId) :
    (s.freeRow r).topicIndex = s.topicIndex.filter fun e => e.2 ≠ r := rfl
@[simp] theorem State.freeRow_attention (s : State) (r : RowId) :
    (s.freeRow r).attention = s.attention.filter fun e => e.row ≠ r := rfl
@[simp] theorem State.freeRow_cu (s : State) (r : RowId) : (s.freeRow r).cu = s.cu := rfl

/-- What an attempt's end told to the awaiting command may change: the command unit alone. -/
theorem State.report_frame (s : State) (r : RowId) (c : Channel) (o : AttemptOutcome) :
    ∃ cu, s.report r c o = { s with cu := cu } := by
  unfold State.report
  split
  · split
    · dsimp only
      split
      · exact ⟨_, rfl⟩
      · exact ⟨_, rfl⟩
    · exact ⟨s.cu, rfl⟩
  · exact ⟨s.cu, rfl⟩

/-! ### The line's levels (R120, R121) -/

@[simp] theorem byteLevels_length (b : Byte) : (byteLevels b).length = 10 := rfl

/-- The data bits of a byte read back as the byte. -/
theorem byteOfLevels_bits (b : Byte) :
    byteOfLevels [b.getLsbD 7, b.getLsbD 6, b.getLsbD 5, b.getLsbD 4, b.getLsbD 3, b.getLsbD 2, b.getLsbD 1,
      b.getLsbD 0] = b := by
  revert b; decide

/-- A byte laid out on the line is taken whole, unless it is a 26th (R121). -/
theorem readLevels_byte (bytes : List Byte) (b : Byte) (rest : List Bool) :
    readLevels bytes (byteLevels b ++ rest) =
      if Config.telegramMax ≤ bytes.length then .fault .byte26 else readLevels (bytes ++ [b]) rest := by
  have e := byteOfLevels_bits b
  simp only [byteLevels, List.map, List.cons_append, List.nil_append, readLevels, e, if_true]

/-- The end gap ends a telegram: too short, or complete (R120, R121). -/
theorem readLevels_endGap (bytes : List Byte) (rest : List Bool) :
    readLevels bytes (List.replicate Config.endGapBits true ++ rest) =
      if bytes.length < Config.telegramMin then .fault .tooShort else .completed bytes := by
  simp [Config.endGapBits, List.replicate, readLevels]

/-! ### The output pins (R193) -/

@[simp] theorem State.pins_attn (s : State) : s.pins.attn = levelOf (!s.attn) := rfl
@[simp] theorem State.pins_sdo (s : State) : s.pins.sdo = s.port.sdo := rfl
@[simp] theorem portBits_length (b : Byte) : (portBits b).length = 8 := rfl

/-- With SEL high SDO is at high impedance. -/
@[simp] theorem Port.sdo_deselected {p : Port} (h : p.phase = .deselected) : p.sdo = none := by
  simp [Port.sdo, Port.selLow, h]

/-! ### One channel engine -/

/-- A latest start with no reply queued changes nothing (log entry 8). -/
@[simp] theorem ChannelEngine.replyTooLate_nil {ce : ChannelEngine} (h : ce.replyQueue = []) :
    ce.replyTooLate = ce := by
  simp [ChannelEngine.replyTooLate, h]

/-- Beginning the telegram that waits: nothing, or the waiting telegram is being sent. -/
theorem ChannelEngine.begin_cases (ce : ChannelEngine) :
    ce.begin = ce ∨ ∃ t, ce.waiting = some t ∧ ce.lineIdle = true ∧ ce.replyQueue = [] ∧
      ce.begin = { ce with sending := some t, waiting := none, silenceTimer := none } := by
  unfold ChannelEngine.begin
  split
  · rename_i h
    simp only [Bool.and_eq_true, List.isEmpty_iff] at h
    split
    · rename_i t ht
      exact .inr ⟨t, ht, h.1, h.2, rfl⟩
    · exact .inl rfl
  · exact .inl rfl

@[simp] theorem ChannelEngine.begin_of_quiet {ce : ChannelEngine} (h : ce.waiting = none) : ce.begin = ce := by
  obtain e | ⟨t, ht, _⟩ := ce.begin_cases
  · exact e
  · rw [h] at ht; cases ht

/-- With no telegram waiting, settling a channel only sets its silence timer. -/
theorem ChannelEngine.settle_of_quiet {ce : ChannelEngine} (h : ce.waiting = none) :
    ce.settle = ce.restartSilence :=
  ChannelEngine.begin_of_quiet (ce := ce.restartSilence) h

/-- Everything the beginning of a telegram that stands ready can do: nothing, or it is being sent. -/
theorem ChannelEngine.begun_cases (ce : ChannelEngine) (job : TxJob) :
    ce.begun job = ce ∨ ∃ t, ce.waiting = some t ∧ ce.lineIdle = true ∧ t.job = job ∧
      ce.begun job = { ce with sending := some t, waiting := none, silenceTimer := none } := by
  unfold ChannelEngine.begun
  split
  · rename_i t ht
    split
    · rename_i h
      simp only [Bool.and_eq_true, decide_eq_true_eq] at h
      exact .inr ⟨t, ht, h.1, h.2, rfl⟩
    · exact .inl rfl
  · exact .inl rfl

/-- An echo finds nothing to begin where no telegram waits. -/
@[simp] theorem ChannelEngine.begun_of_quiet {ce : ChannelEngine} (h : ce.waiting = none) (job : TxJob) :
    ce.begun job = ce := by
  simp [ChannelEngine.begun, h]

/-- A telegram that ends is heard as it stands, unless the line was released after an echo mismatch (log entry 11). -/
@[simp] theorem ChannelEngine.hearing_of_begun {ce : ChannelEngine} (h : ce.rx ≠ .released) : ce.hearing = ce := by
  unfold ChannelEngine.hearing
  split
  · rename_i e; exact absurd e h
  · rfl

/-- A good telegram whose start bit was a token conflict is counted, offered and learnt, and nothing more (R152). -/
theorem ChannelEngine.ends_intruding {ce : ChannelEngine} (h : ce.rx = .intruding) (after : RxState) (t : Telegram) :
    ce.ends after (.good t) = (({ ce with rx := after }).countAndOffer t).learn (telegramSource t) := by
  simp [ChannelEngine.ends, ChannelEngine.judged, h]

/-- The attempt's end: nothing, or the attempt ENDED with its outcome presented. -/
theorem ChannelEngine.endAttempt_cases (ce : ChannelEngine) (o : AttemptOutcome) :
    ce.endAttempt o = ce ∨ ∃ f, ce.inFlight = some f ∧ f.phase ≠ .ended ∧ ce.endAttempt o =
      { ce with inFlight := some { f with phase := .ended }, requests := ce.requests ++ [.outcome o] } := by
  unfold ChannelEngine.endAttempt
  split
  · rename_i f hf
    split
    · exact .inl rfl
    · rename_i h
      exact .inr ⟨f, hf, h, rfl⟩
  · exact .inl rfl

/-- Everything a wake can do: nothing, or an unused visit runs on. -/
theorem ChannelEngine.wake_cases (ce : ChannelEngine) :
    ce.wake = ce ∨ (ce.visitUnused = true ∧ (ce.pendingCount ≠ 0 ∨ ce.stationList ≠ []) ∧
      ce.wake = ce.runAttempts.begin) := by
  unfold ChannelEngine.wake
  split
  · rename_i h
    simp only [Bool.and_eq_true, Bool.or_eq_true, decide_eq_true_eq] at h
    exact .inr ⟨h.1, h.2, rfl⟩
  · exact .inl rfl

/-- A wake of a channel whose visit is not unused changes nothing. -/
theorem ChannelEngine.wake_of_used {ce : ChannelEngine} (h : ce.visitUnused = false) : ce.wake = ce := by
  simp [ChannelEngine.wake, h]

/-- A wake of a channel that does not hold the token changes nothing. -/
theorem ChannelEngine.wake_of_other {ce : ChannelEngine} (h : ce.state ≠ .holding) : ce.wake = ce := by
  apply ChannelEngine.wake_of_used
  unfold ChannelEngine.visitUnused
  split
  · rename_i e _; exact absurd e h
  · rfl

/-- A wake of a channel with no row pending and no station listed changes nothing. -/
theorem ChannelEngine.wake_of_none {ce : ChannelEngine} (hp : ce.pendingCount = 0) (hl : ce.stationList = []) :
    ce.wake = ce := by
  simp [ChannelEngine.wake, hp, hl]

/-! ### The reading of CHnEVENT (R113) -/

/-- The last bit of CHnEVENT clears exactly the flags that were returned. -/
theorem State.clearReported_bit (s : State) (c : Channel) (reported : BitVec 9) (k : Nat) :
    ((s.clearReported c reported).ch c).event.getLsbD k = ((s.ch c).event.getLsbD k && !reported.getLsbD k) := by
  simp only [State.clearReported, State.ch_updCh_self, BitVec.getLsbD_and, BitVec.getLsbD_not]
  by_cases h : k < 9
  · simp [h]
  · simp [BitVec.getLsbD_of_ge _ _ (Nat.le_of_not_lt h)]

/-- A word returned whole clears every flag. -/
theorem State.clearReported_all (s : State) (c : Channel) :
    (s.clearReported c (s.ch c).event).ch c = { s.ch c with event := 0 } := by
  simp [State.clearReported]

/-- But for CHnEVENT a READ changes nothing. -/
theorem State.afterWord_other (s : State) {page : Page} {addr : Nat} (h : ∀ c, page = .ch c → addr ≠ 0x06) :
    s.afterWord page addr = s := by
  unfold State.afterWord
  split
  · exact absurd rfl (h _ rfl)
  · rfl

end Sys2Proof.Machine
end

