-- ==== Sys2Proof/Laws/Checks.lean ====
section
/-! SUPPORT. The invariants of Safety as checks that evaluate on a concrete state, each with its soundness. -/

namespace Sys2Proof.Machine

/-- A property of an optional value, checked. -/
theorem forall_of_option {α : Type} {o : Option α} {p : α → Prop} (h : match o with | some x => p x | none => True) :
    ∀ x, o = some x → p x := by
  intro x e; subst e; exact h

/-- `ChannelEngine.Ok`, checked. -/
def ChannelEngine.okCheck (ce : ChannelEngine) : Bool :=
  decide (ce.reservationCount ≤ 24) && decide (ce.arrivalQueue.length ≤ 4) && decide (ce.replyQueue.length ≤ 4) &&
  decide (ce.sendsReplies = false → ce.replyQueue = []) && decide (ce.errorRun ≤ 31) && decide (ce.joinCount ≤ 254) &&
  decide (ce.stationList.Pairwise (fun a b => a < b)) &&
  (ce.stationList.all fun n => decide (1 ≤ n ∧ n ≤ 31 ∧ n ≠ ce.own.toNat)) &&
  decide (ce.enable = true ↔ ce.state ≠ .offline) && decide (ce.state ≠ .offline → ce.configValid = true) &&
  decide (ce.state = .offline →
    ce.stationList = [] ∧ ce.rx = .off ∧ ce.sending = none ∧ ce.waiting = none ∧ ce.replyWindow = none ∧
      ce.pass = none ∧ ce.visit = none ∧ ce.arrivalQueue = [] ∧ ce.recovery = none) &&
  decide (ce.visit.isSome = true ↔ ce.state = .holding) &&
  (match ce.visit with | some v => decide (v.count ≤ ce.visitBudget) | none => true) &&
  decide (ce.pass.isSome = true ↔ ce.state = .passing) &&
  decide (ce.silenceTimer.isSome = true → (ce.state = .listening ∨ ce.state = .receiving) ∧ ce.lineIdle = true) &&
  decide (ce.waiting.isSome = true → ce.state = .holding ∨ ce.state = .passing) &&
  decide (ce.rx = .off ↔ ce.state = .offline) &&
  ce.arrivalQueue.all fun a => match a with
    | .publish p => decide (1 ≤ p.source.toNat ∧ p.source.toNat ≤ 31 ∧ p.payload.length ≤ 16)
    | .recall _ => true

theorem ChannelEngine.ok_of_check {ce : ChannelEngine} (h : ce.okCheck = true) : ce.Ok := by
  simp only [ChannelEngine.okCheck, Bool.and_eq_true, decide_eq_true_eq, List.all_eq_true] at h
  obtain ⟨⟨⟨⟨⟨⟨⟨⟨⟨⟨⟨⟨⟨⟨⟨⟨⟨h1, h2⟩, h3⟩, h4⟩, h5⟩, h6⟩, h7⟩, h8⟩, h9⟩, h10⟩, h11⟩, h12⟩, h13⟩, h14⟩, h15⟩, h16⟩, h17⟩,
    h18⟩ := h
  refine ⟨h1, h2, h3, h4, h5, h6, h7, h8, h9, h10, h11, h12, ?_, h14, h15, h16, h17, ?_⟩
  · intro v e
    rw [e] at h13
    exact of_decide_eq_true h13
  · intro p hp
    exact of_decide_eq_true (h18 _ hp)

/-- `Row.Ok`, checked. -/
def Row.okCheck (row : Row) : Bool :=
  decide (row.length ≤ 16) && (match row.image with | some b => decide (b.length = row.length) | none => true) &&
  decide (row.role = .produced → row.sequence = row.generation.setWidth 8) &&
  decide (row.role = .produced → row.sourceStation = none ∧ row.arrivalChannel = none ∧ row.freshnessLimit = 0 ∧
    row.recallOnStale = false ∧ row.sequenceCheck = false) &&
  decide (row.role = .consumed → row.refreshPeriod = 0) &&
  decide (row.refreshPeriod = 0 ∨ 10 ≤ row.refreshPeriod.toNat) &&
  (match row.sourceStation with | some b => decide (1 ≤ b.toNat ∧ b.toNat ≤ 31) | none => true) &&
  (decide (row.state = .free) ||
    match row.topic with | some t => decide (1 ≤ t.toNat ∧ t.toNat ≤ 4094) | none => false) &&
  (decide (row.state = .free) || match row.role with
    | .consumed => decide (row.sourceMask ≠ 0 ∧ row.sourceMask &&& row.sendMask = 0)
    | .produced => decide (row.sourceMask = 0 ∧ row.sendMask ≠ 0)) &&
  decide ((row.state = .awaiting → row.image = none) ∧ (row.state = .live → row.image.isSome = true)) &&
  decide (row.state = .stale → row.role = .consumed)

theorem Row.ok_of_check {row : Row} (h : row.okCheck = true) : row.Ok := by
  simp only [Row.okCheck, Bool.and_eq_true, decide_eq_true_eq, Bool.or_eq_true] at h
  obtain ⟨⟨⟨⟨⟨⟨⟨⟨⟨⟨h1, h2⟩, h3⟩, h4⟩, h5⟩, h6⟩, h7⟩, h8⟩, h9⟩, h10⟩, h11⟩ := h
  refine ⟨h1, ?_, h3, h4, h5, h6, ?_, ?_, ?_, h10, h11⟩
  · intro b e
    rw [e] at h2
    exact of_decide_eq_true h2
  · intro b e
    rw [e] at h7
    exact of_decide_eq_true h7
  · intro f
    obtain k | k := h8
    · exact absurd k f
    · split at k
      · rename_i t e
        exact ⟨t, e, of_decide_eq_true k⟩
      · cases k
  · intro f
    obtain k | k := h9
    · exact absurd k f
    · revert k
      cases row.role <;> exact of_decide_eq_true

/-- `State.AttentionOk`, checked. -/
def State.attentionCheck (s : State) : Bool :=
  decide (s.attention.map fun e => e.row).Nodup && s.attention.all fun e => decide (e.reasons ≠ 0)

theorem State.attention_of_check {s : State} (h : s.attentionCheck = true) : s.AttentionOk := by
  simp only [State.attentionCheck, Bool.and_eq_true, List.all_eq_true, decide_eq_true_eq] at h
  exact ⟨h.1, h.2⟩

/-- Every row outside a list is FREE at its free values. -/
def State.FreeBut (s : State) (l : List RowId) : Prop := ∀ r, r ∉ l → s.row r = Row.free

/-- `State.TopicsOk`, checked where the rows outside `l` are FREE. -/
def State.topicsCheck (s : State) (l : List RowId) : Bool :=
  decide (s.topicIndex.map fun e => e.1).Nodup &&
  (s.topicIndex.all fun e => decide ((s.row e.2).state ≠ .free ∧ (s.row e.2).topic = some e.1)) &&
  (l.all fun r => decide ((s.row r).state = .free ∨
    ((match (s.row r).topic with | some t => decide ((t, r) ∈ s.topicIndex) | none => true) = true)))

theorem State.topics_of_check {s : State} {l : List RowId} (o : s.FreeBut l) (h : s.topicsCheck l = true) :
    s.TopicsOk := by
  simp only [State.topicsCheck, Bool.and_eq_true, List.all_eq_true, decide_eq_true_eq] at h
  obtain ⟨⟨h1, h2⟩, h3⟩ := h
  refine ⟨h1, fun t r => ⟨fun m => h2 _ m, fun ⟨f, e⟩ => ?_⟩⟩
  by_cases m : r ∈ l
  · obtain k | k := h3 r m
    · exact absurd k f
    · rw [e] at k; exact of_decide_eq_true k
  · rw [o r m] at f; exact absurd rfl f

/-- `AgreeOn`, checked. -/
def agreeCheck (row : Row) (r : RowId) (ce : ChannelEngine) (c : Channel) : Bool :=
  decide (∀ k : Fin 4, r ∈ ce.lists.get k ↔ (row.sendStateOn c = .pending ∧ k = row.cls)) &&
  decide ((match ce.inFlight with | some f => decide (f.row = r) | none => false) = true ↔
    row.sendStateOn c = .inFlight) &&
  decide (inMask row.heldMask c = true ↔ row.sendStateOn c = .held) &&
  decide (row.sendStateOn c = .pending ∨ row.sendStateOn c = .held → row.inService = true)

theorem agreeOn_of_check {row : Row} {r : RowId} {ce : ChannelEngine} {c : Channel}
    (h : agreeCheck row r ce c = true) : AgreeOn row r ce c := by
  simp only [agreeCheck, Bool.and_eq_true, decide_eq_true_eq] at h
  obtain ⟨⟨⟨h1, h2⟩, h3⟩, h4⟩ := h
  refine ⟨h1, ⟨fun ⟨f, e, k⟩ => h2.1 (by rw [e]; exact decide_eq_true k), fun k => ?_⟩, h3, h4⟩
  have k := h2.2 k
  split at k
  · rename_i f e
    exact ⟨f, e, of_decide_eq_true k⟩
  · cases k

/-- A FREE row is IDLE on every channel. -/
theorem Row.free_sendStateOn (c : Channel) : Row.free.sendStateOn c = .idle := by revert c; decide

/-- `State.Agrees`, checked where the rows outside `l` are FREE. -/
def State.agreesCheck (s : State) (l : List RowId) : Bool :=
  (l.all fun r => allChannels.all fun c => agreeCheck (s.row r) r (s.ch c) c) &&
  (allChannels.all fun c => allChannels.all fun k =>
    decide ((s.ch c).lists.get k).Nodup && ((s.ch c).lists.get k).all fun r => decide (r ∈ l)) &&
  (allChannels.all fun c => match (s.ch c).inFlight with | some f => decide (f.row ∈ l) | none => true) &&
  (l.all fun r => decide ((s.row r).state = .free → s.row r = Row.free)) &&
  (l.all fun r => decide ((s.row r).gapRunning = false → (s.row r).heldMask = 0)) &&
  (allChannels.all fun c => decide (¬ ((s.ch c).state = .offline ∧ (s.ch c).removalWaits = false)) ||
    (decide ((s.ch c).pendingCount = 0) && decide ((s.ch c).inFlight = none) &&
      l.all fun r => decide ((s.row r).sendStateOn c ≠ .held))) &&
  (l.all fun r => decide ((s.row r).state = .retiring → (s.row r).inFlightAnywhere = true)) &&
  (s.attention.all fun e => decide ((s.row e.row).state ≠ .free))

/-- Every channel is one of the four. -/
theorem mem_allChannels (c : Channel) : c ∈ allChannels := by revert c; decide

theorem State.agrees_of_check {s : State} {l : List RowId} (o : s.FreeBut l) (h : s.agreesCheck l = true) :
    s.Agrees := by
  simp only [State.agreesCheck, Bool.and_eq_true, List.all_eq_true, decide_eq_true_eq] at h
  obtain ⟨⟨⟨⟨⟨⟨⟨h1, h2⟩, h3⟩, h4⟩, h5⟩, h6⟩, h7⟩, h8⟩ := h
  refine ⟨fun r c => ?_, fun c k => (h2 c (mem_allChannels c) k (mem_allChannels k)).1, fun r f => ?_,
    fun r g => ?_, fun c a b => ?_, fun r f => ?_, h8⟩
  · by_cases m : r ∈ l
    · exact agreeOn_of_check (h1 r m c (mem_allChannels c))
    · rw [o r m]
      refine ⟨fun k => ⟨fun i => absurd ((h2 c (mem_allChannels c) k (mem_allChannels k)).2 r i) m, fun i => ?_⟩,
        ⟨fun ⟨f, e, i⟩ => ?_, fun i => ?_⟩,
        ⟨fun i => ?_, fun i => ?_⟩, fun i => ?_⟩
      · rw [Row.free_sendStateOn] at i; cases i.1
      · have j := h3 c (mem_allChannels c)
        rw [e] at j
        exact absurd (i ▸ of_decide_eq_true j) m
      · rw [Row.free_sendStateOn] at i; cases i
      · revert i; revert c; decide
      · rw [Row.free_sendStateOn] at i; cases i
      · rw [Row.free_sendStateOn] at i; obtain i | i := i <;> cases i
  · by_cases m : r ∈ l
    · exact h4 r m f
    · exact o r m
  · by_cases m : r ∈ l
    · exact h5 r m g
    · rw [o r m]; rfl
  · have y := h6 c (mem_allChannels c)
    simp only [a, b, and_self, not_true_eq_false, decide_false, Bool.false_or, Bool.and_eq_true, decide_eq_true_eq,
      List.all_eq_true] at y
    obtain ⟨⟨p, q⟩, z⟩ := y
    refine ⟨p, q, fun r => ?_⟩
    by_cases m : r ∈ l
    · exact z r m
    · rw [o r m, Row.free_sendStateOn]; decide
  · by_cases m : r ∈ l
    · exact h7 r m f
    · rw [o r m] at f; cases f

/-- `State.DueOk`, checked where the rows outside `l` are FREE. -/
def State.dueCheck (s : State) (l : List RowId) : Bool :=
  decide s.iu.dueList.Nodup &&
  (l.all fun r => deadlineKinds.all fun k => decide (((s.row r).deadline k).isDue = true ↔
    ({ row := r, kind := k } ∈ s.iu.dueList ∨
      s.iu.presented = some { entry := { row := r, kind := k }, void := false }))) &&
  (s.iu.dueList.all fun e => decide (e.row ∈ l)) &&
  (match s.iu.presented with
    | some p => (p.void || decide (p.entry ∉ s.iu.dueList)) && decide (p.entry.row ∈ l)
    | none => s.iu.dueList.isEmpty)

theorem State.due_of_check {s : State} {l : List RowId} (o : s.FreeBut l) (h : s.dueCheck l = true) : s.DueOk := by
  simp only [State.dueCheck, Bool.and_eq_true, decide_eq_true_eq, List.all_eq_true] at h
  obtain ⟨⟨⟨h1, h2⟩, h3⟩, h4⟩ := h
  refine ⟨h1, fun r k => ?_, ?_, ?_⟩
  · by_cases m : r ∈ l
    · exact h2 r m k (by cases k <;> simp [deadlineKinds])
    · rw [o r m]
      refine ⟨fun i => ?_, fun i => ?_⟩
      · cases k <;> cases i
      · obtain i | i := i
        · exact absurd (h3 _ i) m
        · rw [State.presents] at i
          rw [i] at h4
          simp only [Bool.and_eq_true, decide_eq_true_eq] at h4
          exact absurd h4.2 m
  · intro e p
    rw [State.presents] at p
    rw [p] at h4
    simp only [Bool.false_or, Bool.and_eq_true, decide_eq_true_eq] at h4
    exact h4.1
  · intro p
    rw [p] at h4
    simpa using h4

/-- `State.PartsOk`, checked where the rows outside `l` are FREE. -/
def State.partsCheck (s : State) (l : List RowId) : Bool :=
  (allChannels.all fun c => (s.ch c).okCheck) && l.all fun r => (s.row r).okCheck

theorem State.parts_of_check {s : State} {l : List RowId} (o : s.FreeBut l) (h : s.partsCheck l = true) :
    s.PartsOk := by
  simp only [State.partsCheck, Bool.and_eq_true, List.all_eq_true] at h
  refine ⟨fun c => ChannelEngine.ok_of_check (h.1 c (mem_allChannels c)), fun r => ?_⟩
  by_cases m : r ∈ l
  · exact Row.ok_of_check (h.2 r m)
  · rw [o r m]; exact Row.ok_of_check (by decide)

/-- The command unit's next word is its command word and nothing else waits at the table controller. -/
theorem State.ready_of {s : State} (port : s.port.phase = .atWord .write (some .global) 0x20)
    (phase : s.cu.phase = .idle) (presented : s.iu.presented = none)
    (quiet : ∀ c, (s.ch c).arrivalQueue = [] ∧ (s.ch c).requests = []) : s.Ready :=
  ⟨.inr port, by simp [phase], presented, quiet⟩

end Sys2Proof.Machine
end

