-- ==== Sys2Proof/Tests/Slice0.lean ====
section
/-! SUPPORT. Tests: `test_…` theorems check values worked out from the manual, `hyp_…` theorems show concrete states and
operands that meet the hypotheses of the obligation they name. -/

namespace Sys2Proof.Tests

set_option Elab.async false

open Sys2Proof Sys2Proof.Machine

/-! ### Helpers -/

/-- The state an outcome leads to. -/
def nextOf : Host.Outcome State Fault Refusal → State
  | .next s => s
  | .fault _ => State.reset
  | .refused _ => State.reset

/-- The state a command leads to. -/
def run (i : Instr) (s : State) : State := nextOf (exec i s)

/-- The port where a word of an operation on a page completes next at an address. -/
def portAt (op : PortOp) (page : Option Page) (addr : Byte) (s : State := State.reset) : State :=
  { s with port := { s.port with phase := .atWord op page addr } }

/-- The port after the control byte. -/
def portOpen (op : PortOp) (page : Option Page) (s : State := State.reset) : State :=
  { s with port := { s.port with phase := .addressNext op page } }

/-- CH0 with own station 5 in RECEIVING on an idle line, stations 9 and 20 listed (CFGA 4045 of section 10.1). -/
def member : ChannelEngine :=
  { ChannelEngine.reset with enable := true, cfgA := 0x4045, state := .receiving, rx := .idle, stationList := [9, 20] }

/-- The same channel with the token. -/
def holder : ChannelEngine := { member with state := .holding, visit := some { count := 0, step := .attempts } }

/-- The same channel passing the token to station 9. -/
def passer : ChannelEngine :=
  { member with state := .passing, pass := some { station := 9, second := false, window := none } }

/-- The same channel in LISTENING, CLAIMING and SILENT. -/
def listener : ChannelEngine := { member with state := .listening }
def claimer : ChannelEngine := { member with state := .claiming }
def silent : ChannelEngine := { member with state := .silent, recovery := some 1001 }

/-- The state after reset with one channel engine on CH0. -/
def on (ce : ChannelEngine) : State := State.reset.updCh 0 fun _ => ce

/-- A state with rows of the image table set and indexed. -/
def withRows (s : State) : List (RowId × Row) → State
  | [] => s
  | (r, row) :: l =>
    withRows { (s.updRow r fun _ => row) with topicIndex := s.topicIndex ++ [(row.topic.getD 0, r)] } l

/-- The row of section 10.2, LIVE with sequence 10. -/
def fed : Row :=
  { Row.free with
    state := .live, topic := some 300, role := .consumed, cls := 1, length := 4, sourceMask := 0x3, sendMask := 0x4
    sequenceCheck := true, freshnessLimit := 50, attentionMask := 0x0F, image := some [1, 2, 3, 4], sequence := 10
    generation := 1, freshness := .running 50 50 }

/-- A PRODUCED row like row 4 of section 10.4 on CH0. -/
def made : Row :=
  { Row.free with
    state := .live, topic := some 400, role := .produced, cls := 0, length := 2, sendMask := 0x1, confirmStation := 9
    attentionMask := 0x70, image := some [7, 8], generation := 7, sequence := 7 }

/-- A row with one side changed on CH0. -/
def sided (row : Row) (d : SendState) (count : Nat := 0) : Row :=
  { row with side := row.side.set 0 { Side.free with sendState := d, attemptCount := count } }

/-- A row's attempt as CH0's in-flight record, awaiting its CONFIRM. -/
def flight (r : RowId) (row : Row) (phase : AttemptPhase) : InFlight := { snapshot row r 0 with phase := phase }

/-- A channel engine that is as the manual promises, all four of them checked. -/
theorem ok_of (s : State) (h : (allChannels.all fun c => (s.ch c).okCheck) = true) : ∀ c, (s.ch c).Ok :=
  fun c => ChannelEngine.ok_of_check (List.all_eq_true.1 h c (mem_allChannels c))

/-- Outside the rows it sets, `withRows` leaves the table as it was. -/
theorem withRows_row (l : List (RowId × Row)) (s : State) (r : RowId) (h : r ∉ l.map fun e => e.1) :
    (withRows s l).row r = s.row r := by
  induction l generalizing s with
  | nil => rfl
  | cons e l ih =>
    simp only [List.map_cons, List.mem_cons, not_or] at h
    rw [withRows, ih _ h.2]
    exact State.row_updRow_ne s (fun _ => e.2) (Ne.symm h.1)

/-- Outside the rows set, a state built from a state of FREE rows is FREE. -/
theorem freeBut (s : State) (l : List (RowId × Row)) (h : s.rows = Vector.replicate 256 Row.free) :
    (withRows s l).FreeBut (l.map fun e => e.1) := by
  intro r m
  rw [withRows_row l s r m, State.row, h]
  exact Vector.getElem_replicate r.isLt

/-- A word that names a FREE row names no row in use. -/
theorem names_none {s : State} {w : Word} (r : RowId) (h : w.toNat = r.val) (f : (s.row r).state = .free) :
    NamesNone s w := by
  intro q k
  have e : q = r := Fin.ext (k.symm.trans h)
  rw [e]; exact f

/-- A word above 255 names no row. -/
theorem names_none_above {s : State} {w : Word} (h : 256 ≤ w.toNat) : NamesNone s w := fun q k =>
  absurd q.isLt (by omega)

/-! ### WellFormed: an ill-formed term for each check -/

/-- A TOKEN from 12 to 5, its check of two bytes damaged. -/
def damaged : List Byte := telegramBody (.token 12 5) ++ [0, 0]

theorem test_wf_endInside : (Instr.endInsideTransaction 47).wellFormed = true ∧
    (Instr.endInsideTransaction 48).wellFormed = false := by decide
theorem test_wf_unknownCommand : (Instr.unknownCommand 0).wellFormed = true ∧
    (Instr.unknownCommand 15).wellFormed = true ∧ (Instr.unknownCommand 1).wellFormed = false ∧
    (Instr.unknownCommand 14).wellFormed = false := by decide
theorem test_wf_publish :
    (Instr.publishReceived 0 ⟨0, 31, 0, 1, 0, List.replicate 16 0⟩).wellFormed = true ∧
    (Instr.publishReceived 0 ⟨0, 0, 0, 1, 0, []⟩).wellFormed = false ∧
    (Instr.publishReceived 0 ⟨0, 32, 0, 1, 0, []⟩).wellFormed = false ∧
    (Instr.publishReceived 0 ⟨0, 1, 0, 1, 0, List.replicate 17 0⟩).wellFormed = false := by decide
theorem test_wf_sources :
    (Instr.recallReceived 0 ⟨0, 0, 0, 1⟩).wellFormed = false ∧
    (Instr.confirmReceived 0 ⟨0, 5, 1, 1⟩).wellFormed = false ∧ (Instr.tokenReceived 0 32).wellFormed = false ∧
    (Instr.joinCallReceived 0 0).wellFormed = false ∧ (Instr.joinReplyReceived 0 32).wellFormed = false ∧
    (Instr.unmatchedRingTelegram 0 .token 0 9).wellFormed = false := by decide
theorem test_wf_checkFailure : (Instr.checkFailure 0 damaged).wellFormed = true ∧
    (Instr.checkFailure 0 (telegramBytes (.token 12 5))).wellFormed = false ∧
    (Instr.checkFailure 0 [1, 2, 3, 4]).wellFormed = false ∧
    (Instr.checkFailure 0 (List.replicate 26 0)).wellFormed = false := by decide +kernel
theorem test_wf_unknownKind :
    (Instr.unknownKindTelegram 0 ([0x70, 12, 5] ++ wordBytes (crc [0x70, 12, 5]))).wellFormed = true ∧
    (Instr.unknownKindTelegram 0 (telegramBytes (.token 0 5))).wellFormed = true ∧
    (Instr.unknownKindTelegram 0 (telegramBytes (.token 12 5))).wellFormed = false ∧
    (Instr.unknownKindTelegram 0 damaged).wellFormed = false := by decide +kernel
theorem test_wf_echoes :
    (Instr.attemptEcho 0 (List.replicate 25 0) true).wellFormed = true ∧
    (Instr.attemptEcho 0 (List.replicate 26 0) true).wellFormed = false ∧
    (Instr.replyEcho 0 (List.replicate 26 0) true).wellFormed = false ∧
    (Instr.joinCallEcho 0 (List.replicate 26 0) true).wellFormed = false ∧
    (Instr.passTokenEcho 0 (List.replicate 26 0) true).wellFormed = false ∧
    (Instr.claimEcho 0 (List.replicate 26 0) true).wellFormed = false := by decide

/-! ### Values of the manual's tables and examples -/

/-- The check of the bytes "123456789" for this polynomial and start value, 29B1 (general knowledge of this check). -/
theorem test_crc : crc [0x31, 0x32, 0x33, 0x34, 0x35, 0x36, 0x37, 0x38, 0x39] = 0x29B1 := by decide +kernel

/-- R120: a TOKEN's first byte, 40, on the line, its start bit low and its stop bit high, and the end gap. -/
theorem test_levels :
    byteLevels 0x40 = [false, false, true, false, false, false, false, false, false, true] ∧
    lineLevels [0x40] = byteLevels 0x40 ++ [true, true, true, true] := by decide +kernel

/-- R121: the four framing faults on the line's levels, and a telegram that completes; another is under way. -/
theorem test_readLevels :
    let five := lineLevels [0x40, 5, 9, 0xAB, 0xCD]
    readLevels [] five = .completed [0x40, 5, 9, 0xAB, 0xCD] ∧ readLevels [] (five.dropLast) = .underWay ∧
    readLevels [] (lineLevels [1, 2, 3, 4]) = .fault .tooShort ∧
    readLevels [] (byteLevels 1 ++ [true, true, true, false]) = .fault .shortGap ∧
    readLevels [] (List.replicate 10 false) = .fault .lowStopBit ∧
    readLevels [] ((List.replicate 25 0x55).flatMap byteLevels ++ [false]) = .fault .byte26 := by decide +kernel

/-- R201's layouts, byte by byte, before the check. -/
theorem test_layouts :
    telegramBody (.publish ⟨1, 12, 5, 300, 41, [0xAA, 0xBB]⟩) = [0x11, 12, 5, 0x01, 0x2C, 41, 2, 0xAA, 0xBB] ∧
    telegramBody (.confirm ⟨5, 12, 300, 41⟩) = [0x20, 5, 12, 0x01, 0x2C, 41] ∧
    telegramBody (.recall ⟨3, 5, 0, 300⟩) = [0x33, 5, 0, 0x01, 0x2C] ∧
    telegramBody (.token 5 9) = [0x40, 5, 9] ∧ telegramBody (.joinCall 5 9) = [0x50, 5, 9] ∧
    telegramBody (.joinReply 5 9) = [0x60, 5, 9] := by decide +kernel

/-- A PUBLISH for the row of section 10.2 with a sequence. -/
def signal (sequence : Byte) : Publish := ⟨1, 12, 5, 300, sequence, [9, 9, 9, 9]⟩

/-- Section 2.2.5's table: last accepted sequence, received sequence, disposition (R39, R40). -/
theorem test_sequence_table :
    (List.map (fun (e : Byte × Byte) => judgeFor { fed with sequence := e.1 } 0 (signal e.2))
      [(10, 11), (10, 10), (10, 9), (10, 137), (10, 138), (250, 3), (200, 72), (200, 71)]) =
    [.accepted 0, .duplicate 0, .rejectedOrder 0, .accepted 0, .rejectedOrder 0, .accepted 0, .rejectedOrder 0,
      .accepted 0] := by decide +kernel

/-- R143's table: own station and list, successor and gap. -/
theorem test_successors :
    successorOf 5 [9, 20] = some 9 ∧ gapOf 5 [9, 20] = [6, 7, 8] ∧ successorOf 20 [5, 9] = some 5 ∧
    successorOf 31 [3] = some 3 ∧ gapOf 31 [3] = [1, 2] ∧ successorOf 5 [6, 9] = some 6 ∧ gapOf 5 [6, 9] = [] ∧
    successorOf 5 [] = none := by decide +kernel


/-! ### The port -/

theorem hyp_StepRunsTheFrontCommand :
    ({ State.reset with pending := [.tick, .take] } : State).pending = .tick :: [.take] ∧ (on member).pending = [] := by
  decide +kernel

theorem hyp_ResetsLeaveResetValues :
    (PortOp.write.writes = true ∧ (portAt .write (some .global) 0x01).wordOpen .write (some .global) 0x01) ∧
    PortOp.maskedWrite.writes = true ∧
      (portOpen .maskedWrite (some .global) (on member)).wordOpen .maskedWrite (some .global) 0x01 := by
  unfold State.wordOpen
  decide +kernel

/-- R190, R191: a soft reset takes the channel OFFLINE and its cause is SOFT. -/
theorem test_softReset :
    let t := run (.softReset 0x5A00 0) (portAt .write (some .global) 0x01 (withRows (on member) [(3, fed)]))
    t.resetCause = .soft ∧ t.ch 0 = ChannelEngine.reset ∧ t.row 3 = Row.free ∧ t.port.phase = .discarding := by
  decide +kernel

/-- R192: SEL low when RST rises. -/
theorem test_pinReset : (run (.pinReset true) (on member)).port.phase = .discarding ∧
    (run (.pinReset false) (on member)).resetCause = .pin := by decide +kernel

theorem hyp_WordsAfterReset : (portAt .write (some .global) 0x01 (on member)).wordOpen .write (some .global) 0x01 := by
  unfold State.wordOpen
  decide +kernel

/-- R180: the sign 101 in bits 2 to 0, PORT_ERROR in bit 5 cleared by being reported; R182: control byte 48 is a WRITE
on page CH0. -/
theorem test_portStatusByte :
    let s : State := { State.reset with port := { State.reset.port with portError := true } }
    let t := run (.portStatusByte 0x48) s
    t.port.shiftedOut = [0x25] ∧ t.port.portError = false ∧ t.port.phase = .addressNext .write (some (.ch 0)) := by
  decide +kernel

/-- R180, R182: page code 6 sets PORT_ERROR; a byte that carries it as 1 clears it though page code 6 sets it again, and
the flag is 0 in the byte after it. -/
theorem test_portErrorSetAgain :
    let s := run (.portStatusByte 0x30) State.reset
    let t := run (.portStatusByte 0x30) s
    s.port.shiftedOut = [0x05] ∧ s.port.portError = true ∧ t.port.shiftedOut = [0x25] ∧ t.port.portError = false ∧
      (run (.portStatusByte 0x00) t).port.shiftedOut = [0x05] := by decide +kernel

/-- R187: SEL has risen inside the CHnEVENT word, and the next status byte reports PORT_ERROR; no flag is cleared. -/
theorem test_portStatusByteAfterCutWord :
    let s := run (.eventRead .firstBit) (portAt .read (some (.ch 0)) 0x06 (on { member with event := 0x008 }))
    let t := run (.portStatusByte 0x00) s
    t.port.shiftedOut = [0x25] ∧ t.port.portError = false ∧ (t.ch 0).event = 0x008 := by decide +kernel

theorem hyp_EndOfTransaction :
    ((run (.portStatusByte 0) State.reset).port.phase ≠ .deselected ∧
      (run (.portStatusByte 0) State.reset).port.shiftedOut[0]? = some 0x05 ∧ 7 < 8) ∧
    (State.reset.port.phase = .deselected ∧ (0 < 1 ∧ 1 < 8) ∧ 0 < 7 ∧ 7 < 8) ∧
    (∀ op : PortOp, (portOpen op (some .global)).port.phase = .addressNext op (some .global)) ∧
    (∀ op page, (portAt .read none 0x10).port.phase ≠ .addressNext op page) ∧
    (8 < 9 ∧ 9 < 8 + PortOp.read.dataClocks ∧ 23 < 8 + PortOp.write.dataClocks ∧
      39 < 8 + PortOp.maskedWrite.dataClocks ∧ 47 < 8 + PortOp.compare.dataClocks) ∧
    ((portAt .read none 0x10).port.phase = .atWord .read none 0x10 ∧ 0 < 1 ∧ 15 < 16) ∧
    ({ State.reset with port := { State.reset.port with phase := .finished } } : State).port.phase = .finished ∧
    (run (.pinReset true) State.reset).port.phase = .discarding ∧
    (run (.eventRead .firstBit) (portAt .read (some (.ch 1)) 0x06)).port.midWord := by
  exact ⟨by decide +kernel, by decide +kernel, fun op => rfl, (fun _ _ h => by cases h), by decide +kernel,
    by decide +kernel, by decide +kernel, by decide +kernel, 1, 0, rfl⟩

/-- R187: 3 bits of a word, and none. -/
theorem test_endInside :
    (run (.endInsideTransaction 3) (portAt .write (some .global) 0x10)).port.portError = true ∧
    (run (.endInsideTransaction 0) (portAt .write (some .global) 0x10)).port.portError = false := by decide +kernel

/-- R179, R187: exactly after the address byte, in which SDO carried 0, no error. -/
theorem test_endAfterAddress :
    let t := run (.endInsideTransaction 8) (run (.portStatusByte 0x40) State.reset)
    t.port.shiftedOut = [0] ∧ t.port.portError = false ∧ t.port.phase = .deselected := by decide +kernel

theorem hyp_ParamWordIsStored :
    (PortOp.write.writes = true ∧ (portAt .write (some .global) 0x10).wordOpen .write (some .global) 0x10 ∧
      (0x10 : Byte).toNat = 0x10 + (0 : Fin 16).val) ∧
    PortOp.maskedWrite.writes = true ∧
      (portOpen .maskedWrite (some .global)).wordOpen .maskedWrite (some .global) 0x1F ∧
      (0x1F : Byte).toNat = 0x10 + (15 : Fin 16).val := by
  unfold State.wordOpen
  decide +kernel

/-- R185: a MASKED WRITE takes the bits of its mask alone. -/
theorem test_registerWrite :
    let s := run (.registerWrite 0x1F 0x00FF 0) (portAt .write (some .global) 0x1F)
    s.cu.params[15] = 0x00FF ∧
    (run (.registerWrite 0x1F 0xABCD 0x0FF0) (portAt .maskedWrite (some .global) 0x1F s)).cu.params[15] = 0x0BCF := by
  decide +kernel

theorem hyp_WriteWithNoWritableWordIsDiscarded :
    (∀ a : Byte, a ∈ [0x00, 0x02, 0x0F, 0x21, 0x31, 0x32, 0xFF] →
      ((portAt .write (some .global) a).wordOpen .write (some .global) a ∧ ¬ globalWritable a.toNat)) ∧
    (∀ a : Byte, a ∈ [0x05, 0x06, 0x08, 0x15, 0x16, 0xFF] →
      ((portAt .write (some (.ch 0)) a).wordOpen .write (some (.ch 0)) a ∧ ¬ channelWordWritable a.toNat)) ∧
    (portAt .maskedWrite none 0x10).wordOpen .maskedWrite none 0x10 ∧
    ∀ p, (none : Option Page) = some p → match p with
      | .global => ¬ globalWritable 0x10
      | _ => ¬ channelWordWritable 0x10 := by
  refine ⟨?_, ?_, Or.inr rfl, fun p e => nomatch e⟩
  all_goals
    unfold State.wordOpen
    first | unfold globalWritable | unfold channelWordWritable
    decide +kernel

theorem hyp_EventWordIsNotWritten :
    PortOp.write.writes = true ∧ Page.ch 0 ≠ .global ∧ Page.allChannels ≠ .global ∧
    (portAt .write (some (.ch 0)) 0x06 (on { member with event := 0x1FF })).wordOpen .write (some (.ch 0)) 0x06 ∧
    (portOpen .maskedWrite (some .allChannels)).wordOpen .maskedWrite (some .allChannels) 0x06 := by
  unfold State.wordOpen
  decide +kernel

theorem hyp_CompareAnswers :
    (portAt .compare (some .global) 0x00).wordOpen .compare (some .global) 0x00 ∧
    State.reset.readWord .global 0x00 = some 0x4B60 ∧ State.reset.readWord .global 0x03 = none ∧
    State.reset.readWord (.ch 0) 0x15 = some 0 ∧ State.reset.readWord (.ch 0) 0x16 = none ∧
    (portOpen .compare none).wordOpen .compare none 0x00 := by
  unfold State.wordOpen
  decide +kernel

/-- R186: IDENT reads 4B60 (section 10.1), and agrees under the mask or not. -/
theorem test_compare :
    (run (.compare 0x00 0x4B61 0xFFFE) (portAt .compare (some .global) 0x00)).port.shiftedOut = [0x4B, 0x60, 0, 0, 1] ∧
    (run (.compare 0x00 0x4B61 0xFFFF) (portAt .compare (some .global) 0x00)).port.shiftedOut =
      [0x4B, 0x60, 0, 0, 0] := by decide +kernel

theorem hyp_ReadShiftsWordsOut :
    (portAt .read (some .global) 0x31).wordOpen .read (some .global) 0x31 ∧ globalWord 0x31 ∧ ¬ globalWord 0x32 ∧
    ¬ globalWord 0x0F ∧ (portOpen .read (some (.ch 3))).wordOpen .read (some (.ch 3)) 0x16 ∧ ¬ channelWord 0x16 ∧
    channelWord 0x15 ∧ channelWord 0x09 ∧ ¬ channelWord 0x0A ∧ (portOpen .read none).wordOpen .read none 0x00 := by
  unfold State.wordOpen globalWord channelWord
  decide +kernel

/-- A state in which the words that report read different fields. -/
def busy : State :=
  { on { holder with errorRun := 5, lists := ⟨[4], [], [6, 8], []⟩, inFlight := some (flight 9 made .ended) } with
    attention := [⟨4, 0x10⟩, ⟨9, 0x01⟩], resetCause := .soft
    cu := { CommandUnit.reset with phase := .done, resultCode := .ok, overrun := true, rowNumber := 7 } }

theorem hyp_WordsInEveryState : busy.AttentionOk ∧ ∀ c, (busy.ch c).Ok :=
  ⟨State.attention_of_check (by decide +kernel), ok_of _ (by decide +kernel)⟩

/-- R195, R196, R198: GSTAT, CMDSTAT, CHnSTATE and the two station words, each field in its bits. -/
theorem test_wordsRead :
    busy.readWord .global 0x02 = some 0x8002 ∧ busy.readWord .global 0x21 = some 0x0786 ∧
    busy.readWord (.ch 0) 0x05 = some 0x0E54 ∧ busy.readWord (.ch 0) 0x08 = some 0x0200 ∧
    busy.readWord (.ch 0) 0x09 = some 0x0010 ∧ busy.readWord .allChannels 0x05 = none := by decide +kernel

/-- R183: nothing stands at global address 32; PORT_ERROR is set and the burst goes on at 33. -/
theorem test_readAbsent :
    let t := run (.readAtAbsentAddress 0x32) (portAt .read (some .global) 0x32)
    t.port.shiftedOut = [0, 0] ∧ t.port.portError = true ∧ t.port.phase = .atWord .read (some .global) 0x33 := by
  decide +kernel

theorem hyp_EventReadClears :
    (portAt .read (some (.ch 2)) 0x06).wordOpen .read (some (.ch 2)) 0x06 ∧
    (portOpen .read (some (.ch 0))).wordOpen .read (some (.ch 0)) 0x06 ∧
    (run (.eventRead .firstBit) (portOpen .read (some (.ch 0)) (on { member with event := 0x009 }))).port.phase =
      .inEvents 0 0x009 ∧
    (Instr.eventRead .whole = .eventRead .whole ∨ Instr.eventRead .whole = .readAtAbsentAddress 0x06) ∧
    (portOpen .read none).wordOpen .read none 0x06 := by
  unfold State.wordOpen
  decide +kernel

/-- R113, section 10.6: TOKEN_REGENERATED and STATION_LOST are returned and cleared. -/
theorem test_eventRead :
    let t := run (.eventRead .whole) (portAt .read (some (.ch 0)) 0x06 (on { member with event := 0x009 }))
    t.port.shiftedOut = [0x00, 0x09] ∧ (t.ch 0).event = 0 := by decide +kernel

/-- R113: of the flags set inside the word the one returned as 0 stays set and the one returned as 1 is cleared. -/
theorem test_eventInsideWord :
    let s := run (.eventRead .firstBit) (portOpen .read (some (.ch 0)) (on { member with event := 0x008 }))
    let t := run (.eventRead .lastBit) (s.updCh 0 fun ce => { ce with event := ce.event ||| 0x00A })
    s.port.shiftedOut = [0] ∧ t.port.shiftedOut = [0x00, 0x08] ∧ (t.ch 0).event = 0x002 := by decide +kernel

theorem hyp_EnablesGateAttn :
    (portAt .write (some .global) 0x01).wordOpen .write (some .global) 0x01 ∧
    (portOpen .maskedWrite (some .allChannels)).wordOpen .maskedWrite (some .allChannels) 0x07 ∧
    ({ State.reset with attnEnable := true, attention := [⟨0, 1⟩] } : State).attn = true ∧
    (on { member with event := 0x100, eventEnable := 0x100 }).attn = true ∧
    (on { member with event := 0x100, eventEnable := 0x0FF }).attn = false := by
  unfold State.wordOpen
  decide +kernel

/-- R117, R190: bit 0 of GCTRL by MASKED WRITE, no strobe. -/
theorem test_attnEnable :
    (run (.attnEnable 0x0001 0x0001) (portAt .maskedWrite (some .global) 0x01)).attnEnable = true ∧
    (run (.attnEnable 0x0000 0xFFFE) (portAt .maskedWrite (some .global) 0x01
      { State.reset with attnEnable := true })).attnEnable = true := by decide +kernel

/-- R115: nine enables; the other bits of the word are not stored. -/
theorem test_eventEnable :
    let t := run (.eventEnableWrite 0xFFFF 0) (portAt .write (some .allChannels) 0x07)
    (t.ch 0).eventEnable = 0x1FF ∧ (t.ch 3).eventEnable = 0x1FF := by decide +kernel

theorem hyp_ConfigWordsAreTakenOffline :
    (portAt .write (some (.ch 1)) 0x01).wordOpen .write (some (.ch 1)) 0x01 ∧
    (portAt .write (some .allChannels) 0x02).wordOpen .write (some .allChannels) 0x02 ∧
    (portOpen .maskedWrite (some (.ch 0))).wordOpen .maskedWrite (some (.ch 0)) 0x03 ∧
    (portOpen .maskedWrite (some (.ch 0))).wordOpen .maskedWrite (some (.ch 0)) 0x04 ∧
    Page.allChannels.covers 3 = true ∧ (Page.ch 1).covers 0 = false ∧ (State.reset.ch 0).state = .offline ∧
    ((on member).ch 0).state ≠ .offline := by
  unfold State.wordOpen
  decide +kernel

/-- Section 10.1 steps 3 and R137: 4045 is taken OFFLINE and refused in RECEIVING. -/
theorem test_configWrite :
    ((run (.configWrite .cfgA 0x4045 0) (portAt .write (some (.ch 0)) 0x01)).ch 0).own = 5 ∧
    (run (.configWrite .cfgA 0x4046 0) (portAt .write (some (.ch 0)) 0x01 (on member))).port.configRefused = true := by
  decide +kernel

/-! ### The controls of a channel -/

/-- Every channel engine of these states is as the manual promises. -/
theorem controls_ok : (∀ c, ((on ChannelEngine.reset).ch c).Ok) ∧ (∀ c, ((on member).ch c).Ok) ∧
    (∀ c, ((on { ChannelEngine.reset with cfgA := 0x4045 }).ch c).Ok) ∧ ∀ c, ((on silent).ch c).Ok :=
  ⟨ok_of _ (by decide +kernel), ok_of _ (by decide +kernel), ok_of _ (by decide +kernel), ok_of _ (by decide +kernel)⟩

/-- CHnCTRL as the next word on CH0's page, of a WRITE. -/
def control (ce : ChannelEngine) : State := portAt .write (some (.ch 0)) 0x00 (on ce)

/-- The hypotheses every control word's statement shares. -/
theorem control_open (ce : ChannelEngine) : PortOp.write.writes = true ∧ Page.ch 0 ≠ .global ∧
    (control ce).wordOpen .write (some (.ch 0)) 0x00 ∧ (Page.ch 0).covers 0 = true ∧ (Page.ch 0).covers 1 = false :=
  ⟨rfl, by decide, .inr rfl, rfl, rfl⟩

theorem hyp_ClearCountersZeroesCounters :
    (control member).wordOpen .write (some (.ch 0)) 0x00 ∧
    (if bitAt (wordMask .write 0) 0 then bitAt 0x0041 0 else ((control member).ch 0).enable) =
      ((control member).ch 0).enable ∧
    strobeIn .write 0x0041 0 4 = false ∧ strobeIn .write 0x0041 0 5 = false := by
  unfold State.wordOpen
  decide +kernel

/-- R141: the counters cleared in RECEIVING, the channel otherwise untouched. -/
theorem test_clearCounters :
    let ce : ChannelEngine := { member with counters := { Counters.zero with fullDrops := 7 } }
    (run (.clearCounters 0x0041 0) (control ce)).ch 0 = member := by decide +kernel

/-- An enable is met by a valid configuration, and by one at the edge of each range of R137. -/
theorem hyp_EnableEntersListening :
    (∀ c, ((control { ChannelEngine.reset with cfgA := 0x4045 }).ch c).Ok) ∧
    (∀ ce : ChannelEngine, ce ∈ [{ ChannelEngine.reset with cfgA := 0x4045 },
        { ChannelEngine.reset with cfgA := 0x147F, cfgB := 0x7811, cfgC1 := 0x01FF, cfgC2 := 0x0001 }] →
      ((control ce).ch 0).enable = false ∧ 1 ≤ ce.own.toNat ∧ 20 ≤ ce.slotBits ∧ 1 ≤ ce.replyWindowSlots ∧
        1 ≤ ce.passTimeoutSlots ∧ 1 ≤ ce.visitBudget ∧ ce.visitBudget ≤ 8 ∧ 1 ≤ ce.errorRunLimit ∧
        1 ≤ ce.recoveryUnits) ∧
    (∀ ce : ChannelEngine, ce ∈ [ChannelEngine.reset, { ChannelEngine.reset with cfgA := 0x1345 },
        { ChannelEngine.reset with cfgA := 0x4045, cfgB := 0x3430 },
        { ChannelEngine.reset with cfgA := 0x4045, cfgB := 0x3402 },
        { ChannelEngine.reset with cfgA := 0x4045, cfgB := 0x3032 },
        { ChannelEngine.reset with cfgA := 0x4045, cfgB := 0x3932 },
        { ChannelEngine.reset with cfgA := 0x4045, cfgC1 := 0x8010 },
        { ChannelEngine.reset with cfgA := 0x4045, cfgC2 := 0x0000 }] →
      ((control ce).ch 0).enable = false ∧
      ¬ (1 ≤ ce.own.toNat ∧ 20 ≤ ce.slotBits ∧ 1 ≤ ce.replyWindowSlots ∧ 1 ≤ ce.passTimeoutSlots ∧
        1 ≤ ce.visitBudget ∧ ce.visitBudget ≤ 8 ∧ 1 ≤ ce.errorRunLimit ∧ 1 ≤ ce.recoveryUnits)) ∧
    ((control member).ch 0).enable = true ∧ strobeIn .write 0x0001 0 4 = false ∧
      strobeIn .write 0x0001 0 5 = false := by
  refine ⟨ok_of _ (by decide +kernel), by decide +kernel⟩

/-- Section 10.1 steps 4 and 5: state code 1, and a claim after 45 slot times; own station 0 is out of range. -/
theorem test_channelEnable :
    let t := run (.channelEnable 0x0001 0) (control { ChannelEngine.reset with cfgA := 0x4045 })
    (t.ch 0).state.code = 1 ∧ (t.ch 0).silenceTimer = some (45 * 64) ∧
    ((run (.channelEnable 0x0001 0) (control ChannelEngine.reset)).ch 0).event = 0x100 := by decide +kernel

theorem hyp_DisableGoesOffline :
    (∀ c, ((control member).ch c).Ok) ∧ ((control member).ch 0).enable = true ∧
    (∀ c, ((control ChannelEngine.reset).ch c).Ok) ∧ ((control ChannelEngine.reset).ch 0).enable = false :=
  ⟨ok_of _ (by decide +kernel), rfl, ok_of _ (by decide +kernel), rfl⟩

/-- R139: OFFLINE, the station list empty, the removal transaction presented. -/
theorem test_channelDisable :
    let t := run (.channelDisable 0x0000 0) (control member)
    (t.ch 0).state = .offline ∧ (t.ch 0).stationList = [] ∧ (t.ch 0).requests = [.removal] := by decide +kernel

theorem hyp_RestartReturnsToListening :
    (∀ c, ((control member).ch c).Ok) ∧ ((control member).ch 0).enable = true ∧
    (∀ c, (Page.ch 0).covers c = true →
      (if bitAt (wordMask .write 0) 0 then bitAt 0x0011 0 else ((control member).ch c).enable) =
        ((control member).ch c).enable) ∧
    ((control ChannelEngine.reset).ch 0).enable = false ∧
    ∀ c, (Page.ch 0).covers c = true →
      (if bitAt (wordMask .write 0) 0 then bitAt 0x0010 0 else ((control ChannelEngine.reset).ch c).enable) =
        ((control ChannelEngine.reset).ch c).enable := by
  refine ⟨ok_of _ (by decide +kernel), by decide +kernel⟩

/-- R140: the station list is given up, ENABLE stays, LISTENING is entered. -/
theorem test_restart :
    let t := run (.restart 0x0011 0) (control member)
    (t.ch 0).state = .listening ∧ (t.ch 0).enable = true ∧ (t.ch 0).stationList = [] := by decide +kernel

theorem hyp_RecoveryResumesListening :
    strobeIn .write 0x0021 0 4 = false ∧ ((control silent).ch 0).state = .silent ∧
    (∀ c, (Page.ch 0).covers c = true →
      (if bitAt (wordMask .write 0) 0 then bitAt 0x0021 0 else ((control silent).ch c).enable) =
        ((control silent).ch c).enable) ∧
    ((control member).ch 0).state ≠ .silent ∧
    ((on { silent with recovery := some 0 }).ch 0).recovery = some 0 ∧
    ((on { silent with recovery := some 0 }).ch 0).state = .silent ∧
    ((on { member with recovery := some 0 }).ch 0).state ≠ .silent := by decide +kernel

/-- R156, section 10.7 step 7: LISTENING_RESUMED set, the error run 0. -/
theorem test_recover :
    let t := run (.recover 0x0021 0) (control { silent with errorRun := 16 })
    (t.ch 0).state = .listening ∧ (t.ch 0).event = 0x020 ∧ (t.ch 0).errorRun = 0 := by decide +kernel

theorem test_recoveryInterval :
    ((run (.recoveryIntervalExpiry 0) (on { silent with recovery := some 0 })).ch 0).state = .listening := by
  decide +kernel


/-! ### The command unit -/

/-- The port at CMDCODE of a WRITE burst, with parameters written. -/
def cmdState (params : List Word) (s : State := State.reset) : State :=
  portAt .write (some .global) 0x20
    { s with cu := { s.cu with params := Vector.ofFn fun k => params.getD k.val 0 } }

/-- The command unit as it stands while a transaction of a command waits or has been taken. -/
def withPhase (phase : CommandPhase) (s : State) : State := { s with cu := { s.cu with phase := phase } }

/-- A command's word and its transaction. -/
def command (i : Instr) (s : State) : State := run .commandTransaction (run i s)

/-- CMDSTAT and the result words as the port reads them. -/
def cmdstat (s : State) : Option Word := s.readGlobal 0x21

/-- Rows, attention list and deadlines do not disturb the command unit's turn. -/
theorem cmd_ready (params : List Word) (s : State) (phase : s.cu.phase = .idle) (presented : s.iu.presented = none)
    (quiet : ∀ c : Channel, ((s.ch c).arrivalQueue.isEmpty && (s.ch c).requests.isEmpty) = true) :
    (cmdState params s).Ready := by
  refine State.ready_of rfl ?_ ?_ fun c => ?_
  · rw [← phase]; simp only [cmdState, portAt]
  · rw [← presented]; simp only [cmdState, portAt]
  · have h := quiet c
    rw [Bool.and_eq_true, List.isEmpty_iff, List.isEmpty_iff] at h
    simp only [State.ch, cmdState, portAt] at h ⊢
    exact h

theorem hyp_CommandWordIsJudged :
    (Instr.declare, (1 : Word)) ∈ [(Instr.declare, (1 : Word)), (.amend, 2), (.clearTable, 14)] ∧
    (Instr.unknownCommand 0 = .unknownCommand 0 ∧ ((0 : Word).toNat = 0 ∨ 14 < (0 : Word).toNat)) ∧
    ((15 : Word).toNat = 0 ∨ 14 < (15 : Word).toNat) ∧
    (Instr.registerWrite 0x20 0x0106 0x00FF = .registerWrite 0x20 0x0106 0x00FF ∧ ∀ k, k < 16 →
      (6 : Word).getLsbD k =
        if (wordMask .maskedWrite 0x00FF).getLsbD k then (0x0106 : Word).getLsbD k
        else (cmdState []).cu.code.getLsbD k) ∧
    (cmdState []).port.phase = .atWord .write (some .global) 0x20 ∧ (cmdState []).cu.phase ≠ .busy ∧
    (withPhase .busy (cmdState [])).cu.phase = .busy ∧
    (1 ≤ (14 : Word).toNat ∧ (14 : Word).toNat ≤ 14 ∧
      ∀ c, ((cmdState []).ch c).state = .offline ∧ .removal ∉ ((cmdState []).ch c).requests) ∧
    (∃ c, ((cmdState [] (on member)).ch c).state ≠ .offline) ∧
    ∃ c, ((cmdState [] (on { ChannelEngine.reset with requests := [.removal] })).ch c).state ≠ .offline ∨
      .removal ∈ ((cmdState [] (on { ChannelEngine.reset with requests := [.removal] })).ch c).requests := by
  decide +kernel

/-- R159: a value of 0 or above 14 is refused with UNKNOWN_COMMAND (code 13) at its word; OVERRUN while BUSY. -/
theorem test_unknownCommand :
    cmdstat (run (.unknownCommand 15) (cmdState [])) = some 0x0037 ∧
    (run (.unknownCommand 15) (withPhase .busy (cmdState []))).cu.overrun = true := by decide +kernel

/-- R159, R185: a MASKED WRITE at CMDCODE forms the code from the bits of its mask. -/
theorem test_maskedCode :
    let t := run (.registerWrite 0x20 0x0106 0x00FF) (portAt .maskedWrite (some .global) 0x20)
    t.cu.code = 6 ∧ t.cu.phase = .busy ∧ t.cu.requested = true := by decide +kernel

/-- R160: no transaction is taken where none waits. -/
theorem test_commandTransaction : (run .commandTransaction (cmdState [])).served = .tx 3 ∧
    (command .take (cmdState [])).served = .cu := by decide +kernel

/-! ### DECLARE -/

/-- Section 10.2's parameter block, with its first five words replaced. -/
def declareBlock (topic options length limit period : Word) : List Word := [topic, options, length, limit,
  period, 0, 0x0F]

/-- Section 10.2's state: topic 300 in use at row 0 where the flag says so. -/
def declaring (topic options length limit period : Word) (l : List (RowId × Row) := []) : State :=
  cmdState (declareBlock topic options length limit period) (withRows State.reset l)

/-- A table with no FREE row. -/
def fullTable : State := { State.reset with rows := Vector.replicate 256 fed }

theorem hyp_DeclareTakesTheLowestFreeRow :
    (declaring 300 0x2432 4 50 0).Ready ∧
    ((0 : Word).toNat = 0 ∨ 4094 < (0 : Word).toNat) ∧ ((4095 : Word).toNat = 0 ∨ 4094 < (4095 : Word).toNat) ∧
    (¬ ((1 : Word).toNat = 0 ∨ 4094 < (1 : Word).toNat) ∧ ¬ ((4094 : Word).toNat = 0 ∨ 4094 < (4094 : Word).toNat)) ∧
    16 < (17 : Word).toNat ∧ (16 : Word).toNat ≤ 16 ∧
    (MasksUnsuited .consumed 0 4 ∧ MasksUnsuited .consumed 4 4 ∧ MasksUnsuited .produced 0 0 ∧
      MasksUnsuited .produced 1 4 ∧ ¬ MasksUnsuited .consumed 3 4 ∧ ¬ MasksUnsuited .produced 0 1) ∧
    (TimingUnsuited .produced 0 9 false false ∧ TimingUnsuited .consumed 0 10 false false ∧
      TimingUnsuited .produced 1 0 false false ∧ TimingUnsuited .produced 0 0 true false ∧
      TimingUnsuited .produced 0 0 false true ∧ ¬ TimingUnsuited .produced 0 10 false false ∧
      ¬ TimingUnsuited .consumed 50 0 true true) ∧
    (∃ r, ((300 : Word), r) ∈ (declaring 300 0x2432 4 50 0 [(0, fed)]).topicIndex) ∧
    (∀ r, ¬ ((301 : Word), r) ∈ (declaring 301 0x2432 4 50 0 [(0, fed)]).topicIndex) ∧
    (∀ r, (fullTable.row r).state ≠ .free) ∧
    ((declaring 301 0x2432 4 50 0 [(0, fed)]).row 1).state = .free ∧
    ∀ q, q < 1 → ((declaring 301 0x2432 4 50 0 [(0, fed)]).row q).state ≠ .free := by
  refine ⟨cmd_ready _ _ rfl rfl (by decide), by decide, by decide, by decide, by decide, by decide, ?_, ?_, ?_⟩
  · unfold MasksUnsuited; decide
  · unfold TimingUnsuited; decide
  · refine ⟨⟨0, by decide +kernel⟩, by decide +kernel, fun r => ?_, by decide +kernel, fun q h => ?_⟩
    · have e : fullTable.row r = fed := Vector.getElem_replicate r.isLt
      rw [e]; decide
    · have e : q = 0 := Fin.ext (Nat.lt_one_iff.1 h)
      rw [e]; decide +kernel

/-- Section 10.2: CMDSTAT 0006, RESULT0 0100, AWAITING, the freshness deadline of 50 ticks started (R90). -/
theorem test_declare :
    let t := command .declare (declaring 0x012C 0x2432 0x0004 0x0032 0x0000)
    cmdstat t = some 0x0006 ∧ t.readGlobal 0x22 = some 0x0100 ∧ (t.row 0).freshness = .running 50 51 ∧
    (t.row 0).sourceMask = 0x3 := by decide +kernel

/-- R164's order: BAD_LENGTH (6) before BAD_MASK (7); TOPIC_IN_USE (4) with row 0 reported as 0. -/
theorem test_declareRefused :
    cmdstat (command .declare (declaring 300 0x2402 17 50 0)) = some 0x001B ∧
    cmdstat (command .declare (declaring 300 0x2432 4 50 0 [(9, fed)])) = some 0x0013 := by decide +kernel

/-! ### AMEND, FIND, LIST, FETCH -/

/-- Rows of section 10.2's kind at row 9 and of section 10.4's kind at row 4. -/
def pair : List (RowId × Row) := [(9, fed), (4, made)]

theorem hyp_AmendReplacesSelectedFields :
    (cmdState [9, 0x7F, 0x300F, 60, 0, 0x0905] (withRows State.reset pair)).Ready ∧
    NamesNone (withRows State.reset pair) 8 ∧ NamesNone (withRows State.reset pair) 256 ∧
    Names (withRows State.reset pair) 9 9 ∧
    Names (withRows State.reset [(255, { fed with state := .retiring })]) 255 255 ∧
    TimingUnsuited .consumed 60 10 true true ∧ ¬ TimingUnsuited .consumed 60 0 true true := by
  refine ⟨cmd_ready _ _ rfl rfl (by decide), names_none 8 rfl (by decide +kernel), names_none_above (by decide), ?_⟩
  unfold Names TimingUnsuited
  decide +kernel

/-- R166: the limit alone is selected; its deadline restarts, the attention mask stays. -/
theorem test_amend :
    let t := command .amend (cmdState [9, 0x02, 0, 60, 0, 0] (withRows State.reset pair))
    (t.row 9).freshness = .running 60 61 ∧ (t.row 9).attentionMask = 0x0F ∧ cmdstat t = some 0x0906 := by
  decide +kernel

theorem hyp_FindAndListReportRows :
    (cmdState [300] (withRows State.reset pair)).Ready ∧
    (∀ r, ((301 : Word), r) ∉ (withRows State.reset pair).topicIndex) ∧ (withRows State.reset pair).TopicsOk ∧
    ((300 : Word), (9 : RowId)) ∈ (withRows State.reset pair).topicIndex ∧
    (∀ r : RowId, (255 : Word).toNat ≤ r.val → ((withRows State.reset pair).row r).state = .free) ∧
    (∀ r : RowId, (256 : Word).toNat ≤ r.val → ((withRows State.reset pair).row r).state = .free) ∧
    (8 : Word).toNat ≤ (9 : RowId).val ∧ ((withRows State.reset pair).row 9).state ≠ .free ∧
    ∀ q : RowId, (8 : Word).toNat ≤ q.val → q < 9 → ((withRows State.reset pair).row q).state = .free := by
  refine ⟨cmd_ready _ _ rfl rfl (by decide), by decide +kernel,
    State.topics_of_check (freeBut _ _ rfl) (by decide +kernel), by decide +kernel, fun r h => ?_, fun r h => ?_,
    by decide, by decide +kernel, fun q h k => ?_⟩
  · have e : r = 255 := Fin.ext (Nat.le_antisymm (by omega) h)
    rw [e]; decide +kernel
  · exact absurd r.isLt (by have : (256 : Word).toNat = 256 := rfl
                            omega)
  · have e : q = 8 := Fin.ext (Nat.le_antisymm (Nat.le_of_lt_succ k) h)
    rw [e]; decide +kernel

/-- R167, R200: row 9, LIVE (2). -/
theorem test_find :
    (command .find (cmdState [300] (withRows State.reset pair))).readGlobal 0x22 = some 0x0209 ∧
    cmdstat (command .find (cmdState [301] (withRows State.reset pair))) = some 0x002F := by decide +kernel
theorem test_list :
    let t := command .list (cmdState [5] (withRows State.reset pair))
    t.readGlobal 0x22 = some 0x0209 ∧ t.readGlobal 0x23 = some 300 := by decide +kernel

theorem hyp_FetchCopiesTheRow :
    (cmdState [9, 1] (withRows State.reset pair)).Ready ∧ NamesNone (withRows State.reset pair) 0 ∧
    Names (withRows State.reset pair) 9 9 ∧ ((withRows State.reset pair).row 9).Ok ∧
    ((withRows State.reset pair).row 9).image = some [1, 2, 3, 4] := by
  unfold Names
  exact ⟨cmd_ready _ _ rfl rfl (by decide), names_none 0 rfl (by decide +kernel), by decide +kernel,
    Row.ok_of_check (by decide +kernel), by decide +kernel⟩

/-- R168, R200: topic, generation, sequence and image words of the row; the reject count read, then cleared. -/
theorem test_fetch :
    let t := command .fetch (cmdState [9, 1] (withRows State.reset [(9, { fed with rejectCount := 3 })]))
    t.cu.results[1] = 300 ∧ t.cu.results[3] = 0x0A00 ∧ t.cu.results[7] = 0x0003 ∧ t.cu.results[8] = 0x0102 ∧
    (t.row 9).rejectCount = 0 := by decide +kernel

/-! ### POST, SEND, RECALL -/

/-- A state whose CH0 is in RECEIVING, with rows. -/
def online (l : List (RowId × Row)) : State := withRows (on member) l

theorem hyp_PostStoresAndEnqueues :
    (cmdState [4, 0x0102] (online pair)).Ready ∧ NamesNone (online pair) 0 ∧ Names (online pair) 9 9 ∧
    ((online pair).row 9).role = .consumed ∧ Names (online pair) 4 4 ∧ ((online pair).row 4).role = .produced ∧
    ((online pair).row 4).state ≠ .suspended ∧ ((online pair).row 4).state ≠ .retiring ∧
    Names (online [(4, { made with state := .suspended })]) 4 4 ∧
    inMask ((online pair).row 4).sendMask 1 = false := by
  refine ⟨cmd_ready _ _ rfl rfl (by decide), names_none 0 rfl (by decide +kernel), ?_⟩
  unfold Names
  decide +kernel

/-- Section 10.4 step 1: generation 8, sequence 8, PENDING with outcome QUEUED (1). -/
theorem test_post :
    let t := command .post (cmdState [4, 0x0102] (online [(4, made)]))
    (t.row 4).generation = 8 ∧ (t.row 4).image = some [1, 2] ∧ (t.row 4).sendStateOn 0 = .pending ∧
    t.cu.results[0] = 8 ∧ t.cu.results[1] = 0x0100 := by decide +kernel

/-- Section 10.4 step 3: a POST while IN_FLIGHT is RENEWED (4) and sets the mark. -/
theorem test_postRenews :
    let t := command .post (cmdState [4, 0x0102]
      (withRows (on { holder with inFlight := some (flight 4 made .awaitingConfirm) }) [(4, sided made .inFlight 1)]))
    ((t.row 4).side.get 0).renewed = true ∧ t.cu.results[1] = 0x0400 ∧ (t.row 4).generation = 8 := by decide +kernel

theorem hyp_SendAndRecallEnqueue :
    (cmdState [4, 0x0F] (online pair)).Ready ∧ NamesNone (online pair) 0 ∧ Names (online pair) 9 9 ∧
    ((online pair).row 9).role = .consumed ∧ ((online pair).row 9).state ≠ .suspended ∧
    ((online pair).row 9).state ≠ .retiring ∧ Names (online pair) 4 4 ∧ ((online pair).row 4).role = .produced ∧
    ((online pair).row 4).state = .live ∧ Names (online [(4, { made with state := .awaiting, image := none })]) 4 4 ∧
    Names (online [(9, { fed with state := .suspended })]) 9 9 ∧
    (((0x0F : Word).getLsbD 1) && inMask made.sendMask 1) = false := by
  refine ⟨cmd_ready _ _ rfl rfl (by decide), names_none 0 rfl (by decide +kernel), ?_⟩
  unfold Names
  decide +kernel

theorem test_send :
    let t := command .send (cmdState [4, 0x0F] (online pair))
    (t.row 4).sendStateOn 0 = .pending ∧ t.cu.results[1] = 0x0100 ∧ (t.row 4).generation = 7 ∧
    cmdstat (command .send (cmdState [9, 0x0F] (online pair))) = some 0x0027 := by decide +kernel

/-- R171: a RECALL is queued on CH0; CH1, OFFLINE, reports CHANNEL_OFF (6). -/
theorem test_recall :
    let t := command .recall (cmdState [9, 0x0F] (online pair))
    (t.ch 0).lists.q1 = [9] ∧ t.cu.results[1] = 0x0106 := by decide +kernel

/-! ### CANCEL, SUSPEND, RESUME, RETIRE -/

/-- Row 4 PENDING on CH0's list of class 0. -/
def queued : State := withRows (on { member with lists := ⟨[4], [], [], []⟩ }) [(4, sided made .pending)]

/-- Row 4 IN_FLIGHT on CH0, awaiting its CONFIRM. -/
def flying : State :=
  withRows (on { holder with inFlight := some (flight 4 made .awaitingConfirm), visit := some ⟨1, .attempts⟩ })
    [(4, sided made .inFlight 1)]

/-- Row 4 HELD on CH0, its gap running. -/
def held : State :=
  withRows (on member) [(4, { sided made .held with
    gapRunning := true, heldMask := 1, inhibitGap := 5, gap := .running 5 3 })]

theorem hyp_CancelRemovesOrWaits :
    ((cmdState [4, 1] queued).Ready ∧ (cmdState [4, 1] flying).Ready ∧ (cmdState [4, 1] held).Ready) ∧
    NamesNone queued 0 ∧ Names queued 4 4 ∧ Names flying 4 4 ∧ Names held 4 4 ∧
    ((1 : Word).getLsbD 0 && (inMask made.sourceMask 0 || inMask made.sendMask 0)) = true ∧
    ((1 : Word).getLsbD 3 && (inMask made.sourceMask 3 || inMask made.sendMask 3)) = false ∧
    (∀ c : Channel, (queued.row 4).sendStateOn c ≠ .inFlight) ∧ (flying.row 4).sendStateOn 0 = .inFlight := by
  refine ⟨⟨cmd_ready _ _ rfl rfl (by decide), cmd_ready _ _ rfl rfl (by decide),
    cmd_ready _ _ rfl rfl (by decide)⟩, names_none 0 rfl (by decide +kernel), ?_⟩
  unfold Names
  decide +kernel

/-- R76, R172: REMOVED (7) where it was PENDING, with last result CANCELLED. -/
theorem test_cancel :
    let t := command .cancel (cmdState [4, 1] queued)
    (t.ch 0).lists.q0 = [] ∧ ((t.row 4).side.get 0).lastResult = .cancelled ∧ t.cu.results[1] = 0x0700 := by
  decide +kernel

/-- R172: IN_FLIGHT it waits, with the mark set. -/
theorem test_cancelWaits :
    let t := command .cancel (cmdState [4, 1] flying)
    t.cu.phase = .busy ∧ ((t.row 4).side.get 0).cancelRequested = true := by decide +kernel

theorem hyp_SuspendTakesOutOfService :
    (cmdState [4] queued).Ready ∧ NamesNone queued 5 ∧ Names queued 4 4 ∧ (queued.row 4).state ≠ .suspended ∧
    (queued.row 4).state ≠ .retiring ∧ Names (withRows State.reset [(4, { made with state := .retiring })]) 4 4 := by
  refine ⟨cmd_ready _ _ rfl rfl (by decide), names_none 5 rfl (by decide +kernel), ?_⟩
  unfold Names
  decide +kernel

/-- R19, R161, R173: an attempt in flight is left RUNNING (11), CH1, in neither mask, is NOT_NAMED (0); a held row is
removed. -/
theorem test_suspend :
    let t := command .suspend (cmdState [4] flying)
    (t.row 4).state = .suspended ∧ (t.row 4).sendStateOn 0 = .inFlight ∧ t.cu.results[1] = 0x0B00 ∧
    ((command .suspend (cmdState [4] held)).row 4).gapRunning = false := by decide +kernel

theorem hyp_ResumeReturnsToService :
    (cmdState [9] (withRows State.reset [(9, { fed with state := .suspended })])).Ready ∧
    NamesNone (withRows State.reset [(9, { fed with state := .suspended })]) 8 ∧
    Names (withRows State.reset [(9, { fed with state := .suspended })]) 9 9 ∧
    ((withRows State.reset [(9, { fed with state := .suspended })]).row 9).state = .suspended ∧
    Names (withRows State.reset [(9, fed)]) 9 9 ∧ ((withRows State.reset [(9, fed)]).row 9).state ≠ .suspended := by
  refine ⟨cmd_ready _ _ rfl rfl (by decide), names_none 8 rfl (by decide +kernel), ?_⟩
  unfold Names
  decide +kernel

/-- R20, R174: a CONSUMED row with an image is STALE (3) and its freshness deadline starts. -/
theorem test_resume :
    let t := command .resume (cmdState [9] (withRows State.reset [(9, { fed with state := .suspended })]))
    (t.row 9).state = .stale ∧ (t.row 9).freshness = .running 50 51 ∧ t.readGlobal 0x22 = some 0x0309 := by
  decide +kernel

theorem hyp_RetireFreesOrWaits :
    ((cmdState [4] queued).Ready ∧ (cmdState [4] flying).Ready) ∧ NamesNone queued 5 ∧ Names queued 4 4 ∧
    Names flying 4 4 ∧ (queued.row 4).state ≠ .retiring ∧ (∀ c : Channel, (queued.row 4).sendStateOn c ≠ .inFlight) ∧
    (flying.row 4).sendStateOn 0 = .inFlight ∧
    Names (withRows State.reset [(4, { made with state := .retiring })]) 4 4 := by
  refine ⟨⟨cmd_ready _ _ rfl rfl (by decide), cmd_ready _ _ rfl rfl (by decide)⟩,
    names_none 5 rfl (by decide +kernel), ?_⟩
  unfold Names
  decide +kernel

/-- R22, R161: FREE and out of the index at once; REMOVED (7) on CH0, NOT_NAMED (0) on CH1. -/
theorem test_retire :
    let t := command .retire (cmdState [4] queued)
    t.row 4 = Row.free ∧ t.topicIndex = [] ∧ t.cu.results[1] = 0x0700 := by decide +kernel

/-- Section 10.5 steps 2 and 5: RETIRING while the attempt is on the line; CONFIRMED ends the command with 0D. -/
theorem test_retireWaits :
    let t := command .retire (cmdState [4] flying)
    let u := run (.attemptOutcome 0) (t.updCh 0 fun ce => { ce with requests := [.outcome .confirmed] })
    (t.row 4).state = .retiring ∧ u.row 4 = Row.free ∧ u.cu.results[1] = 0x0D00 ∧ cmdstat u = some 0x0406 := by
  decide +kernel

/-! ### TAKE, CLEAR TABLE -/

/-- An attention list of two entries. -/
def waitingRows : State := { withRows State.reset pair with attention := [⟨9, 0x01⟩, ⟨4, 0x10⟩] }

theorem hyp_TakeRemovesTheHead :
    (cmdState [] waitingRows).Ready ∧ (cmdState []).Ready ∧ (cmdState []).attention = [] ∧
    (cmdState [] waitingRows).attention = ⟨9, 0x01⟩ :: [⟨4, 0x10⟩] :=
  ⟨cmd_ready _ _ rfl rfl (by decide), cmd_ready _ _ rfl rfl (by decide), rfl, rfl⟩

/-- Section 10.3 step 7: the row, its reasons, its generation. -/
theorem test_take :
    let t := command .take (cmdState [] waitingRows)
    t.attention = [⟨4, 0x10⟩] ∧ t.cu.results[0] = 9 ∧ t.cu.results[1] = 0x01 ∧ t.cu.results[2] = 1 ∧
    cmdstat (command .take (cmdState [])) = some 0x003B := by decide +kernel

/-- The transaction of an accepted CLEAR TABLE, with CH0 enabled after the word. -/
def overtaken : State :=
  let s := run .clearTable (cmdState [] (withRows State.reset pair))
  s.updCh 0 fun _ => listener

theorem hyp_ClearTableFreesEveryRow :
    (cmdState [] waitingRows).Ready ∧ (∀ c, ((cmdState [] waitingRows).ch c).state = .offline) ∧
    overtaken.cu.code = 14 ∧ overtaken.cu.requested = true ∧
    overtaken.cu.working = some (cmdState []).cu.params ∧ overtaken.nextServed = some .cu ∧
    ∃ c, (overtaken.ch c).state ≠ .offline ∨ .removal ∈ (overtaken.ch c).requests :=
  ⟨cmd_ready _ _ rfl rfl (by decide), by decide +kernel⟩

/-- R25, R177. -/
theorem test_clearTable :
    let t := command .clearTable (cmdState [] waitingRows)
    t.row 9 = Row.free ∧ t.topicIndex = [] ∧ t.attention = [] ∧ cmdstat t = some 0x0006 ∧
    cmdstat (run .commandTransaction overtaken) = some 0x0033 := by decide +kernel


/-! ### Enqueue requests -/

/-- A channel engine with rows 100 to 99 + n PENDING on class 3. -/
def loaded (n : Nat) : ChannelEngine :=
  { member with lists := ⟨[], [], [], (List.range n).map fun k => Fin.ofNat 256 (100 + k)⟩ }

/-- Row 4 on CH0 with a side and a gap. -/
def asked (ce : ChannelEngine) (d : SendState) (gap : Bool := false) : State :=
  withRows (on ce) [(4, { sided made d with gapRunning := gap })]

theorem hyp_EnqueueFollowsTheTable :
    (¬ (RowState.suspended = .awaiting ∨ RowState.suspended = .live ∨ RowState.suspended = .stale)) ∧
    (((asked ChannelEngine.reset .idle).ch 0).state = .offline ∧
      .removal ∈ ((asked { member with requests := [.removal] } .idle).ch 0).requests) ∧
    (¬ (made.role = .consumed ∧ inMask made.sourceMask 0 = true) ∧ { made with image := none }.image = none) ∧
    (((asked member .idle).row 4).image ≠ none ∧ ¬ ((asked member .idle).ch 0).state = .offline ∧
      .removal ∉ ((asked member .idle).ch 0).requests) ∧
    (((asked member .held true).row 4).side.get 0).sendState = .held ∧
    (((asked member .pending).row 4).side.get 0).sendState = .pending ∧
    ((((asked holder .inFlight).row 4).side.get 0).sendState = .inFlight ∧ Source.renewal ≠ .post) ∧
    ((((asked member .idle true).row 4).side.get 0).sendState = .idle ∧
      ((asked member .idle true).row 4).gapRunning = true) ∧
    (((asked member .idle).row 4).gapRunning = false ∧ 24 ≤ (loaded 24).lists.q3.length) ∧
    (loaded 23).lists.q3.length < 24 ∧
    (24 ≤ (loaded 23).lists.q3.length + 1) ∧ inMask 0x5 0 = true ∧ inMask 0x5 2 = true ∧ inMask 0x5 1 = false := by
  decide +kernel

/-- R54, R58: the 24th reservation is given, the 25th dropped full with SEND_DROPPED; an attempt in flight holds one. -/
theorem test_reservations :
    ((asked (loaded 23) .idle).enqueue .sendCommand 4 1).2.q0 = .queued ∧
    ((asked (loaded 24) .idle).enqueue .sendCommand 4 1).2.q0 = .droppedFull ∧
    ((asked { loaded 23 with inFlight := some (flight 9 fed .onLine) } .idle).enqueue .sendCommand 4 1).2.q0 =
      .droppedFull ∧
    ((asked (loaded 24) .idle).enqueue .sendCommand 4 1).1.attention = [⟨4, 0x40⟩] := by decide +kernel

/-! ### Time -/

/-- A state after n ticks. -/
def ticks (s : State) : Nat → State
  | 0 => s
  | n + 1 => run .tick (ticks s n)

/-- Row 0 with a freshness deadline, and the interval unit presenting an expiry. -/
def timing (d : Deadline) (presented : Option Presented := none) : State :=
  { withRows (on member) [(0, { fed with freshness := d })] with
    iu := { dueList := [], presented := presented, tickCount := 0 } }

theorem hyp_TicksRunDeadlinesToDue :
    ((timing (.running 1 0)).iu.presented = none ∧
      (timing (.due 1) (some ⟨⟨0, .freshness⟩, false⟩)).iu.presented = some ⟨⟨0, .freshness⟩, false⟩) ∧
    (((on { silent with recovery := some 0 }).ch 0).recovery = some 0 ∧ ((on silent).ch 0).recovery ≠ some 0) ∧
    ((∀ n, n ≤ 1 → exec .tick (ticks (timing (.running 1 2)) n) = .next (ticks (timing (.running 1 2)) (n + 1))) ∧
      ((ticks (timing (.running 1 2)) 0).row 0).deadline .freshness = .running 1 (1 + 1)) ∧
    (((timing (.running 1 0)).row 0).deadline .freshness = .running 1 0 ∧
      ∀ f : DueEntry, f.place < (⟨0, .freshness⟩ : DueEntry).place →
        ¬ ∃ d, ((timing (.running 1 0)).row f.row).deadline f.kind = .running d 0) ∧
    ∀ e : DueEntry, ¬ ∃ d, (State.reset.row e.row).deadline e.kind = .running d 0 := by
  refine ⟨by decide +kernel, by decide +kernel, ⟨fun n _ => rfl, by decide +kernel⟩, ⟨by decide +kernel, fun f h => ?_⟩,
    fun e => ?_⟩
  · exact absurd h (Nat.not_lt_zero _)
  · rw [State.row, show State.reset.rows.get e.row = Row.free from Vector.getElem_replicate e.row.isLt]
    cases e.kind <;> (intro ⟨d, h⟩; cases h)

/-- R86: a RUNNING deadline comes one tick closer; R99: the age counts. -/
theorem test_tick :
    ((run .tick (timing (.running 1 2))).row 0).freshness = .running 1 1 := by decide +kernel
theorem test_tickAge : (fed.tick).age = 1 ∧ (Row.free.tick).age = 0 ∧ ({ fed with age := 65535 }.tick).age = 65535 := by
  decide +kernel
theorem test_deadlineDue :
    let t := run .deadlineDue (timing (.running 1 0))
    (t.row 0).freshness = .due 1 ∧ t.iu.presented = some ⟨⟨0, .freshness⟩, false⟩ := by decide +kernel

/-- A row with one DUE deadline, presented, its kind's transaction next. -/
def expiring (row : Row) (k : DeadlineKind) (void : Bool := false) : State :=
  { withRows (on member) [(9, row)] with iu := { dueList := [], presented := some ⟨⟨9, k⟩, void⟩, tickCount := 0 } }

theorem hyp_FreshnessExpiryMakesStale :
    (expiring { fed with freshness := .due 50 } .freshness).iu.presented =
      some { entry := { row := 9, kind := .freshness }, void := false } ∧
    ((expiring { fed with freshness := .due 50 } .freshness).row 9).freshness = .due 50 ∧
    (expiring { fed with freshness := .due 50 } .freshness).nextServed = some .iu ∧
    ((expiring { fed with freshness := .due 50, state := .stale } .freshness).row 9).state = .stale := by decide +kernel

/-- R91, R92: STALE is recorded, the deadline restarts, RECALL_ON_STALE queues the row on CH0. -/
theorem test_freshnessExpiry :
    let t := run .freshnessExpiry (expiring { fed with freshness := .due 50, recallOnStale := true } .freshness)
    (t.row 9).state = .stale ∧ t.attention = [⟨9, 0x04⟩] ∧ (t.row 9).freshness = .running 50 51 ∧
    (t.ch 0).lists.q1 = [9] := by decide +kernel

/-- A PRODUCED row with a refresh period, and one whose gap holds CH0. -/
def periodic : Row := { made with refreshPeriod := 100, refresh := .due 100 }
def gapped : Row := { sided made .held with inhibitGap := 5, gapRunning := true, heldMask := 1, gap := .due 5 }

theorem hyp_RefreshAndGapExpiriesEnqueue :
    ((expiring periodic .refresh).iu.presented = some { entry := { row := 9, kind := .refresh }, void := false } ∧
      ((expiring periodic .refresh).row 9).refresh = .due 100 ∧ (expiring periodic .refresh).nextServed = some .iu) ∧
    ((expiring gapped .gap).iu.presented = some { entry := { row := 9, kind := .gap }, void := false } ∧
      ((expiring gapped .gap).row 9).gap = .due 5 ∧ (expiring gapped .gap).nextServed = some .iu) ∧
    ((expiring { gapped with heldMask := 0 } .gap).row 9).heldMask = 0 := by decide +kernel

/-- R94: queued and restarted; R96: the held channel is released into a request that starts a new gap. -/
theorem test_refreshExpiry :
    let t := run .refreshExpiry (expiring periodic .refresh)
    (t.ch 0).lists.q0 = [9] ∧ (t.row 9).refresh = .running 100 101 := by decide +kernel
theorem test_gapExpiry :
    let t := run .inhibitGapExpiry (expiring gapped .gap)
    (t.row 9).sendStateOn 0 = .pending ∧ (t.row 9).heldMask = 0 ∧ (t.row 9).gap = .running 5 6 := by decide +kernel

/-- The command unit served last, its next request alone, and then a deadline that falls due. -/
def pressed : State :=
  run (.registerWrite 0x20 13 0) { portAt .write (some .global) 0x20 (timing (.running 1 0)) with served := .cu }

theorem hyp_RotationAndTurnedAwayExpiries :
    (State.reset.nextServed ≠ some .cu ∧ (Instr.commandTransaction, Requester.cu) ∈
      [(Instr.commandTransaction, Requester.cu), (.attemptStart 0, .tx 0)]) ∧
    ((expiring { fed with freshness := .due 50 } .freshness true).iu.presented = some ⟨⟨9, .freshness⟩, true⟩ ∧
      (expiring { fed with freshness := .due 50 } .freshness true).nextServed = some .iu) ∧
    ((expiring fed .freshness).iu.presented = some ⟨⟨9, .freshness⟩, false⟩ ∧
      (expiring fed .freshness).nextServed = some .iu ∧
      ((expiring fed .freshness).row 9).deadline .freshness = .running 50 50) ∧
    (Requester.iu).after .cu < (Requester.rx 0).after .cu ∧ (expiring fed .freshness).waits .iu = true ∧
    ((run .deadlineDue pressed).turn = some .cu ∧ (run .deadlineDue pressed).waits .cu = true ∧
      pressed.nextServed = some .cu) ∧
    ((expiring fed .freshness).turn = none ∧ ∀ q, State.reset.waits q = false) := by
  refine ⟨by decide +kernel, by decide +kernel, by decide +kernel, by decide +kernel, by decide +kernel,
    by decide +kernel, by decide +kernel, fun q => ?_⟩
  cases q with
  | cu => rfl
  | iu => rfl
  | rx c => revert c; decide +kernel
  | tx c => revert c; decide +kernel

/-- R29: after CE3's send side the command unit, then the interval unit; after the interval unit CE0's receive side. -/
theorem test_rotation :
    let s := (expiring fed .freshness).updCh 0 fun ce => { ce with arrivalQueue := [.publish (signal 11)] }
    s.nextServed = some .iu ∧ ({ s with served := .iu } : State).nextServed = some (.rx 0) := by decide +kernel

/-- R29: a lone request is taken at once, whatever request follows it. -/
theorem test_loneRequest :
    let t := run .deadlineDue pressed
    t.iu.presented = some ⟨⟨0, .freshness⟩, false⟩ ∧ t.nextServed = some .cu ∧
    (run .commandTransaction t).nextServed = some .iu := by decide +kernel


/-! ### The receive line -/

/-- A telegram of a listed station that joins no arrival queue is reported by the count alone. -/
def counted (ce : ChannelEngine) : ChannelEngine :=
  { ce with rx := .idle, counters := { ce.counters with goodTelegrams := ce.counters.goodTelegrams + 1 } }

theorem counted_reported (ce : ChannelEngine) (t : Telegram) (h : ce.stationList = [9, 20])
    (n : ce.counters = Counters.zero) (a : arrivalOf t = none) (m : telegramSource t = 9) :
    Reported ce (counted ce) t := by
  refine ⟨rfl, ⟨?_, fun k => ?_⟩, rfl, fun _ => ⟨?_, ?_, rfl, ?_⟩, fun _ b => absurd a b⟩
  · simp only [counted, h]; decide
  · simp only [counted, h, m]
    refine ⟨.inl, fun i => ?_⟩
    obtain i | i := i
    · exact i
    · rw [i]; decide
  · rw [a]; exact (List.append_nil _).symm
  · simp only [counted, n]; decide
  · simp only [h, m, counted]
    exact (BitVec.or_zero).symm

/-- A PUBLISH calls no station by TOKEN or JOIN_CALL, and answers by no CONFIRM or JOIN_REPLY. -/
theorem publish_is_no_call (ce : ChannelEngine) (p : Publish) :
    ¬ OwnCall ce (.publish p) ∧ ¬ OwnReply ce (.publish p) := by
  refine ⟨fun h => ?_, fun h => ?_⟩
  · obtain ⟨_, h⟩ | ⟨_, h⟩ := h <;> cases h
  · obtain ⟨_, h, _⟩ | ⟨_, h⟩ := h <;> cases h

theorem hyp_GoodTelegramsAreReportedAndOffered :
    (Brings (on silent) (.publishReceived 0 (signal 41)) 0 (.publish (signal 41)) ∧ ((on silent).ch 0).Ok ∧
      ((on silent).ch 0).listens false ∧ GoodFor ((on silent).ch 0) (.publish (signal 41)) ∧
      ((on silent).ch 0).state = .silent) ∧
    (((on listener).ch 0).Ok ∧ ((on listener).ch 0).state = .listening ∧
      ((on { listener with rx := .receiving true }).ch 0).listens true ∧
      ¬ OwnCall ((on listener).ch 0) (.publish (signal 41))) ∧
    (((on member).ch 0).Ok ∧ ((on member).ch 0).state = .receiving ∧ ((on member).ch 0).listens false ∧
      Brings (on member) (.unmatchedRingTelegram 0 .token 1 9) 0 (.token 1 9) ∧
      Brings (on member) (.joinReplyReceived 0 31) 0 (.joinReply 31 5) ∧
      GoodFor ((on member).ch 0) (.token 1 9) ∧ GoodFor ((on member).ch 0) (.joinReply 31 5)) ∧
    (Brings (on { member with rx := .intruding }) (.tokenReceived 0 9) 0 (.token 9 5) ∧
      ((on { member with rx := .intruding }).ch 0).Ok ∧ { member with rx := .intruding }.sending = none ∧
      GoodFor ((on { member with rx := .intruding }).ch 0) (.token 9 5)) ∧
    ({ member with sending := some ⟨.reply, .joinReply 5 9⟩ }.deaf ∧ { member with rx := .off }.deaf ∧
      { member with rx := .unsynced }.deaf ∧ { member with rx := .resync }.deaf) := by
  refine ⟨⟨rfl, ok_of _ (by decide +kernel) 0, ⟨rfl, .inr (by decide +kernel)⟩, by unfold GoodFor; decide +kernel,
    rfl⟩, ⟨ok_of _ (by decide +kernel) 0, rfl, ⟨rfl, .inl rfl⟩, (publish_is_no_call _ _).1⟩,
    ⟨ok_of _ (by decide +kernel) 0, rfl, ⟨rfl, .inr (by decide +kernel)⟩, .inr rfl, .inl (by decide +kernel),
      by unfold GoodFor; decide +kernel, by unfold GoodFor; decide +kernel⟩,
    ⟨.inl ⟨rfl, rfl⟩, ok_of _ (by decide +kernel) 0, rfl, by unfold GoodFor; decide +kernel⟩,
    .inl (by decide), .inr (.inl rfl), .inr (.inr (.inl rfl)), .inr (.inr (.inr rfl))⟩

/-- R33, R34, R142: the 4th arrival is taken, the 5th counted as a check failure; station 12 joins the list. -/
theorem test_publishReceived :
    let full : ChannelEngine := { member with arrivalQueue := List.replicate 4 (.publish (signal 1)) }
    let t := run (.publishReceived 0 (signal 41)) (on member)
    let u := run (.publishReceived 0 (signal 41)) (on full)
    (t.ch 0).arrivalQueue = [.publish (signal 41)] ∧ (t.ch 0).stationList = [9, 12, 20] ∧ (t.ch 0).event = 0x004 ∧
    (t.ch 0).counters.goodTelegrams = 1 ∧ (u.ch 0).counters.checkFailures = 1 ∧ (u.ch 0).event = 0x084 := by
  decide +kernel

/-- R153, section 10.7 step 1: the own station as source. -/
theorem test_duplicateStation :
    let t := run (.publishReceived 0 { signal 41 with source := 5 }) (on member)
    (t.ch 0).state = .silent ∧ (t.ch 0).event = 0x050 ∧ (t.ch 0).arrivalQueue = [] := by decide +kernel
theorem test_recallReceived :
    ((run (.recallReceived 0 ⟨1, 9, 0, 300⟩) (on member)).ch 0).arrivalQueue = [.recall ⟨1, 9, 0, 300⟩] := by
  decide +kernel

/-- The channel with its attempt of row 4 awaiting CONFIRM 9, topic 400, sequence 7. -/
def awaiting (ranOut : Bool) (rx : RxState) : ChannelEngine :=
  { holder with
    rx := rx, inFlight := some (flight 4 made .awaitingConfirm)
    replyWindow := some ⟨.confirm 9 400 7, 128, ranOut⟩ }

theorem hyp_ConfirmsAnswerReplyWindows :
    (∀ ranOut, ((on (awaiting ranOut (.receiving true))).ch 0).Ok ∧
      Brings (on (awaiting ranOut (.receiving true))) (.confirmReceived 0 ⟨9, 5, 400, 7⟩) 0
        (.confirm ⟨9, 5, 400, 7⟩) ∧
      (awaiting ranOut (.receiving true)).state = .holding ∧ (awaiting ranOut (.receiving true)).listens true ∧
      GoodFor (awaiting ranOut (.receiving true)) (.confirm ⟨9, 5, 400, 7⟩) ∧
      (awaiting ranOut (.receiving true)).waiting = none ∧
      (awaiting ranOut (.receiving true)).inFlight = some (flight 4 made .awaitingConfirm) ∧
      (flight 4 made .awaitingConfirm).phase = .awaitingConfirm ∧
      (awaiting ranOut (.receiving true)).replyWindow = some ⟨.confirm 9 400 7, 128, ranOut⟩ ∧
      Answers (awaiting ranOut (.receiving true)) (.confirm ⟨9, 5, 400, 7⟩) ∧
      OwnReply (awaiting ranOut (.receiving true)) (.confirm ⟨12, 5, 400, 7⟩) ∧
      ¬ Answers (awaiting ranOut (.receiving true)) (.confirm ⟨12, 5, 400, 7⟩)) ∧
    ((awaiting false .idle).rx ≠ .receiving true ∧ (awaiting false (.receiving true)).rx = .receiving true) ∧
    ((on member).ch 0).replyWindow = none := by
  refine ⟨fun ranOut => ⟨?_, rfl, rfl, ⟨rfl, .inl rfl⟩, ?_, rfl, rfl, rfl, rfl, ⟨_, rfl, by cases ranOut <;> decide⟩,
    .inl ⟨_, rfl, by cases ranOut <;> decide⟩, ?_⟩, ⟨by decide, rfl⟩, rfl⟩
  · cases ranOut <;> exact ok_of _ (by decide +kernel) 0
  · cases ranOut <;> (unfold GoodFor; decide +kernel)
  · rintro ⟨w, e, h⟩
    cases e
    cases ranOut <;> exact absurd h (by decide)

theorem test_confirmReceived :
    let t := run (.confirmReceived 0 ⟨9, 5, 400, 7⟩) (on (awaiting false (.receiving true)))
    (t.ch 0).replyWindow = none ∧ (t.ch 0).requests = [.outcome .confirmed] := by decide +kernel

/-- Alone in HOLDING with nothing to send and no join interval. -/
def unused : ChannelEngine := { holder with stationList := [], cfgC1 := 0x9000 }

/-- R142, R148, R151: a late CONFIRM makes its station known to a channel alone, and the visit passes to it. -/
theorem test_confirmWhileAlone :
    let t := run (.confirmReceived 0 ⟨12, 5, 400, 7⟩) (on unused)
    (t.ch 0).stationList = [12] ∧ (t.ch 0).sending = some ⟨.passToken, .token 5 12⟩ := by decide +kernel

/-- R130: nothing on the line, the window closes; a telegram that began inside it holds it open. -/
theorem test_replyWindowExpiry :
    ((run (.replyWindowExpiry 0) (on (awaiting false .idle))).ch 0).requests = [.outcome .noConfirm] ∧
    ((run (.replyWindowExpiry 0) (on (awaiting false (.receiving true)))).ch 0).requests = [] := by decide +kernel

/-- RECEIVING with nothing PENDING, a join interval, a join count and a list. -/
def ring (interval : Word) (count : Nat) (l : List Nat) (cursor : Option Nat := none) : ChannelEngine :=
  { member with cfgC1 := 0x9000 ||| interval, joinCount := count, stationList := l, joinCursor := cursor }

theorem hyp_TokenBeginsAVisit :
    (Brings (on member) (.tokenReceived 0 9) 0 (.token 9 ((on member).ch 0).own) ∧ ((on member).ch 0).Ok ∧
      ((on member).ch 0).state = .receiving ∧ ((on listener).ch 0).state = .listening ∧
      ((on member).ch 0).listens false ∧ GoodFor ((on member).ch 0) (.token 9 ((on member).ch 0).own) ∧
      Reported member (counted member) (.token 9 5)) ∧
    ({ member with inFlight := some (flight 4 made .ended) }.inFlight ≠ none ∧
      .removal ∈ { member with requests := [.removal] }.requests) ∧
    (member.inFlight = none ∧ .removal ∉ member.requests ∧ (loaded 1).pendingCount ≠ 0 ∧ member.pendingCount = 0) ∧
    (Successor (counted member).own.toNat (counted member).stationList 9 ∧
      (counted (ring 0 0 [9, 20])).joinInterval = 0 ∧
      (counted (ring 16 14 [9, 20])).joinCount + 1 < (counted (ring 16 14 [9, 20])).joinInterval ∧
      (counted (ring 16 15 [9, 20])).joinInterval ≤ (counted (ring 16 15 [9, 20])).joinCount + 1 ∧
      1 ≤ (counted (ring 16 15 [9, 20])).joinInterval) ∧
    (Reported (ring 1 0 [9, 20]) (counted (ring 1 0 [9, 20])) (.token 9 5) ∧
      joinTarget (gapOf (counted (ring 1 0 [9, 20])).own.toNat (counted (ring 1 0 [9, 20])).stationList)
        (counted (ring 1 0 [9, 20])).joinCursor = some 6) ∧
    gapOf (counted (ring 1 0 [6, 9])).own.toNat (counted (ring 1 0 [6, 9])).stationList = [] := by
  refine ⟨⟨.inl ⟨rfl, rfl⟩, ok_of _ (by decide +kernel) 0, rfl, rfl, ⟨rfl, .inr (by decide +kernel)⟩,
    by unfold GoodFor; decide +kernel, counted_reported _ _ rfl rfl rfl rfl⟩, by decide +kernel, by decide +kernel,
    ⟨?_, by decide +kernel⟩, ⟨counted_reported _ _ rfl rfl rfl rfl, by decide +kernel⟩, by decide +kernel⟩
  unfold Successor
  decide +kernel

/-- R147, R148, R149: with a row pending an attempt is asked for; with none and no call due the token goes to 9. -/
theorem test_tokenReceived :
    let t := run (.tokenReceived 0 9) (on member)
    ((run (.tokenReceived 0 9) (on (loaded 1))).ch 0).requests = [.attemptStart] ∧ (t.ch 0).state = .passing ∧
    (t.ch 0).sending = some ⟨.passToken, .token 5 9⟩ ∧ (t.ch 0).joinCount = 1 := by decide +kernel

/-- R149: a call is due at the interval, and goes to the number after the cursor. -/
theorem test_joinCall :
    let t := run (.tokenReceived 0 9) (on (ring 16 15 [9, 20] (some 6)))
    (t.ch 0).sending = some ⟨.joinCall, .joinCall 5 7⟩ ∧ (t.ch 0).joinCursor = some 7 ∧ (t.ch 0).joinCount = 0 := by
  decide +kernel

theorem hyp_SuccessorGapAndCursor :
    ((1 ≤ 5 ∧ 5 ≤ 31 ∧ [9, 20].Pairwise (fun a b : Nat => a < b) ∧ ∀ x ∈ [9, 20], 1 ≤ x ∧ x ≤ 31 ∧ x ≠ 5) ∧
      Successor 5 [9, 20] 9 ∧ joinTarget (gapOf 5 [9, 20]) (some 8) = some 6) ∧
    ((1 ≤ 1 ∧ 1 ≤ 31 ∧ ∀ x ∈ [31], 1 ≤ x ∧ x ≤ 31 ∧ x ≠ 1) ∧ Successor 1 [31] 31) ∧
    ((1 ≤ 31 ∧ 31 ≤ 31 ∧ ∀ x ∈ [1], 1 ≤ x ∧ x ≤ 31 ∧ x ≠ 31) ∧ Successor 31 [1] 1 ∧ gapOf 31 [1] = []) := by
  unfold Successor
  decide +kernel

/-- The join call to station 6 whose reply window is open. -/
def calling (rx : RxState) (l : List Nat := [9, 20]) : ChannelEngine :=
  { holder with
    rx := rx, stationList := l, visit := some ⟨0, .joinCall⟩, replyWindow := some ⟨.joinReply 9, 128, false⟩ }

/-- The same window with its length passed or not, as a telegram that began inside it ends. -/
def late (ranOut : Bool) : ChannelEngine :=
  { calling (.receiving true) with replyWindow := some ⟨.joinReply 9, 128, ranOut⟩ }

theorem hyp_JoinCallsAndReplies :
    (Brings (on listener) (.joinCallReceived 0 9) 0 (.joinCall 9 ((on listener).ch 0).own) ∧ ((on listener).ch 0).Ok ∧
      ((on listener).ch 0).state = .listening ∧ ((on member).ch 0).state = .receiving ∧
      ((on listener).ch 0).listens false ∧ GoodFor ((on listener).ch 0) (.joinCall 9 ((on listener).ch 0).own)) ∧
    (Brings (on (calling (.receiving true))) (.joinReplyReceived 0 9) 0
        (.joinReply 9 ((on (calling (.receiving true))).ch 0).own) ∧
      ((on (calling (.receiving true))).ch 0).Ok ∧ (calling (.receiving true)).state = .holding ∧
      (calling (.receiving true)).listens true ∧
      GoodFor (calling (.receiving true)) (.joinReply 9 (calling (.receiving true)).own) ∧
      (calling (.receiving true)).replyWindow = some ⟨.joinReply 9, 128, false⟩ ∧
      Reported (calling (.receiving true)) (counted (calling (.receiving true))) (.joinReply 9 5) ∧
      Successor (counted (calling (.receiving true))).own.toNat (counted (calling (.receiving true))).stationList 9) ∧
    (((on (calling .idle)).ch 0).Ok ∧ ((on (calling .idle [])).ch 0).Ok ∧ (calling .idle).rx ≠ .receiving true ∧
      Successor (calling .idle).own.toNat (calling .idle).stationList 9 ∧ (calling .idle []).stationList = [] ∧
      (calling .idle []).waiting = none) ∧
    (∀ ranOut, Brings (on (late ranOut)) (.joinReplyReceived 0 20) 0 (.joinReply 20 5) ∧
      ((on (late ranOut)).ch 0).Ok ∧ (late ranOut).state = .holding ∧ (late ranOut).listens true ∧
      GoodFor (late ranOut) (.joinReply 20 5) ∧ OwnReply (late ranOut) (.joinReply 20 5) ∧
      ¬ (true = true ∧ Answers (late ranOut) (.joinReply 20 5)) ∧
      (late ranOut).replyWindow = some ⟨.joinReply 9, 128, ranOut⟩ ∧ (late ranOut).waiting = none ∧
      (late ranOut).visit = some ⟨0, .joinCall⟩ ∧
      { late ranOut with rx := .receiving false }.listens false) ∧
    (Brings (on unused) (.confirmReceived 0 ⟨12, 5, 400, 7⟩) 0 (.confirm ⟨12, 5, 400, 7⟩) ∧ ((on unused).ch 0).Ok ∧
      unused.state = .holding ∧ unused.listens false ∧ GoodFor unused (.confirm ⟨12, 5, 400, 7⟩) ∧
      OwnReply unused (.confirm ⟨12, 5, 400, 7⟩) ∧ unused.replyWindow = none ∧ unused.waiting = none ∧
      unused.inFlight = none ∧ unused.requests = [] ∧ unused.visit = some ⟨0, .attempts⟩ ∧ unused.pendingCount = 0 ∧
      0 < unused.visitBudget ∧ { unused with lists := ⟨[4], [], [], []⟩ }.pendingCount ≠ 0) := by
  refine ⟨⟨.inl ⟨rfl, rfl⟩, ok_of _ (by decide +kernel) 0, rfl, rfl, ⟨rfl, .inr (by decide +kernel)⟩,
    by unfold GoodFor; decide +kernel⟩, ⟨.inl ⟨rfl, rfl⟩, ok_of _ (by decide +kernel) 0, rfl, ⟨rfl, .inl rfl⟩,
    by unfold GoodFor; decide +kernel, rfl, counted_reported _ _ rfl rfl rfl rfl, by unfold Successor; decide +kernel⟩,
    ⟨ok_of _ (by decide +kernel) 0, ok_of _ (by decide +kernel) 0, by decide, by unfold Successor; decide +kernel, rfl,
      rfl⟩,
    fun ranOut => ⟨.inl ⟨rfl, ?_⟩, ?_, rfl, ⟨rfl, .inl rfl⟩, ?_, .inr ⟨20, ?_⟩, fun ⟨_, w, e, h⟩ => ?_, rfl, rfl, rfl,
      rfl, .inl rfl⟩,
    ⟨rfl, ok_of _ (by decide +kernel) 0, rfl, ⟨rfl, .inr (by decide +kernel)⟩, by unfold GoodFor; decide +kernel,
      .inl ⟨_, rfl, by decide⟩, by decide⟩⟩
  · cases ranOut <;> decide
  · cases ranOut <;> exact ok_of _ (by decide +kernel) 0
  · cases ranOut <;> (unfold GoodFor; decide +kernel)
  · cases ranOut <;> decide
  · cases e
    cases ranOut <;> exact absurd h (by decide)

/-- R145, R132: the newcomer answers and is RECEIVING. -/
theorem test_joinCallReceived :
    let t := run (.joinCallReceived 0 9) (on listener)
    (t.ch 0).state = .receiving ∧ (t.ch 0).replyQueue = [.joinReply 5 9] := by decide +kernel
theorem test_joinReplyReceived :
    let t := run (.joinReplyReceived 0 9) (on (calling (.receiving true)))
    (t.ch 0).replyWindow = none ∧ (t.ch 0).sending = some ⟨.passToken, .token 5 9⟩ := by decide +kernel

/-- PASSING with the pass window to station 9 open. -/
def passing (rx : RxState) (second : Bool := false) (l : List Nat := [9, 20]) : ChannelEngine :=
  { member with
    state := .passing, rx := rx, stationList := l
    pass := some { station := 9, second := second, window := some ⟨192, false⟩ } }

theorem hyp_ConflictsPassesAndClaims :
    (Brings (on holder) (.publishReceived 0 (signal 41)) 0 (.publish (signal 41)) ∧ ((on holder).ch 0).Ok ∧
      ((on holder).ch 0).listens false ∧ GoodFor ((on holder).ch 0) (.publish (signal 41)) ∧
      ((on holder).ch 0).state = .holding ∧ ¬ (false = true ∧ Answers ((on holder).ch 0) (.publish (signal 41))) ∧
      ¬ OwnReply ((on holder).ch 0) (.publish (signal 41))) ∧
    (((on (passing (.receiving true))).ch 0).Ok ∧ (passing (.receiving true)).listens true ∧
      (passing (.receiving true)).state = .passing ∧
      ¬ (true = true ∧ (some (⟨192, false⟩ : PassWindow)).isSome = true ∧
        telegramSource (.publish (signal 41)) = (9 : Byte)) ∧
      (telegramSource (.publish { signal 41 with source := 9 }) = (9 : Byte) ∧
        ¬ OwnCall (passing (.receiving true)) (.publish { signal 41 with source := 9 })) ∧
      Brings (on (passing (.receiving true))) (.tokenReceived 0 9) 0 (.token 9 5) ∧
      GoodFor (passing (.receiving true)) (.token 9 5) ∧ telegramSource (.token 9 5) = (9 : Byte) ∧
      (passing (.receiving true)).inFlight = none ∧ .removal ∉ (passing (.receiving true)).requests ∧
      { passing (.receiving true) with lists := ⟨[4], [], [], []⟩ }.pendingCount ≠ 0 ∧
      (passing (.receiving true)).pendingCount = 0 ∧
      { passing (.receiving true) with inFlight := some (flight 4 made .ended) }.inFlight ≠ none ∧
      Brings (on (passing (.receiving true))) (.joinCallReceived 0 9) 0 (.joinCall 9 5) ∧
      GoodFor (passing (.receiving true)) (.joinCall 9 5) ∧ telegramSource (.joinCall 9 5) = (9 : Byte)) ∧
    (((on claimer).ch 0).Ok ∧ ((on claimer).ch 0).state = .claiming ∧ ((on claimer).ch 0).listens false) ∧
    (Brings (on silent) (.recallReceived 0 ⟨0, 5, 0, 300⟩) 0 (.recall ⟨0, 5, 0, 300⟩) ∧ ((on silent).ch 0).Ok ∧
      ((on silent).ch 0).listens false ∧ telegramSized (.recall ⟨0, 5, 0, 300⟩) = true ∧
      telegramSource (.recall ⟨0, 5, 0, 300⟩) = ((on silent).ch 0).own ∧ ((on silent).ch 0).state = .silent ∧
      ((on member).ch 0).state ≠ .silent ∧ telegramSource (.recall ⟨0, 5, 0, 300⟩) = ((on member).ch 0).own) := by
  refine ⟨⟨rfl, ok_of _ (by decide +kernel) 0, ⟨rfl, .inr (by decide +kernel)⟩, by unfold GoodFor; decide +kernel, rfl,
    (fun h => by cases h.1), (publish_is_no_call _ _).2⟩, ⟨ok_of _ (by decide +kernel) 0, ⟨rfl, .inl rfl⟩, rfl,
    by decide +kernel, ⟨rfl, (publish_is_no_call _ _).1⟩, .inl (by decide +kernel), by unfold GoodFor; decide +kernel,
    rfl, rfl, by decide +kernel, by decide +kernel, by decide +kernel, by decide +kernel, .inl (by decide +kernel),
    by unfold GoodFor; decide +kernel, rfl⟩,
    ⟨ok_of _ (by decide +kernel) 0, rfl, ⟨rfl, .inr (by decide +kernel)⟩⟩,
    rfl, ok_of _ (by decide +kernel) 0, ⟨rfl, .inr (by decide +kernel)⟩, by decide, by decide +kernel, rfl,
    by decide, by decide +kernel⟩

/-- R152: a ring telegram between two other stations while holding; the attempt ends LINE_ERROR. -/
theorem test_unmatchedRing :
    let t := run (.unmatchedRingTelegram 0 .token 9 20) (on (awaiting false .idle))
    (t.ch 0).state = .receiving ∧ (t.ch 0).event = 0x002 ∧ (t.ch 0).requests = [.outcome .lineError] ∧
    ((run (.unmatchedRingTelegram 0 .token 9 20) (on (passing (.receiving true)))).ch 0).event = 0 := by decide +kernel

/-- The pass window of a try with its length passed, as a telegram that began inside it ends. -/
def overdue (second : Bool) : ChannelEngine :=
  { passer with rx := .receiving true, pass := some ⟨9, second, some ⟨192, true⟩⟩ }

/-- A CONFIRM and a JOIN_REPLY to the own station in HOLDING and PASSING that answer nothing. -/
theorem hyp_OwnRepliesThatAnswerNothing :
    (Brings (on holder) (.confirmReceived 0 ⟨12, 5, 400, 7⟩) 0 (.confirm ⟨12, 5, 400, 7⟩) ∧
      OwnReply holder (.confirm ⟨12, 5, 400, 7⟩) ∧ GoodFor holder (.confirm ⟨12, 5, 400, 7⟩) ∧ holder.listens false ∧
      holder.replyWindow = none ∧ { holder with inFlight := some (flight 4 made .ended) }.inFlight ≠ none ∧
      .removal ∈ { holder with requests := [.removal] }.requests ∧
      .attemptStart ∈ { holder with requests := [.attemptStart] }.requests ∧
      { holder with visit := some ⟨0, .joinCall⟩ }.visit = some ⟨0, .joinCall⟩ ∧ VisitStep.joinCall ≠ .attempts) ∧
    ∀ second, ((on (overdue second)).ch 0).Ok ∧ (overdue second).listens true ∧ (overdue second).state = .passing ∧
      (overdue second).replyWindow = none ∧ (overdue second).pass = some ⟨9, second, some ⟨192, true⟩⟩ ∧
      Brings (on (overdue second)) (.joinReplyReceived 0 20) 0 (.joinReply 20 5) ∧
      OwnReply (overdue second) (.joinReply 20 5) ∧ GoodFor (overdue second) (.joinReply 20 5) ∧
      ¬ (true = true ∧ telegramSource (.joinReply 20 5) = (9 : Byte)) ∧
      ((passing (.receiving true)).pass = some ⟨9, false, some ⟨192, false⟩⟩ ∧
        (passing (.receiving true)).listens true ∧ (passing (.receiving true)).replyWindow = none) := by
  refine ⟨⟨rfl, .inl ⟨_, rfl, rfl⟩, by unfold GoodFor; decide +kernel, ⟨rfl, .inr ⟨rfl, by decide +kernel⟩⟩, rfl,
    by decide +kernel, by decide, by decide, rfl, by decide⟩, fun second => ⟨?_, ⟨rfl, .inl rfl⟩, rfl, rfl, rfl,
    .inl ⟨by cases second <;> rfl, by cases second <;> rfl⟩, .inr ⟨20, by cases second <;> rfl⟩,
    by unfold GoodFor; cases second <;> decide +kernel, by decide +kernel, rfl, ⟨rfl, .inl rfl⟩, rfl⟩⟩
  cases second <;> exact ok_of _ (by decide +kernel) 0

/-- R130, R151, R152: a CONFIRM and a JOIN_REPLY of another station to the own station are no conflict in PASSING; one
that held open a window whose length has passed ends the try, the first or the second. -/
theorem test_ownReplyInPassing :
    let t := run (.confirmReceived 0 ⟨20, 5, 400, 7⟩) (on (passing (.receiving true)))
    let first := run (.joinReplyReceived 0 20) (on (overdue false))
    let second := run (.joinReplyReceived 0 20) (on (overdue true))
    (t.ch 0).state = .passing ∧ (t.ch 0).pass = some ⟨9, false, some ⟨192, false⟩⟩ ∧ (t.ch 0).event = 0 ∧
    (first.ch 0).sending = some ⟨.passToken, .token 5 9⟩ ∧ (first.ch 0).pass = some ⟨9, true, none⟩ ∧
    (second.ch 0).stationList = [20] ∧ (second.ch 0).sending = some ⟨.passToken, .token 5 20⟩ ∧
    (second.ch 0).event = 0x008 := by decide +kernel

theorem hyp_BadTelegramsAreCounted :
    ((Instr.checkFailure 0 damaged).wellFormed = true ∧
      (Instr.unknownKindTelegram 0 (telegramBytes (.token 0 5))).wellFormed = true) ∧
    ({ member with rx := .resync }.deaf ∧ member.delivers false ∧ { member with rx := .intruding }.delivers false) ∧
    ((∀ k, Instr.checkFailure 0 damaged ≠ .framingFault 0 k) ∧ FramingCase.byte26 ≠ .tooShort) ∧
    ((awaiting false (.receiving true)).listens true ∧
      (awaiting false (.receiving true)).replyWindow = some ⟨.confirm 9 400 7, 128, false⟩ ∧
      (awaiting true (.receiving true)).replyWindow = some ⟨.confirm 9 400 7, 128, true⟩) ∧
    ((late true).listens true ∧ (late true).replyWindow = some ⟨.joinReply 9, 128, true⟩ ∧
      ((on (late true)).ch 0).Ok) ∧
    (∀ second, (overdue second).listens true ∧ (overdue second).replyWindow = none ∧
      (overdue second).pass = some ⟨9, second, some ⟨192, true⟩⟩ ∧ ((on (overdue second)).ch 0).Ok) ∧
    ((passing (.receiving true)).listens true ∧ ∀ p x, (passing (.receiving true)).pass = some p →
      p.window = some x → x.ranOut = false) := by
  exact ⟨by decide +kernel, ⟨.inr (.inr (.inr rfl)), .inl ⟨rfl, .inr (by decide +kernel)⟩, .inr ⟨rfl, rfl, rfl⟩⟩,
    ⟨(fun k h => by cases h), by decide⟩,
    ⟨⟨rfl, .inl rfl⟩, rfl, rfl⟩, ⟨⟨rfl, .inl rfl⟩, rfl, ok_of _ (by decide +kernel) 0⟩,
    fun second => ⟨⟨rfl, .inl rfl⟩, rfl, rfl, by cases second <;> exact ok_of _ (by decide +kernel) 0⟩,
    ⟨rfl, .inl rfl⟩, fun p x h k => by cases h; cases k; rfl⟩

/-- R126: the check failure counts and sets CHECK_ERROR; R125 test 4: counted good, discarded. -/
theorem test_checkFailure :
    let t := run (.checkFailure 0 damaged) (on member)
    (t.ch 0).counters.checkFailures = 1 ∧ (t.ch 0).event = 0x080 ∧ (t.ch 0).stationList = [9, 20] := by decide +kernel
theorem test_unknownKind :
    let t := run (.unknownKindTelegram 0 ([0x70, 12, 5] ++ wordBytes (crc [0x70, 12, 5]))) (on member)
    (t.ch 0).counters.goodTelegrams = 1 ∧ (t.ch 0).event = 0 ∧ (t.ch 0).stationList = [9, 20] := by decide +kernel
theorem test_framingFault :
    ((run (.framingFault 0 .lowStopBit) (on member)).ch 0).rx = .resync ∧
    ((run (.framingFault 0 .tooShort) (on member)).ch 0).counters.checkFailures = 1 := by decide +kernel

/-- R130, R150, R151: a check failure that held open a window whose length has passed ends the call, or the try. -/
theorem test_badTelegramInWindow :
    ((run (.checkFailure 0 damaged) (on (late true))).ch 0).sending = some ⟨.passToken, .token 5 9⟩ ∧
    ((run (.checkFailure 0 damaged) (on (late false))).ch 0).replyWindow = some ⟨.joinReply 9, 128, false⟩ ∧
    ((run (.checkFailure 0 damaged) (on (overdue true))).ch 0).stationList = [20] := by decide +kernel

/-- A channel that has stopped driving after a mismatch in one of its telegrams. -/
def stopped (ce : ChannelEngine) (job : TxJob) : ChannelEngine := { ce with rx := .released, watch := some job }

theorem hyp_StartBitsAndEndGaps :
    ({ member with sending := some ⟨.reply, .joinReply 5 9⟩ }.sending ≠ none ∧
      (∃ w, { member with rx := .receiving true }.rx = .receiving w)) ∧
    (member.sending = none ∧ { member with rx := .unsynced }.rx = .unsynced ∧ member.rx = .idle) ∧
    ((stopped holder .attempt).watch ≠ none ∧ holder.state = .holding ∧ { member with rx := .resync }.rx = .resync ∧
      { member with rx := .released }.watch = none ∧ member.state ≠ .holding ∧ member.state ≠ .passing) ∧
    (Successor holder.own.toNat holder.stationList 9 ∧ ((on (stopped holder .joinCall)).ch 0).Ok ∧
      (stopped holder .joinCall).watch = some .joinCall ∧ (stopped holder .joinCall).sending = none) ∧
    (((on (stopped passer .passToken)).ch 0).Ok ∧ (stopped passer .passToken).pass = some ⟨9, false, none⟩ ∧
      (stopped passer .passToken).watch = some .passToken ∧ passer.state = .passing ∧
      ((on (stopped { passer with pass := some ⟨9, true, none⟩ } .passToken)).ch 0).Ok) ∧
    (¬ ((stopped holder .attempt).watch = some .joinCall ∧ holder.state = .holding) ∧
      ¬ ((stopped holder .attempt).watch = some .passToken ∧ holder.state = .passing)) ∧
    (EndsTelegram (on (stopped holder .attempt)) (.unknownKindTelegram 0 [0x05, 1, 2, 3, 4]) 0 ∧
      ((on (stopped holder .attempt)).ch 0).rx = .released ∧ ((on (stopped holder .attempt)).ch 0).sending = none) := by
  refine ⟨⟨by decide, true, rfl⟩, by decide, by decide, ⟨?_, ok_of _ (by decide +kernel) 0, rfl, rfl⟩,
    ⟨ok_of _ (by decide +kernel) 0, rfl, rfl, rfl, ok_of _ (by decide +kernel) 0⟩, by decide,
    .inr (.inl ⟨_, .inr rfl⟩), by decide +kernel, by decide +kernel⟩
  unfold Successor
  decide +kernel

/-- R144: a start bit stops the silence timer; R120, R121: an end gap makes the line idle and starts it, 13 slots. -/
theorem test_startBit :
    ((run (.startBit 0) (on { member with silenceTimer := some 832 })).ch 0).silenceTimer = none ∧
    ((run (.startBit 0) (on (stopped holder .attempt))).ch 0).event = 0x002 := by
  decide +kernel
theorem test_endGap :
    let t := run (.endGap 0) (on { member with rx := .resync })
    (t.ch 0).rx = .idle ∧ (t.ch 0).silenceTimer = some (13 * 64) := by decide +kernel

/-- R33, R152: a PUBLISH whose start bit follows a mismatch within the end gap is a token conflict and is offered; a
TOKEN to the own station that was such a conflict is not taken. -/
theorem test_telegramAfterMismatch :
    let t := run (.publishReceived 0 (signal 41)) (run (.startBit 0) (on (stopped holder .attempt)))
    let u := run (.tokenReceived 0 9) (on (stopped holder .attempt))
    (t.ch 0).arrivalQueue = [.publish (signal 41)] ∧ (t.ch 0).counters.goodTelegrams = 1 ∧ (t.ch 0).event = 0x006 ∧
    (u.ch 0).state = .receiving ∧ (u.ch 0).event = 0x002 := by decide +kernel

/-- R151, R152: a mismatch of the pass TOKEN that stays quiet is the running out of that try. -/
theorem test_lineFault :
    ((run (.endGap 0) (on (stopped passer .passToken))).ch 0).pass = some ⟨9, true, none⟩ ∧
    ((run (.endGap 0) (on (stopped { passer with pass := some ⟨9, true, none⟩ } .passToken))).ch 0).event = 0x008 := by
  decide +kernel


/-! ### Arrivals -/

/-- A PUBLISH at the head of CH0's arrival queue, with rows. -/
def arriving (p : Publish) (l : List (RowId × Row)) : State :=
  withRows (on { member with arrivalQueue := [.publish p] }) l

theorem hyp_ArrivalsAreTurnedAway :
    ((arriving (signal 9) pair).TopicsOk ∧ ((arriving (signal 9) pair).ch 0).arrivalQueue = .publish (signal 9) :: [] ∧
      (arriving (signal 9) pair).nextServed = some (.rx 0)) ∧
    (∀ r, ((301 : Word), r) ∈ (arriving { signal 9 with topic := 301 } pair).topicIndex →
      ((arriving { signal 9 with topic := 301 } pair).row r).role = .produced ∨
        inMask ((arriving { signal 9 with topic := 301 } pair).row r).sourceMask 0 = false) ∧
    (((signal 9).topic, (9 : RowId)) ∈ (arriving (signal 9) pair).topicIndex ∧
      ((arriving (signal 9) pair).row 9).role = .consumed ∧
      inMask ((arriving (signal 9) pair).row 9).sourceMask 0 = true) ∧
    ({ fed with state := .suspended }.state = .suspended ∧ fed.serves ∧ { fed with state := .awaiting }.serves ∧
      { fed with state := .stale }.serves) ∧
    ({ signal 9 with payload := [1, 2, 3] }.payload.length ≠ fed.length ∧ (signal 9).payload.length = fed.length) ∧
    (fed.sequenceCheck = true ∧ fed.state = .live ∧ 128 ≤ ((138 : Byte) - fed.sequence).toNat ∧
      ¬ 128 ≤ ((137 : Byte) - fed.sequence).toNat ∧ 128 ≤ ((9 : Byte) - fed.sequence).toNat ∧
      (signal 10).sequence = fed.sequence) := by
  refine ⟨⟨State.topics_of_check (freeBut _ _ rfl) (by decide +kernel), rfl, by decide +kernel⟩, fun r h => ?_,
    by decide +kernel, ⟨rfl, .inr (.inl rfl), .inl rfl, .inr (.inr rfl)⟩, by decide, by decide⟩
  revert r
  decide +kernel

/-- R37, R38, R40: SUSPENDED is counted silently, a wrong length and an old sequence with REJECTED. -/
theorem test_turnedAway :
    let t := run (.publishArrival 0) (arriving { signal 11 with payload := [1] } pair)
    let u := run (.publishArrival 0) (arriving (signal 11) [(9, { fed with state := .suspended })])
    (t.row 9).rejectCount = 1 ∧ t.attention = [⟨9, 0x08⟩] ∧ (u.row 9).rejectCount = 1 ∧ u.attention = [] ∧
    ((run (.publishArrival 0) (arriving { signal 11 with topic := 1 } pair)).ch 0).counters.unclaimedPublishes = 1 := by
  decide +kernel

theorem hyp_ArrivalsAreAccepted :
    (arriving (signal 11) pair).TopicsOk ∧
    ((arriving (signal 11) pair).ch 0).arrivalQueue = .publish (signal 11) :: [] ∧
    (arriving (signal 11) pair).nextServed = some (.rx 0) ∧
    ((signal 11).topic, (9 : RowId)) ∈ (arriving (signal 11) pair).topicIndex ∧
    (((arriving (signal 11) pair).row 9).role = .consumed ∧
      inMask ((arriving (signal 11) pair).row 9).sourceMask 0 = true ∧ fed.serves ∧
      (signal 11).payload.length = ((arriving (signal 11) pair).row 9).length) ∧
    (1 ≤ ((11 : Byte) - fed.sequence).toNat ∧ ((137 : Byte) - fed.sequence).toNat ≤ 127) ∧
    ({ fed with sequenceCheck := false }.sequenceCheck = false ∧ { fed with state := .stale }.state ≠ .live) := by
  exact ⟨State.topics_of_check (freeBut _ _ rfl) (by decide +kernel), rfl, by decide +kernel, by decide +kernel,
    ⟨by decide +kernel, by decide +kernel, .inr (.inl rfl), by decide +kernel⟩, by decide, by decide⟩

/-- Section 10.3 step 1: LIVE, sequence 41, generation 1, CH0 and 12, CONFIRM, NEW_DATA. -/
theorem test_publishArrival :
    let t := run (.publishArrival 0)
      (arriving (signal 41) [(0, { fed with state := .awaiting, image := none, generation := 0, sequence := 0 })])
    ((t.row 0).state, (t.row 0).sequence, (t.row 0).generation) = (.live, 41, 1) ∧
    ((t.row 0).arrivalChannel, (t.row 0).sourceStation) = (some 0, some 12) ∧
    (t.ch 0).replyQueue = [.confirm ⟨5, 12, 300, 41⟩] ∧ t.attention = [⟨0, 0x01⟩] := by decide +kernel

/-- A RECALL at the head of CH0's arrival queue. -/
def recalled (q : Recall) : State := withRows (on { member with arrivalQueue := [.recall q] }) pair

theorem hyp_RecallsAreTaken :
    (∀ q, (recalled q).TopicsOk ∧ ((recalled q).ch 0).arrivalQueue = .recall q :: [] ∧
      (recalled q).nextServed = some (.rx 0)) ∧
    ((400 : Word), (4 : RowId)) ∈ (recalled ⟨0, 12, 0, 400⟩).topicIndex ∧
    (((recalled ⟨0, 12, 0, 400⟩).row 4).role = .produced ∧
      inMask ((recalled ⟨0, 12, 0, 400⟩).row 4).sendMask 0 = true ∧
      ((recalled ⟨0, 12, 0, 400⟩).row 4).state = .live) ∧
    ∀ r, ((300 : Word), r) ∈ (recalled ⟨0, 12, 0, 300⟩).topicIndex →
      ¬ (((recalled ⟨0, 12, 0, 300⟩).row r).role = .produced ∧
        inMask ((recalled ⟨0, 12, 0, 300⟩).row r).sendMask 0 = true ∧
        ((recalled ⟨0, 12, 0, 300⟩).row r).state = .live) := by
  refine ⟨fun q => ⟨State.topics_of_check (l := [9, 4]) (freeBut _ pair rfl) ?_, rfl, ?_⟩, by decide +kernel,
    by decide +kernel, fun r h => ?_⟩
  · have e : (recalled q).topicsCheck [9, 4] = (withRows State.reset pair).topicsCheck [9, 4] := rfl
    rw [e]; decide +kernel
  · rfl
  · have e : (recalled ⟨0, 12, 0, 300⟩).topicIndex = [(300, 9), (400, 4)] := by decide +kernel
    rw [e] at h
    simp only [List.mem_cons, List.not_mem_nil, or_false, Prod.mk.injEq] at h
    obtain ⟨_, h⟩ | ⟨h, _⟩ := h
    · rw [h]; decide +kernel
    · exact absurd h (by decide)

/-- R48: the row is queued on CH0 and RECALLED recorded. -/
theorem test_recallArrival :
    let t := run (.recallArrival 0) (recalled ⟨0, 12, 0, 400⟩)
    (t.ch 0).lists.q0 = [4] ∧ t.attention = [] ∧
    ((run (.recallArrival 0) (withRows (on { member with arrivalQueue := [.recall ⟨0, 12, 0, 400⟩] })
      [(4, { made with attentionMask := 0xFF })])).attention = [⟨4, 0x80⟩]) := by decide +kernel

/-! ### Attempts and replies -/

/-- CH0 with a telegram being sent. -/
def sending (ce : ChannelEngine) (job : TxJob) (t : Telegram) : ChannelEngine := { ce with sending := some ⟨job, t⟩ }

/-- The CONFIRM of section 10.3 and the replies' queue. -/
def answer : Telegram := .confirm ⟨5, 12, 300, 41⟩

theorem hyp_RepliesGoOutOrAreDiscarded :
    (((on { member with replyQueue := [answer] }).ch 0).Ok ∧
      ((on { member with replyQueue := [answer] }).ch 0).replyQueue = answer :: [] ∧ member.sending = none ∧
      member.rx = .idle ∧ { member with rx := .unsynced }.rx = .unsynced ∧ member.replyQueue = [] ∧
      (sending member .reply answer).sending ≠ none ∧
      ({ member with rx := .receiving false }.rx ≠ .idle ∧ { member with rx := .receiving false }.rx ≠ .unsynced)) ∧
    (member.waiting = none ∧ { holder with waiting := some ⟨.attempt, answer⟩ }.waiting = some ⟨.attempt, answer⟩) ∧
    ((on (sending member .reply answer)).ch 0).sending = some { job := .reply, telegram := answer } ∧
    ∀ t, ((on member).ch 0).sending ≠ some { job := .reply, telegram := t } := by
  exact ⟨⟨ok_of _ (by decide +kernel) 0, by decide +kernel⟩, by decide, rfl, fun t h => by cases h⟩

/-- R132. -/
theorem test_sendReply :
    let t := run (.sendReply 0) (on { member with replyQueue := [answer] })
    (t.ch 0).sending = some ⟨.reply, answer⟩ ∧ (t.ch 0).replyQueue = [] := by decide +kernel
theorem test_replyLatestStart :
    ((run (.replyLatestStart 0) (on { member with rx := .receiving false, replyQueue := [answer] })).ch 0).replyQueue =
      [] := by decide +kernel

/-- Log entry 8: with no reply queued a telegram that stands ready does not begin. -/
theorem test_replyLatestStartWithNoReply :
    let ready := { passer with waiting := some ⟨.passToken, .token 5 9⟩ }
    run (.replyLatestStart 0) (on ready) = on ready ∧
    ((run (.replyLatestStart 0) (on { ready with replyQueue := [answer] })).ch 0).sending =
      some ⟨.passToken, .token 5 9⟩ := by decide +kernel

/-- R193: ATTN is driven low while asserted; SDO is at high impedance while SEL is high, and else driven, here through
the status byte 05 after a reset, most significant bit first; LTXEN is asserted while CH0 sends. -/
theorem test_pins :
    let s := on (sending { member with event := 0x100, eventEnable := 0x100 } .reply answer)
    State.reset.pins.attn = .high ∧ s.pins.attn = .low ∧ State.reset.pins.sdo = none ∧
    (run (.portStatusByte 0) State.reset).pins.sdo = some [.low, .low, .low, .low, .low, .high, .low, .high] ∧
    (run (.endInsideTransaction 0) (run (.portStatusByte 0) State.reset)).pins.sdo = none ∧
    s.pins.ltxen = ⟨true, false, false, false⟩ ∧ s.pins.ltx.q0.take 4 = [.low, .low, .low, .high] ∧
    s.pins.ltx.q1 = [] := by decide +kernel
theorem test_replyEcho :
    let t := run (.replyEcho 0 [0] true) (on (sending member .reply answer))
    (t.ch 0).sending = none ∧ (t.ch 0).rx = .released ∧ (t.ch 0).errorRun = 0 := by decide +kernel

/-- CH0 holding, an attempt start presented, row 4 PENDING. -/
def starting (ce : ChannelEngine) (row : Row) : State :=
  withRows (on { ce with requests := [.attemptStart], lists := ⟨[4], [], [], []⟩ }) [(4, row)]

theorem hyp_AttemptsStartFromTheLowestClass :
    (((starting holder (sided made .pending)).ch 0).requests = .attemptStart :: [] ∧
      (starting holder (sided made .pending)).nextServed = some (.tx 0) ∧ .removal ∉ ([] : List SendRequest)) ∧
    ((starting member (sided made .pending)).ch 0).state ≠ .holding ∧
    (((starting holder (sided made .pending)).ch 0).visit = some ⟨0, .attempts⟩ ∧ holder.state = .holding ∧
      ((starting holder (sided made .pending)).ch 0).inFlight = none ∧ 0 < holder.visitBudget ∧
      ((starting holder (sided made .pending)).ch 0).lists.get 0 = 4 :: [] ∧
        ∀ j : Fin 4, j < 0 → holder.lists.get j = []) ∧
    ((∀ k, holder.lists.get k = []) ∧ holder.visitBudget ≤ 4 ∧
      holder.stationList.Pairwise (fun a b => a < b) ∧ holder.pass = none ∧
      Successor holder.own.toNat holder.stationList 9 ∧ { holder with cfgC1 := 0x9000 }.joinInterval = 0 ∧
      holder.joinCount + 1 < holder.joinInterval ∧
      joinTarget (gapOf holder.own.toNat holder.stationList) holder.joinCursor = some 6 ∧
      { holder with joinCount := 15 }.joinInterval ≤ { holder with joinCount := 15 }.joinCount + 1 ∧
      (unused.joinInterval = 0 ∧ unused.stationList = [] ∧ unused.inFlight = none ∧ .removal ∉ unused.requests ∧
        unused.waiting = none)) := by
  refine ⟨by decide +kernel, by decide +kernel, by decide +kernel, by decide, by decide +kernel, by decide, rfl, ?_,
    by decide +kernel⟩
  unfold Successor
  decide +kernel

/-- Section 10.4 step 2: IN_FLIGHT with count 1 and a snapshot of the sequence; R65: the telegram. -/
theorem test_attemptStart :
    let t := run (.attemptStart 0) (starting holder (sided made .pending))
    (t.row 4).sendStateOn 0 = .inFlight ∧ ((t.row 4).side.get 0).attemptCount = 1 ∧
    (t.ch 0).sending = some ⟨.attempt, .publish ⟨0, 5, 9, 400, 7, [7, 8]⟩⟩ := by decide +kernel

/-- Row 4's attempt on the line. -/
def attempting (row : Row) : ChannelEngine :=
  { sending holder .attempt (attemptTelegram 5 (snapshot row 4 0)) with inFlight := some (flight 4 row .onLine) }

theorem hyp_AttemptEchoesEndOrAwait :
    (∀ row : Row, ((on (attempting row)).ch 0).sending =
        some { job := .attempt, telegram := attemptTelegram 5 (snapshot row 4 0) } ∧
      ((on (attempting row)).ch 0).waiting = none ∧
      ((on (attempting row)).ch 0).inFlight = some (flight 4 row .onLine) ∧ (flight 4 row .onLine).phase = .onLine) ∧
    (flight 4 { made with confirmStation := 0 } .onLine).confirm = 0 ∧ (flight 4 made .onLine).confirm ≠ 0 ∧
    ((∀ f, ((on { attempting made with inFlight := some (flight 4 made .ended) }).ch 0).inFlight = some f →
        f.phase = .ended) ∧
      ∀ f, ((on { attempting made with inFlight := none }).ch 0).inFlight = some f → f.phase = .ended) ∧
    ({ holder with waiting := some ⟨.attempt, answer⟩ }.waiting = some ⟨.attempt, answer⟩ ∧ holder.sending = none ∧
      holder.rx = .idle ∧ member.waiting = none) ∧
    ∀ t, ((on member).ch 0).sending ≠ some { job := .attempt, telegram := t } := by
  exact ⟨fun row => ⟨rfl, rfl, rfl, rfl⟩, by decide +kernel, by decide +kernel,
    ⟨fun f h => by cases h; rfl, fun f h => by cases h⟩, ⟨rfl, rfl, rfl, rfl⟩, fun t h => by cases h⟩

/-- R129: a window of 2 slot times of 64 bit times for the CONFIRM; R66: a mismatch is LINE_ERROR. -/
theorem test_attemptEcho :
    let sent := telegramBytes (attemptTelegram 5 (snapshot made 4 0))
    ((run (.attemptEcho 0 sent true) (on (attempting made))).ch 0).replyWindow = some ⟨.confirm 9 400 7, 128, false⟩ ∧
    ((run (.attemptEcho 0 (sent.drop 1) true) (on (attempting made))).ch 0).requests = [.outcome .lineError] := by
  decide +kernel

/-- Row 4's outcome presented on CH0. -/
def ending (o : AttemptOutcome) (row : Row) (ce : ChannelEngine := holder) : State :=
  withRows (on { ce with requests := [.outcome o], inFlight := some (flight 4 row .ended) }) [(4, row)]

/-- Row 4 in flight with an attempt count and its marks. -/
def tried (count : Nat) (renewed cancel : Bool) : Row :=
  { made with side := made.side.set 0 ⟨.inFlight, renewed, cancel, count, .none⟩ }

theorem hyp_OutcomesRetryOrEndTheSend :
    (∀ o, ((ending o (tried 1 false false)).ch 0).requests = .outcome o :: [] ∧
      (ending o (tried 1 false false)).nextServed = some (.tx 0) ∧
      ((ending o (tried 1 false false)).ch 0).inFlight = some (flight 4 (tried 1 false false) .ended)) ∧
    (((tried 3 false false).side.get 0).attemptCount ≤ holder.retryLimit ∧
      ((tried 3 false false).side.get 0).cancelRequested = false ∧ (tried 3 false false).serves) ∧
    (¬ ((tried 4 true false).side.get 0).attemptCount ≤ holder.retryLimit ∧
      ((tried 4 true false).side.get 0).renewed = true) ∧
    (((tried 1 false true).side.get 0).cancelRequested = true ∧ { tried 1 false false with state := .retiring }.state =
      .retiring ∧ ¬ ∃ e, e ≠ 0 ∧ { tried 1 false false with state := .retiring }.sendStateOn e = .inFlight) ∧
    (holder.errorRunLimit ≤ min 31 ({ holder with errorRun := 15 }.errorRun + 1) ∧ holder.state ≠ .offline) ∧
    (holder.state = .holding ∧ holder.visit = some ⟨0, .attempts⟩ ∧ .removal ∉ ([] : List SendRequest) ∧
      holder.waiting = none ∧ holder.stationList.Pairwise (fun a b => a < b) ∧ holder.pass = none ∧
      min 31 (holder.errorRun + 1) < holder.errorRunLimit ∧ 0 < holder.visitBudget ∧
      { holder with visit := some ⟨4, .attempts⟩ }.visitBudget ≤ 4) := by
  refine ⟨fun o => ⟨rfl, by cases o <;> rfl, rfl⟩, ⟨by decide, by decide, .inr (.inl rfl)⟩, by decide,
    by decide, by decide, by decide⟩

/-- Section 10.4 steps 4 and 7 (with the retry limit 3: counts 3 and 4): retried at the head; failed, renewed. -/
theorem test_attemptOutcome :
    let t := run (.attemptOutcome 0) (ending .noConfirm (tried 3 true false))
    let u := run (.attemptOutcome 0) (ending .noConfirm (tried 4 true false))
    (t.ch 0).lists.q0 = [4] ∧ ((t.row 4).side.get 0).attemptCount = 3 ∧ t.attention = [] ∧
    (u.ch 0).lists.q0 = [4] ∧ u.row 4 = { made with
      side := made.side.set 0 ⟨.pending, false, false, 0, .failedNoConfirm⟩ } ∧ u.attention = [⟨4, 0x20⟩] := by
  decide +kernel
theorem test_confirmedOutcome :
    let t := run (.attemptOutcome 0) (ending .confirmed (tried 1 false false) { holder with errorRun := 7 })
    ((t.row 4).side.get 0).lastResult = .confirmed ∧ t.attention = [⟨4, 0x10⟩] ∧ (t.ch 0).errorRun = 0 ∧
    (t.ch 0).sending = some ⟨.passToken, .token 5 9⟩ := by decide +kernel

/-- CH0 OFFLINE with its removal presented: row 4 PENDING, row 9 HELD, row 12 IN_FLIGHT. -/
def removing : State :=
  withRows (on { ChannelEngine.reset with
      requests := [.removal], lists := ⟨[4], [], [], []⟩
      inFlight := some (flight 12 { made with topic := some 401 } .ended) })
    [(4, sided made .pending), (9, { sided made .held with topic := some 402, gapRunning := true, heldMask := 1 }),
     (12, { sided made .inFlight 1 with topic := some 401, state := .retiring })]

theorem hyp_RemovalEmptiesTheChannel :
    removing.Agrees ∧ (removing.ch 0).requests = .removal :: [] ∧ removing.nextServed = some (.tx 0) ∧
    ((removing.row 4).side.get 0).sendState = .pending ∧ ((removing.row 9).side.get 0).sendState = .held ∧
    ((removing.row 12).side.get 0).sendState = .inFlight ∧ (removing.row 12).state = .retiring ∧
    ((removing.row 4).side.get 1).sendState = .idle ∧
    (removing.ch 0).inFlight = some (flight 12 { made with topic := some 401 } .ended) :=
  ⟨State.agrees_of_check (freeBut _ _ rfl) (by decide +kernel), rfl, by decide +kernel, by decide +kernel,
    by decide +kernel, by decide +kernel, by decide +kernel, by decide +kernel, rfl⟩

/-- CH0 restarted and HOLDING again, its visit waiting for the removal. -/
def restarted (rest : List SendRequest := []) : State :=
  on { holder with requests := .removal :: rest, joinCount := 3, lists := ⟨[], [], [], []⟩ }

theorem hyp_RemovalLetsTheVisitGoOn :
    (∀ rest, rest = [] ∨ rest = [.removal] →
      (restarted rest).Agrees ∧ (restarted rest).nextServed = some (.tx 0) ∧
      ((restarted rest).ch 0).requests = .removal :: rest) ∧
    (holder.state = .holding ∧ holder.visit = some ⟨0, .attempts⟩ ∧ holder.waiting = none ∧ holder.pass = none ∧
      .removal ∉ ([] : List SendRequest) ∧ holder.stationList.Pairwise (fun a b => a < b) ∧
      Successor holder.own.toNat holder.stationList 9) ∧
    ((removing.ch 0).state ≠ .holding ∧ (removing.ch 0).waiting = none ∧
      { passer with requests := [.removal], waiting := some ⟨.passToken, .token 5 9⟩ }.waiting =
        some ⟨.passToken, .token 5 9⟩ ∧ passer.state ≠ .holding) := by
  refine ⟨fun rest h => ?_, ⟨rfl, rfl, rfl, rfl, by decide, by decide, ?_⟩, by decide +kernel, rfl, rfl, by decide⟩
  · obtain rfl | rfl := h <;>
      exact ⟨State.agrees_of_check (l := []) (freeBut _ [] rfl) (by decide +kernel), by decide +kernel, rfl⟩
  · unfold Successor
    decide +kernel

/-- R78, R148: after its last removal the visit of the restarted channel passes the token, and not before. -/
theorem test_removalLetsTheVisitGoOn :
    ((run (.removalTransaction 0) (restarted)).ch 0).sending = some ⟨.passToken, .token 5 9⟩ ∧
    (run (.removalTransaction 0) (restarted [.removal])).ch 0 = { holder with requests := [.removal], joinCount := 3 }
    := by decide +kernel

/-- R77. -/
theorem test_removal :
    let t := run (.removalTransaction 0) removing
    ((t.row 4).side.get 0).lastResult = .channelOff ∧ (t.row 9).heldMask = 0 ∧ t.row 12 = Row.free ∧
    (t.ch 0).lists.q0 = [] := by decide +kernel

/-! ### The token ring's own telegrams -/

theorem hyp_JoinAndPassEchoesOpenWindows :
    (((on (sending { holder with visit := some ⟨0, .joinCall⟩ } .joinCall (.joinCall 5 6))).ch 0).sending =
        some { job := .joinCall, telegram := .joinCall 5 6 } ∧ holder.state = .holding ∧ holder.waiting = none) ∧
    (((on (sending passer .passToken (.token 5 9))).ch 0).sending =
        some { job := .passToken, telegram := .token 5 9 } ∧ passer.pass = some ⟨9, false, none⟩ ∧
      passer.waiting = none) ∧
    (((on (passing .idle)).ch 0).Ok ∧ (passing .idle).pass = some ⟨9, false, some ⟨192, false⟩⟩ ∧
      (passing .idle).rx ≠ .receiving true ∧ (passing (.receiving true)).rx = .receiving true ∧
      ((on (passing .idle true)).ch 0).Ok ∧ (passing .idle true).pass = some ⟨9, true, some ⟨192, false⟩⟩ ∧
      Successor (passing .idle true).own.toNat ((passing .idle true).stationList.filter fun n => n ≠ 9) 20 ∧
      ((passing .idle true [9]).stationList.filter fun n => n ≠ 9) = []) ∧
    (({ passer with waiting := some ⟨.passToken, .token 5 9⟩ }.waiting = some ⟨.passToken, .token 5 9⟩ ∧
        passer.sending = none ∧ passer.rx = .idle) ∧
      { holder with waiting := some ⟨.joinCall, .joinCall 5 6⟩ }.waiting = some ⟨.joinCall, .joinCall 5 6⟩ ∧
        holder.sending = none ∧ holder.rx = .idle) ∧
    (∀ p, ((on passer).ch 0).pass = some p → p.window = none) := by
  refine ⟨⟨rfl, rfl, rfl⟩, ⟨rfl, rfl, rfl⟩, ⟨ok_of _ (by decide +kernel) 0, rfl, by decide, rfl,
    ok_of _ (by decide +kernel) 0, rfl, ?_, by decide⟩, ⟨⟨rfl, rfl, rfl⟩, rfl, rfl, rfl⟩, fun p h => by cases h; rfl⟩
  unfold Successor
  decide +kernel

theorem test_joinCallEcho :
    let t := run (.joinCallEcho 0 (telegramBytes (.joinCall 5 6)) true)
      (on (sending { holder with visit := some ⟨0, .joinCall⟩ } .joinCall (.joinCall 5 6)))
    (t.ch 0).replyWindow = some ⟨.joinReply 6, 128, false⟩ := by decide +kernel

/-- R151: a pass timeout of 3 slot times. -/
theorem test_passTokenEcho :
    let t := run (.passTokenEcho 0 (telegramBytes (.token 5 9)) true) (on (sending passer .passToken (.token 5 9)))
    (t.ch 0).pass = some ⟨9, false, some ⟨192, false⟩⟩ := by decide +kernel

/-- Section 10.6: the second failed try removes the station, STATION_LOST, and the next station is passed to. -/
theorem test_passWindowExpiry :
    let t := run (.passWindowExpiry 0) (on (passing .idle true))
    (t.ch 0).stationList = [20] ∧ (t.ch 0).event = 0x008 ∧ (t.ch 0).counters.failedPasses = 1 ∧
    (t.ch 0).waiting = some ⟨.passToken, .token 5 20⟩ ∧ (t.ch 0).sending = none ∧
    ((run (.passWindowExpiry 0) (on (passing .idle))).ch 0).pass = some ⟨9, true, none⟩ := by decide +kernel

/-- R157: the running out is taken first and a start bit comes before the TOKEN is sent again: the telegram of the
station passed to is a token conflict; with no start bit the TOKEN is sent and opens its new window. -/
theorem test_passWindowExpiryThenStartBit :
    let s := run (.passWindowExpiry 0) (on (passing .idle))
    let t := run (.unmatchedRingTelegram 0 .token 9 20) (run (.startBit 0) s)
    let u := run (.passTokenEcho 0 (telegramBytes (.token 5 9)) true) s
    (t.ch 0).event = 0x002 ∧ (t.ch 0).state = .receiving ∧
    (u.ch 0).pass = some ⟨9, true, some ⟨192, false⟩⟩ := by decide +kernel

/-- CH0 with the claim on the line. -/
def claiming (ce : ChannelEngine) : ChannelEngine := sending ce .claim (.token 5 5)

theorem hyp_ClaimsRegenerateTheToken :
    ({ listener with silenceTimer := some 0 }.silenceTimer ≠ none ∧ listener.state = .listening ∧
      { member with silenceTimer := some 0 }.silenceTimer ≠ none ∧ member.state = .receiving ∧
      member.silenceTimer = none) ∧
    (claimer.state = .claiming ∧ claimer.sending = none ∧ claimer.rx = .idle ∧
      { claimer with rx := .unsynced }.rx = .unsynced ∧ (claiming claimer).sending ≠ none) ∧
    (((on (claiming claimer)).ch 0).Ok ∧
      ((on (claiming claimer)).ch 0).sending = some { job := .claim, telegram := .token 5 5 } ∧
      ((on (claiming claimer)).ch 0).state = .claiming) ∧
    (claimer.inFlight = none ∧ .removal ∉ claimer.requests ∧ claimer.pendingCount = 0 ∧
      { claimer with lists := ⟨[4], [], [], []⟩ }.pendingCount ≠ 0 ∧ { claimer with cfgC1 := 0x9000 }.joinInterval = 0 ∧
      { claimer with inFlight := some (flight 4 made .ended) }.inFlight ≠ none ∧ 1 ≤ claimer.joinInterval ∧
      { claimer with stationList := [] }.stationList = [] ∧ claimer.waiting = none ∧
      { claimer with joinCount := 15 }.joinInterval ≤ { claimer with joinCount := 15 }.joinCount + 1) ∧
    (Successor claimer.own.toNat claimer.stationList 9 ∧ joinTarget (gapOf claimer.own.toNat []) none = some 6) ∧
    (claimer.errorRunLimit ≤ min 31 ({ claimer with errorRun := 15 }.errorRun + 1) ∧
      min 31 ({ claimer with errorRun := 14 }.errorRun + 1) < claimer.errorRunLimit) ∧
    ∀ t, ((on claimer).ch 0).sending ≠ some { job := .claim, telegram := t } := by
  refine ⟨by decide, by decide, ⟨ok_of _ (by decide +kernel) 0, rfl, rfl⟩, by decide, ⟨?_, by decide +kernel⟩,
    by decide,
    fun t h => by cases h⟩
  unfold Successor
  decide +kernel

theorem test_silenceTimer :
    ((run (.silenceTimerExpiry 0) (on { member with silenceTimer := some 832 })).ch 0).state = .claiming := by
  decide +kernel
theorem test_claimTransmit :
    ((run (.claimTransmit 0) (on claimer)).ch 0).sending = some ⟨.claim, .token 5 5⟩ := by decide +kernel

/-- Section 10.6: the good echo regenerates the token; with a row pending the visit asks for an attempt. -/
theorem test_claimEcho :
    let t := run (.claimEcho 0 (telegramBytes (.token 5 5)) true)
      (on (claiming { claimer with lists := ⟨[4], [], [], []⟩, errorRun := 3 }))
    (t.ch 0).state = .holding ∧ (t.ch 0).event = 0x001 ∧ (t.ch 0).errorRun = 0 ∧
    (t.ch 0).requests = [.attemptStart] := by decide +kernel
theorem test_claimEchoMismatch :
    let t := run (.claimEcho 0 [] true) (on (claiming { claimer with claimedFrom := .receiving, errorRun := 14 }))
    (t.ch 0).state = .receiving ∧ (t.ch 0).errorRun = 15 ∧
    ((run (.claimEcho 0 [] true) (on (claiming { claimer with errorRun := 15 }))).ch 0).state = .silent := by
  decide +kernel

/-! ### The telegram, the invariants -/

theorem hyp_TelegramsReadBackAsThemselves :
    telegramSized (.publish ⟨3, 1, 0, 4094, 255, List.replicate 16 0xFF⟩) = true ∧
    telegramSized (.publish ⟨0, 31, 31, 1, 0, []⟩) = true ∧ telegramSized (.joinReply 1 31) = true ∧
    ([0xA5, 1] : List Byte)[1]? = some 1 ∧ 7 < 8 ∧ member.sending = none ∧
    (sending member .reply answer).sending = some ⟨.reply, answer⟩ ∧
    ((List.replicate 4 1 : List Byte) ≠ [] ∧ (List.replicate 4 1 : List Byte).length < 5 ∧
      (List.replicate 5 1 : List Byte).length = 5 ∧ (List.replicate 25 1 : List Byte).length = 25 ∧
      25 < (List.replicate 26 1 : List Byte).length ∧ (List.replicate 24 1 : List Byte).length < 25) := by
  decide +kernel

/-- A state with a command waiting whose every part is as the manual promises. -/
def running : State :=
  { flying with attention := [⟨4, 0x10⟩], pending := [.replyWindowExpiry 0, .attemptOutcome 0] }

theorem running_free : running.FreeBut [4] :=
  have e : flying.FreeBut [4] := freeBut _ [(4, sided made .inFlight 1)] rfl
  fun r h => e r h

theorem running_ok : running.PartsOk ∧ running.AttentionOk ∧ running.TopicsOk ∧ running.Agrees ∧ running.DueOk :=
  ⟨State.parts_of_check running_free (by decide +kernel), State.attention_of_check (by decide +kernel),
    State.topics_of_check running_free (by decide +kernel),
    State.agrees_of_check running_free (by decide +kernel),
    State.due_of_check running_free (by decide +kernel)⟩

theorem hyp_StepsKeepChannelsAndRows : running.PartsOk ∧ ∃ t, step running = .next t := ⟨running_ok.1, _, rfl⟩

theorem hyp_StepsKeepAttentionAndTopics :
    running.AttentionOk ∧ running.TopicsOk ∧ ∃ t, step running = .next t :=
  ⟨running_ok.2.1, running_ok.2.2.1, _, rfl⟩

theorem hyp_StepsKeepTheAgreement : running.Agrees ∧ running.DueOk ∧ ∃ t, step running = .next t :=
  ⟨running_ok.2.2.2.1, running_ok.2.2.2.2, _, rfl⟩

theorem hyp_StepsKeepARowsIdentity :
    step running = .next (nextOf (step running)) ∧ (running.row 4).state ≠ .free ∧
    ((nextOf (step running)).row 4).state ≠ .free := ⟨rfl, by decide +kernel, by decide +kernel⟩

end Sys2Proof.Tests
end

section
/-! PROOFS. Enqueue requests (R56 to R59): what a result of R57's table does to the row, the channel and the attention
list, the request as a whole built up channel by channel, and the table's lines. -/

namespace Sys2Proof

/-- A value that the replaced one was not stands in a collection as the new one or where it stood before. -/
theorem Quad.exists_get_set {α : Type} {o : Quad α} {c : Fin 4} {old y : α} (h : o.get c = old) (ne : old ≠ y)
    {x : α} : (∃ d, (o.set c x).get d = y) ↔ x = y ∨ ∃ d, o.get d = y := by
  constructor
  · rintro ⟨d, hd⟩
    by_cases e : c = d
    · subst e
      exact .inl (by simpa using hd)
    · exact .inr ⟨d, by simpa [e] using hd⟩
  · rintro (hx | ⟨d, hd⟩)
    · exact ⟨c, by simpa using hx⟩
    · have e : c ≠ d := fun e => ne (h.symm.trans (e ▸ hd))
      exact ⟨d, by simpa [e] using hd⟩

end Sys2Proof

namespace Sys2Proof.Machine

/-! ### The effect that goes with a result of R57's table -/

/-- What a result does to the row's side for its channel (R57, R58). -/
def Side.afterResult (d : Side) : ChannelOutcome → Side
  | .channelOff => { d with lastResult := .channelOff }
  | .renewed => { d with renewed := true }
  | .held => { d with sendState := .held }
  | .droppedFull => { d with lastResult := .droppedFull }
  | .queued => { d with sendState := .pending }
  | _ => d

/-- What a result does to its channel engine, for row `r` of class `cls` (R53, R57, R58). -/
def ChannelEngine.afterResult (ce : ChannelEngine) (cls : Fin 4) (r : RowId) : ChannelOutcome → ChannelEngine
  | .droppedFull => ce.countFullDrop
  | .queued => { ce with lists := ce.lists.set cls (ce.lists.get cls ++ [r]) }
  | _ => ce

/-- What a result does to the state: the operation that stands on the line of R57's table with that result. -/
def State.applyResult (s : State) (r : RowId) (c : Channel) : ChannelOutcome → State
  | .channelOff => s.setLastResult r c .channelOff
  | .renewed => s.updRow r fun row => row.updSide c fun d => { d with renewed := true }
  | .held => s.hold r c
  | .droppedFull => s.fullDrop r c
  | .queued => s.joinList r c
  | _ => s

/-- The request's result on a channel says which line of the table was taken, and so what it did. -/
theorem State.enqueueOn_fst (s : State) (src : Source) (r : RowId) (gap : Bool) (c : Channel) :
    (s.enqueueOn src r gap c).1 = s.applyResult r c (s.enqueueOn src r gap c).2 := by
  fun_cases State.enqueueOn s src r gap c <;> rfl

/-- Row r after a result on channel c. -/
theorem State.applyResult_row_self (s : State) (r : RowId) (c : Channel) (o : ChannelOutcome) :
    (s.applyResult r c o).row r =
      { (s.row r).updSide c fun d => d.afterResult o with
        heldMask := if o = .held then (s.row r).heldMask ||| maskOf c else (s.row r).heldMask } := by
  cases o <;>
    simp [State.applyResult, State.setLastResult, State.hold, State.fullDrop, State.joinList, Side.afterResult,
      Row.updSide]

/-- Channel c after a result on it. -/
theorem State.applyResult_ch_self (s : State) (r : RowId) (c : Channel) (o : ChannelOutcome) :
    (s.applyResult r c o).ch c = (s.ch c).afterResult (s.row r).cls r o := by
  cases o <;>
    simp [State.applyResult, State.setLastResult, State.hold, State.fullDrop, State.joinList,
      ChannelEngine.afterResult]

/-- A result on channel c leaves the other channels as they are. -/
theorem State.applyResult_ch_ne (s : State) (r : RowId) {c d : Channel} (h : c ≠ d) (o : ChannelOutcome) :
    (s.applyResult r c o).ch d = s.ch d := by
  cases o <;>
    simp [State.applyResult, State.setLastResult, State.hold, State.fullDrop, State.joinList, h]

/-- No result touches the interval unit. -/
theorem State.applyResult_iu (s : State) (r : RowId) (c : Channel) (o : ChannelOutcome) :
    (s.applyResult r c o).iu = s.iu := by
  cases o <;>
    simp [State.applyResult, State.setLastResult, State.hold, State.fullDrop, State.joinList]

/-- A channel joined to a mask is in it, besides those that were. -/
theorem inMask_or_maskOf (m : ChannelMask) (c d : Channel) :
    inMask (m ||| maskOf c) d = (inMask m d || decide (c = d)) := by
  have one : ∀ c d : Channel, inMask (maskOf c) d = decide (c = d) := by decide
  rw [← one c d]
  exact BitVec.getLsbD_or

/-! ### The attention list of a full drop -/

/-- A reason is one bit: a set holds all of it or nothing (R194). -/
theorem Reason.and_bit (m : ReasonSet) (q : Reason) : m &&& q.bit = 0 ∨ m &&& q.bit = q.bit := by
  obtain ⟨k, hk⟩ : ∃ k, q.bit = BitVec.twoPow 8 k := by
    cases q
    exacts [⟨0, rfl⟩, ⟨1, rfl⟩, ⟨2, rfl⟩, ⟨3, rfl⟩, ⟨4, rfl⟩, ⟨5, rfl⟩, ⟨6, rfl⟩, ⟨7, rfl⟩]
  rw [hk, BitVec.and_twoPow]
  split
  · exact .inr rfl
  · exact .inl rfl

/-- A reason joins the list as `attentionAfter` says of its one bit (R105). -/
theorem addReason_eq (l : List AttentionEntry) (r : RowId) (q : Reason) :
    addReason l r q = attentionAfter l r q.bit := by
  have bit : q.bit ≠ 0 := by cases q <;> decide
  have mem : (l.any fun e => e.row = r) = true ↔ r ∈ l.map fun e => e.row := by simp
  simp only [addReason, attentionAfter, if_neg bit, mem]
  split
  · refine List.map_congr_left fun e _ => ?_
    split <;> simp [*]
  · rfl

/-- Recording one reason is what `attentionAfter` says of the reasons the row's mask lets through (R105, R106). -/
theorem State.record_attention (s : State) (r : RowId) (q : Reason) :
    (s.record r q).attention = attentionAfter s.attention r ((s.row r).attentionMask &&& q.bit) := by
  obtain ⟨off, h⟩ | ⟨on, h⟩ := State.record_cases s r q
  · have none : (s.row r).attentionMask &&& q.bit = 0 := by simpa [hasReason] using off
    rw [h, none]
    rfl
  · have some : (s.row r).attentionMask &&& q.bit ≠ 0 := by simpa [hasReason] using on
    rw [h, (Reason.and_bit _ q).resolve_left some, ← addReason_eq]

/-- The same reasons recorded twice in one transaction stand once (R106). -/
theorem attentionAfter_twice (l : List AttentionEntry) (r : RowId) (m : ReasonSet) :
    attentionAfter (attentionAfter l r m) r m = attentionAfter l r m := by
  by_cases hm : m = 0
  · simp [attentionAfter, hm]
  by_cases hr : r ∈ l.map fun e => e.row
  · simp only [attentionAfter, if_neg hm, if_pos hr, List.map_map, Function.comp_def]
    refine List.map_congr_left fun e _ => ?_
    by_cases h : e.row = r <;> simp [h, BitVec.or_assoc]
  · have others : ∀ e ∈ l, e.row ≠ r := by simpa using hr
    have once : attentionAfter l r m = l ++ [{ row := r, reasons := m }] := by
      rw [attentionAfter, if_neg hm, if_neg hr]
    have listed : r ∈ (l ++ [({ row := r, reasons := m } : AttentionEntry)]).map fun e => e.row := by simp
    have same : l.map (fun e => { e with reasons := if e.row = r then e.reasons ||| m else e.reasons }) = l :=
      (List.map_congr_left (g := id) fun e he => by rw [if_neg (others e he)]; rfl).trans (List.map_id l)
    rw [once, attentionAfter, if_neg hm, if_pos listed, List.map_append, same]
    simp

/-- A full drop alone touches the attention list (R58). -/
theorem State.applyResult_attention (s : State) (r : RowId) (c : Channel) (o : ChannelOutcome) :
    (s.applyResult r c o).attention =
      if o = .droppedFull then attentionAfter s.attention r ((s.row r).attentionMask &&& 0x40) else s.attention := by
  cases o
  case droppedFull => simp [State.applyResult, State.setLastResult, State.fullDrop, State.record_attention, Reason.bit]
  all_goals rfl

/-! ### The request built up channel by channel -/

/-- State u is state s with the results o applied for row r, the channels with the result NOT_NAMED left as they were;
the gap and the refresh deadline (R59) are not yet started. -/
structure ResultsApplied (s : State) (r : RowId) (o : Quad ChannelOutcome) (u : State) : Prop where
  side : ∀ c, (u.row r).side.get c = ((s.row r).side.get c).afterResult (o.get c)
  held : ∀ c, inMask (u.row r).heldMask c = (inMask (s.row r).heldMask c || decide (o.get c = .held))
  row : { u.row r with side := (s.row r).side, heldMask := (s.row r).heldMask } = s.row r
  ch : ∀ c, u.ch c = (s.ch c).afterResult (s.row r).cls r (o.get c)
  dropped : (∃ c, o.get c = .droppedFull) →
    u.attention = attentionAfter s.attention r ((s.row r).attentionMask &&& 0x40)
  undropped : (¬ ∃ c, o.get c = .droppedFull) → u.attention = s.attention
  iu : u.iu = s.iu

namespace ResultsApplied

/-- With no channel named nothing has happened. -/
theorem start (s : State) (r : RowId) : ResultsApplied s r (Quad.all .notNamed) s where
  side c := by simp [Side.afterResult]
  held c := by simp
  row := rfl
  ch c := by simp [ChannelEngine.afterResult]
  dropped := by simp
  undropped _ := rfl
  iu := rfl

variable {s u : State} {r : RowId} {o : Quad ChannelOutcome} {c : Channel}

section
variable (a : ResultsApplied s r o u)
include a

theorem role : (u.row r).role = (s.row r).role := (congrArg Row.role a.row :)
theorem cls : (u.row r).cls = (s.row r).cls := (congrArg Row.cls a.row :)
theorem sourceMask : (u.row r).sourceMask = (s.row r).sourceMask := (congrArg Row.sourceMask a.row :)
theorem image : (u.row r).image = (s.row r).image := (congrArg Row.image a.row :)
theorem refreshPeriod : (u.row r).refreshPeriod = (s.row r).refreshPeriod := (congrArg Row.refreshPeriod a.row :)
theorem inhibitGap : (u.row r).inhibitGap = (s.row r).inhibitGap := (congrArg Row.inhibitGap a.row :)
theorem attentionMask : (u.row r).attentionMask = (s.row r).attentionMask := (congrArg Row.attentionMask a.row :)
theorem gapRunning : (u.row r).gapRunning = (s.row r).gapRunning := (congrArg Row.gapRunning a.row :)
theorem gap : (u.row r).gap = (s.row r).gap := (congrArg Row.gap a.row :)
theorem refresh : (u.row r).refresh = (s.row r).refresh := (congrArg Row.refresh a.row :)

end

/-- One more channel. -/
theorem result (a : ResultsApplied s r o u) (new : o.get c = .notNamed) (x : ChannelOutcome) :
    ResultsApplied s r (o.set c x) (u.applyResult r c x) where
  side d := by
    rw [State.applyResult_row_self]
    by_cases e : c = d
    · subst e
      simp [a.side, new, Side.afterResult]
    · simp [e, a.side]
  held d := by
    rw [State.applyResult_row_self]
    by_cases e : c = d
    · subst e
      by_cases h : x = .held <;> simp [h, a.held, new, inMask_or_maskOf]
    · by_cases h : x = .held <;> simp [h, e, a.held, inMask_or_maskOf]
  row := by
    rw [State.applyResult_row_self]
    exact a.row
  ch d := by
    by_cases e : c = d
    · subst e
      simp [State.applyResult_ch_self, a.ch, new, ChannelEngine.afterResult, a.cls]
    · simp [State.applyResult_ch_ne, e, a.ch]
  dropped h := by
    rw [State.applyResult_attention, a.attentionMask]
    by_cases before : ∃ d, o.get d = .droppedFull
    · rw [a.dropped before, attentionAfter_twice, ite_self]
    · have now : x = .droppedFull := ((Quad.exists_get_set new (by decide)).1 h).resolve_right before
      rw [if_pos now, a.undropped before]
  undropped h := by
    rw [Quad.exists_get_set new (by decide), not_or] at h
    rw [State.applyResult_attention, if_neg h.1, a.undropped h.2]
  iu := (State.applyResult_iu u r c x).trans a.iu

end ResultsApplied

/-! ### The table judged channel by channel, and the request as a whole -/

/-- A channel's result hangs on its engine and on the row's entry kind, image and side there alone. -/
theorem State.enqueueOn_snd_congr {s u : State} {r : RowId} {c : Channel} (src : Source) (gap : Bool)
    (ch : u.ch c = s.ch c) (kind : (u.row r).entryKind c = (s.row r).entryKind c)
    (image : (u.row r).image = (s.row r).image) (side : (u.row r).sendStateOn c = (s.row r).sendStateOn c) :
    (u.enqueueOn src r gap c).2 = (s.enqueueOn src r gap c).2 := by
  unfold State.enqueueOn
  rw [ch, kind, image, side]
  split
  · rfl
  · split
    · rfl
    · split
      · rfl
      · rfl
      · split <;> rfl
      · split
        · rfl
        · split <;> rfl

/-- The channels already served change nothing of the result of a new one. -/
theorem ResultsApplied.judge {s u : State} {r : RowId} {o : Quad ChannelOutcome} {c : Channel}
    (a : ResultsApplied s r o u) (new : o.get c = .notNamed) (src : Source) (gap : Bool) :
    (u.enqueueOn src r gap c).2 = (s.enqueueOn src r gap c).2 := by
  have side : (u.row r).side.get c = (s.row r).side.get c := by rw [a.side, new]; rfl
  apply State.enqueueOn_snd_congr
  · rw [a.ch, new]; rfl
  · rw [Row.entryKind, Row.entryKind, a.role, a.sourceMask]
  · exact a.image
  · rw [Row.sendStateOn, Row.sendStateOn, side]

/-- Channels named one after the other: each gets the result that the table gives it in the state as it was before all
of them. -/
theorem ResultsApplied.fold {s u : State} {r : RowId} {o : Quad ChannelOutcome} (a : ResultsApplied s r o u)
    (src : Source) (gap : Bool) (mask : ChannelMask) {l : List Channel} (distinct : l.Nodup)
    (new : ∀ c ∈ l, o.get c = .notNamed) :
    let done := l.foldl (State.enqueueNext src r gap mask) (u, o)
    ResultsApplied s r done.2 done.1 ∧
      ∀ c, done.2.get c = if c ∈ l ∧ inMask mask c = true then (s.enqueueOn src r gap c).2 else o.get c := by
  induction l generalizing u o with
  | nil => exact ⟨a, fun c => by simp⟩
  | cons c l ih =>
    obtain ⟨fresh, distinct⟩ := List.nodup_cons.1 distinct
    have newHead : o.get c = .notNamed := new c List.mem_cons_self
    have newTail : ∀ d ∈ l, o.get d = .notNamed := fun d hd => new d (List.mem_cons_of_mem c hd)
    rw [List.foldl_cons, State.enqueueNext, State.enqueueOn_fst, a.judge newHead]
    by_cases named : inMask mask c = true
    · rw [if_pos named]
      have others : ∀ d ∈ l, (o.set c (s.enqueueOn src r gap c).2).get d = .notNamed := fun d hd => by
        have e : c ≠ d := fun e => fresh (e ▸ hd)
        rw [Quad.get_set_ne o _ e, newTail d hd]
      obtain ⟨applied, results⟩ := ih (a.result newHead _) distinct others
      refine ⟨applied, fun d => (results d).trans ?_⟩
      by_cases e : c = d
      · subst e
        simp [fresh, named]
      · simp [e, Ne.symm e]
    · rw [if_neg named]
      obtain ⟨applied, results⟩ := ih a distinct newTail
      refine ⟨applied, fun d => (results d).trans ?_⟩
      by_cases e : c = d
      · subst e
        simp [named]
      · simp [Ne.symm e]

/-! ### The gap and the refresh deadline of a request that made a channel PENDING (R59) -/

/-- The first half of R59: the gap runs. -/
def State.startGap (s : State) (r : RowId) : State :=
  if (s.row r).inhibitGap = 0 then s
  else (s.updRow r fun row => { row with gapRunning := true }).startDeadline r .gap

/-- The second half of R59: the refresh deadline starts afresh. -/
def State.startRefresh (s : State) (r : RowId) : State :=
  if (s.row r).role = .produced ∧ (s.row r).refreshPeriod ≠ 0 then s.startDeadline r .refresh else s

theorem State.afterQueuing_eq (s : State) (r : RowId) : s.afterQueuing r = (s.startGap r).startRefresh r := rfl

/-- What R59 does to the row's gap. -/
def Row.startGap (row : Row) : Row :=
  if row.inhibitGap = 0 then row
  else { row with gapRunning := true, gap := startedDeadline row.inhibitGap.toNat }

/-- What R59 does to the row's refresh deadline. -/
def Row.startRefresh (row : Row) : Row :=
  if row.role = .produced ∧ row.refreshPeriod ≠ 0 then
    { row with refresh := startedDeadline row.refreshPeriod.toNat }
  else row

@[simp] theorem State.startGap_row_self (s : State) (r : RowId) : (s.startGap r).row r = (s.row r).startGap := by
  unfold State.startGap Row.startGap
  split <;> simp [Row.withDeadline, Row.deadlineLength]

@[simp] theorem State.startRefresh_row_self (s : State) (r : RowId) :
    (s.startRefresh r).row r = (s.row r).startRefresh := by
  unfold State.startRefresh Row.startRefresh
  split <;> simp [Row.withDeadline, Row.deadlineLength]

/-- Starting the gap leaves what the second half of R59 reads. -/
@[simp] theorem Row.startGap_role (row : Row) : row.startGap.role = row.role := by
  unfold Row.startGap; split <;> rfl
@[simp] theorem Row.startGap_refreshPeriod (row : Row) : row.startGap.refreshPeriod = row.refreshPeriod := by
  unfold Row.startGap; split <;> rfl

/-- A withdrawn deadline, as the interval unit sees it (R88). -/
theorem State.withdraw_iu (s : State) (r : RowId) (k : DeadlineKind) :
    (s.withdraw r k).iu = s.iu.less { row := r, kind := k } := by
  simp only [State.withdraw, IntervalUnit.less]
  congr 2
  funext p
  split <;> simp [*]

/-- A request that made a channel PENDING: row r afterwards. -/
theorem State.afterQueuing_row_self (s : State) (r : RowId) :
    (s.afterQueuing r).row r = (s.row r).startGap.startRefresh := by
  simp [State.afterQueuing_eq]

/-- A request that made a channel PENDING: the interval unit afterwards. -/
theorem State.afterQueuing_iu (s : State) (r : RowId) :
    (s.afterQueuing r).iu =
      (let iu := if (s.row r).inhibitGap ≠ 0 then s.iu.less { row := r, kind := .gap } else s.iu
       if (s.row r).role = .produced ∧ (s.row r).refreshPeriod ≠ 0 then iu.less { row := r, kind := .refresh }
       else iu) := by
  have gap : (s.startGap r).iu =
      if (s.row r).inhibitGap ≠ 0 then s.iu.less { row := r, kind := .gap } else s.iu := by
    unfold State.startGap
    split <;> simp [State.withdraw_iu, *]
  have refresh (t : State) : (t.startRefresh r).iu =
      if (t.row r).role = .produced ∧ (t.row r).refreshPeriod ≠ 0 then t.iu.less { row := r, kind := .refresh }
      else t.iu := by
    unfold State.startRefresh
    split <;> simp [State.withdraw_iu]
  rw [State.afterQueuing_eq, refresh, gap, State.startGap_row_self, Row.startGap_role, Row.startGap_refreshPeriod]

@[simp] theorem State.afterQueuing_ch (s : State) (r : RowId) (c : Channel) : (s.afterQueuing r).ch c = s.ch c := by
  simp only [State.afterQueuing_eq, State.startRefresh, State.startGap]
  split <;> split <;> rfl

@[simp] theorem State.afterQueuing_attention (s : State) (r : RowId) :
    (s.afterQueuing r).attention = s.attention := by
  simp only [State.afterQueuing_eq, State.startRefresh, State.startGap]
  split <;> split <;> rfl

theorem anyQueued_iff (o : Quad ChannelOutcome) : anyQueued o = true ↔ ∃ c, o.get c = .queued := by
  simp [anyQueued, Fin.exists_fin_succ, Quad.get, or_assoc]

theorem Row.inService_iff (row : Row) : row.inService = true ↔ row.serves := by
  simp [Row.inService, Row.serves, or_assoc]

/-- The whole request of a row in service: the results of the table on the named channels, and R59 once where one of
them is QUEUED. -/
theorem State.enqueue_of_serves {s : State} {r : RowId} (serves : (s.row r).serves) (src : Source)
    (mask : ChannelMask) :
    ∃ t o, ResultsApplied s r o t ∧
      (∀ c, o.get c = if inMask mask c = true then (s.enqueueOn src r (s.row r).gapRunning c).2 else .notNamed) ∧
      s.enqueue src r mask = (if anyQueued o then t.afterQueuing r else t, o) := by
  obtain ⟨applied, results⟩ := (ResultsApplied.start s r).fold src (s.row r).gapRunning mask
    (l := allChannels) (by decide) (fun c _ => Quad.get_all _ c)
  refine ⟨_, _, applied, fun c => ?_, ?_⟩
  · simp [results, mem_allChannels c]
  · rw [State.enqueue, if_pos ((Row.inService_iff _).2 serves)]
    dsimp only
    split <;> rfl

/-! ### The lines of R57's table -/

theorem ChannelEngine.refusesRequests_iff (ce : ChannelEngine) :
    ce.refusesRequests = true ↔ ce.state = .offline ∨ .removal ∈ ce.requests := by
  simp [ChannelEngine.refusesRequests, ChannelEngine.removalWaits]

theorem Row.entryKind_publish_iff (row : Row) (c : Channel) :
    row.entryKind c = .publish ↔ ¬ (row.role = .consumed ∧ inMask row.sourceMask c = true) := by
  simp [Row.entryKind]

section
variable {s : State} {src : Source} {r : RowId} {gap : Bool} {c : Channel}

theorem State.enqueueOn_channelOff (off : (s.ch c).state = .offline ∨ .removal ∈ (s.ch c).requests) :
    (s.enqueueOn src r gap c).2 = .channelOff := by
  simp [State.enqueueOn, (s.ch c).refusesRequests_iff.2 off]

theorem State.enqueueOn_noImage (on : ¬ ((s.ch c).state = .offline ∨ .removal ∈ (s.ch c).requests))
    (publish : ¬ ((s.row r).role = .consumed ∧ inMask (s.row r).sourceMask c = true))
    (image : (s.row r).image = none) :
    (s.enqueueOn src r gap c).2 = .noImage := by
  rw [← ChannelEngine.refusesRequests_iff] at on
  simp [State.enqueueOn, on, (s.row r).entryKind_publish_iff c |>.2 publish, image]

/-- Past the first two lines of the table. -/
theorem State.enqueueOn_past (on : ¬ ((s.ch c).state = .offline ∨ .removal ∈ (s.ch c).requests))
    (ready : ((s.row r).role = .consumed ∧ inMask (s.row r).sourceMask c = true) ∨ (s.row r).image ≠ none) :
    (s.ch c).refusesRequests = false ∧ ¬ ((s.row r).entryKind c = .publish ∧ (s.row r).image = none) := by
  rw [← ChannelEngine.refusesRequests_iff] at on
  rw [Row.entryKind_publish_iff]
  exact ⟨by simpa using on, fun h => ready.elim h.1 fun image => image h.2⟩

variable (on : ¬ ((s.ch c).state = .offline ∨ .removal ∈ (s.ch c).requests))
  (ready : ((s.row r).role = .consumed ∧ inMask (s.row r).sourceMask c = true) ∨ (s.row r).image ≠ none)
include on ready

theorem State.enqueueOn_already
    (listed : ((s.row r).side.get c).sendState = .held ∨ ((s.row r).side.get c).sendState = .pending ∨
      (((s.row r).side.get c).sendState = .inFlight ∧ src ≠ .post)) :
    (s.enqueueOn src r gap c).2 = .already := by
  obtain ⟨on, imaged⟩ := State.enqueueOn_past on ready
  rw [State.enqueueOn, on, if_neg imaged, Row.sendStateOn]
  obtain held | pending | ⟨flying, other⟩ := listed
  · simp [held]
  · simp [pending]
  · simp [flying, other]

theorem State.enqueueOn_renewed (flying : ((s.row r).side.get c).sendState = .inFlight) (post : src = .post) :
    (s.enqueueOn src r gap c).2 = .renewed := by
  obtain ⟨on, imaged⟩ := State.enqueueOn_past on ready
  rw [State.enqueueOn, on, if_neg imaged, Row.sendStateOn]
  simp [flying, post]

theorem State.enqueueOn_held (idle : ((s.row r).side.get c).sendState = .idle) (running : gap = true) :
    (s.enqueueOn src r gap c).2 = .held := by
  obtain ⟨on, imaged⟩ := State.enqueueOn_past on ready
  rw [State.enqueueOn, on, if_neg imaged, Row.sendStateOn]
  simp [idle, running]

theorem State.enqueueOn_droppedFull (idle : ((s.row r).side.get c).sendState = .idle) (still : gap = false)
    (full : 24 ≤ (s.ch c).reservationCount) : (s.enqueueOn src r gap c).2 = .droppedFull := by
  obtain ⟨on, imaged⟩ := State.enqueueOn_past on ready
  rw [State.enqueueOn, on, if_neg imaged, Row.sendStateOn]
  simp [idle, still, Config.reservations, full]

theorem State.enqueueOn_queued (idle : ((s.row r).side.get c).sendState = .idle) (still : gap = false)
    (room : (s.ch c).reservationCount < 24) : (s.enqueueOn src r gap c).2 = .queued := by
  obtain ⟨on, imaged⟩ := State.enqueueOn_past on ready
  rw [State.enqueueOn, on, if_neg imaged, Row.sendStateOn]
  simp [idle, still, Config.reservations, Nat.not_le.2 room]

end

/-- The reservation count, as R54 words it. -/
theorem ChannelEngine.reservationCount_eq (ce : ChannelEngine) :
    ce.reservationCount = ce.lists.q0.length + ce.lists.q1.length + ce.lists.q2.length + ce.lists.q3.length +
      (if ce.inFlight = none then 0 else 1) := by
  cases h : ce.inFlight <;> simp [ChannelEngine.reservationCount, ChannelEngine.pendingCount, h]

/-- A count of 16 bits stops at its maximum (spec/00 section 3.3). -/
theorem satInc_toNat (x : Word) : (satInc x).toNat = min 65535 (x.toNat + 1) := by
  unfold satInc
  split
  · next full => simp [full]
  · next room =>
    have below : x.toNat ≠ 65535 := fun h => room (BitVec.eq_of_toNat_eq (by simpa using h))
    have := x.isLt
    rw [BitVec.toNat_add, show (1 : Word).toNat = 1 from rfl]
    omega

/-! ### The state after the whole request -/

/-- The results applied to the channels, followed by R59 where one of them is QUEUED. -/
def State.settle (t : State) (r : RowId) (o : Quad ChannelOutcome) : State :=
  if anyQueued o then t.afterQueuing r else t

section
variable {s t : State} {r : RowId} {o : Quad ChannelOutcome}

@[simp] theorem State.settle_ch (c : Channel) : (t.settle r o).ch c = t.ch c := by
  unfold State.settle; split <;> simp

@[simp] theorem State.settle_attention : (t.settle r o).attention = t.attention := by
  unfold State.settle; split <;> simp

theorem State.settle_of_queued (h : ∃ c, o.get c = .queued) : t.settle r o = t.afterQueuing r :=
  if_pos ((anyQueued_iff o).2 h)

theorem State.settle_of_not_queued (h : ¬ ∃ c, o.get c = .queued) : t.settle r o = t :=
  if_neg (mt (anyQueued_iff o).1 h)

/-- The row with the fields that an enqueue request may change put back as they were in another row. -/
def Row.restored (row old : Row) : Row :=
  { row with
    side := old.side, heldMask := old.heldMask, gapRunning := old.gapRunning, gap := old.gap, refresh := old.refresh }

/-- But for the gap and the refresh deadline the row is as the results left it. -/
theorem State.settle_row (t : State) (r : RowId) (o : Quad ChannelOutcome) :
    { (t.settle r o).row r with
      gapRunning := (t.row r).gapRunning, gap := (t.row r).gap, refresh := (t.row r).refresh } = t.row r := by
  unfold State.settle
  split
  · rw [State.afterQueuing_row_self]
    unfold Row.startRefresh Row.startGap
    split <;> split <;> rfl
  · rfl

namespace ResultsApplied
variable (a : ResultsApplied s r o t)
include a

/-- The line of the table that gave a result, read in the state after the whole request. -/
theorem settle_line {c : Channel} {x : ChannelOutcome} (h : o.get c = x) :
    o.get c = x ∧ ((t.settle r o).row r).side.get c = ((s.row r).side.get c).afterResult x ∧
      (t.settle r o).ch c = (s.ch c).afterResult (s.row r).cls r x := by
  have side : ((t.settle r o).row r).side = (t.row r).side := (congrArg Row.side (State.settle_row t r o) :)
  exact ⟨h, by rw [side, a.side, h], by rw [State.settle_ch, a.ch, h]⟩

theorem settle_held (c : Channel) :
    inMask ((t.settle r o).row r).heldMask c = (inMask (s.row r).heldMask c || decide (o.get c = .held)) := by
  have mask : ((t.settle r o).row r).heldMask = (t.row r).heldMask :=
    (congrArg Row.heldMask (State.settle_row t r o) :)
  rw [mask, a.held]

/-- A request changes no field of the row besides those that `Row.restored` names. -/
theorem settle_restored : ((t.settle r o).row r).restored (s.row r) = s.row r :=
  calc ((t.settle r o).row r).restored (s.row r)
    _ = (t.row r).restored (s.row r) := (congrArg (Row.restored · (s.row r)) (State.settle_row t r o) :)
    _ = s.row r := (congrArg (Row.restored · (s.row r)) a.row :)

theorem settle_gap (h : ∃ c, o.get c = .queued) (length : (s.row r).inhibitGap ≠ 0) :
    ((t.settle r o).row r).gapRunning = true ∧
      ((t.settle r o).row r).gap = startedDeadline (s.row r).inhibitGap.toNat := by
  rw [State.settle_of_queued h, State.afterQueuing_row_self, ← a.inhibitGap]
  rw [← a.inhibitGap] at length
  rw [Row.startRefresh, Row.startGap, if_neg length]
  split <;> exact ⟨rfl, rfl⟩

theorem settle_gap_kept (h : ¬ (∃ c, o.get c = .queued) ∨ (s.row r).inhibitGap = 0) :
    ((t.settle r o).row r).gapRunning = (s.row r).gapRunning ∧ ((t.settle r o).row r).gap = (s.row r).gap := by
  rw [← a.gapRunning, ← a.gap]
  by_cases queued : ∃ c, o.get c = .queued
  · have none : (t.row r).inhibitGap = 0 := a.inhibitGap.trans (h.resolve_left (not_not_intro queued))
    rw [State.settle_of_queued queued, State.afterQueuing_row_self, Row.startRefresh, Row.startGap, if_pos none]
    split <;> exact ⟨rfl, rfl⟩
  · rw [State.settle_of_not_queued queued]
    exact ⟨rfl, rfl⟩

theorem settle_refresh (h : ∃ c, o.get c = .queued) (produced : (s.row r).role = .produced)
    (length : (s.row r).refreshPeriod ≠ 0) :
    ((t.settle r o).row r).refresh = startedDeadline (s.row r).refreshPeriod.toNat := by
  rw [State.settle_of_queued h, State.afterQueuing_row_self, Row.startRefresh]
  simp only [Row.startGap_role, Row.startGap_refreshPeriod, a.role, a.refreshPeriod]
  rw [if_pos ⟨produced, length⟩]

theorem settle_refresh_kept
    (h : ¬ (∃ c, o.get c = .queued) ∨ (s.row r).role = .consumed ∨ (s.row r).refreshPeriod = 0) :
    ((t.settle r o).row r).refresh = (s.row r).refresh := by
  rw [← a.refresh]
  by_cases queued : ∃ c, o.get c = .queued
  · have none : ¬ ((s.row r).role = .produced ∧ (s.row r).refreshPeriod ≠ 0) := by
      rintro ⟨produced, length⟩
      obtain consumed | zero := h.resolve_left (not_not_intro queued)
      · exact absurd (consumed.symm.trans produced) (by decide)
      · exact length zero
    rw [State.settle_of_queued queued, State.afterQueuing_row_self, Row.startRefresh]
    simp only [Row.startGap_role, Row.startGap_refreshPeriod, a.role, a.refreshPeriod]
    rw [if_neg none, Row.startGap]
    split <;> rfl
  · rw [State.settle_of_not_queued queued]

theorem settle_iu (h : ∃ c, o.get c = .queued) :
    (t.settle r o).iu =
      (let iu := if (s.row r).inhibitGap ≠ 0 then s.iu.less { row := r, kind := .gap } else s.iu
       if (s.row r).role = .produced ∧ (s.row r).refreshPeriod ≠ 0 then iu.less { row := r, kind := .refresh }
       else iu) := by
  rw [State.settle_of_queued h, State.afterQueuing_iu, a.iu, a.inhibitGap, a.role, a.refreshPeriod]

theorem settle_iu_kept (h : ¬ ∃ c, o.get c = .queued) : (t.settle r o).iu = s.iu := by
  rw [State.settle_of_not_queued h, a.iu]

end ResultsApplied
end

/-- The parts of the state that no enqueue request touches. -/
theorem EnqueueFrame.rest {r : RowId} {s u : State} (f : EnqueueFrame r s u) :
    { u with rows := s.rows, channels := s.channels, iu := s.iu, attention := s.attention } = s := by
  rw [f.topicIndex, f.served, f.turn, f.attnEnable, f.cu, f.port, f.resetCause, f.pending]

/-- Settles O32: the request is its results on the four channels (`State.enqueue_of_serves`), each the first matching
line of the table in the state as the request found it, and then R59. -/
theorem enqueueFollowsTheTable : Obligations.EnqueueFollowsTheTable := by
  intro s src r mask row side off recalls rows
  by_cases serves : row.serves
  case neg =>
    have out : ¬ row.inService = true := mt row.inService_iff.1 serves
    exact ⟨s, _, if_neg out, fun _ => ⟨rfl, Quad.get_all _⟩, fun h => absurd h serves⟩
  obtain ⟨t, o, a, results, request⟩ := State.enqueue_of_serves serves src mask
  have frame : EnqueueFrame r s (t.settle r o) := by
    have whole := State.enqueue_frame s src r mask
    rwa [request] at whole
  refine ⟨t.settle r o, o, request, fun h => absurd serves h, fun _ =>
    ⟨fun c unnamed => a.settle_line (by simp [results, unnamed]), fun c named => ?_, a.settle_held, a.settle_restored,
      a.settle_gap, a.settle_gap_kept, a.settle_refresh, a.settle_refresh_kept, a.settle_iu_kept, a.settle_iu,
      fun h => State.settle_attention.trans (a.dropped h), fun h => State.settle_attention.trans (a.undropped h),
      frame.rows, frame.rest⟩⟩
  have count : (s.ch c).reservationCount = rows c := ChannelEngine.reservationCount_eq _
  have line {x : ChannelOutcome} (h : (s.enqueueOn src r row.gapRunning c).2 = x) :=
    a.settle_line (show o.get c = x by rw [results, if_pos named, h])
  refine ⟨fun h => line (State.enqueueOn_channelOff h), fun on publish none =>
    line (State.enqueueOn_noImage on publish none), fun on ready => ⟨?already, ?renewed, ?held, ?dropped, ?queued⟩⟩
  case already => exact fun h => line (State.enqueueOn_already on ready h)
  case renewed => exact fun flying post => line (State.enqueueOn_renewed on ready flying post)
  case held => exact fun idle running => line (State.enqueueOn_held on ready idle running)
  case queued => exact fun idle still room => line (State.enqueueOn_queued on ready idle still (count ▸ room))
  case dropped =>
    intro idle still full
    obtain ⟨dropped, last, ch⟩ := line (State.enqueueOn_droppedFull on ready idle still (count ▸ full))
    rw [ch]
    exact ⟨dropped, last, satInc_toNat _, rfl⟩

end Sys2Proof.Machine
end

section
/-! PROOFS. The attention unit at the port (R112 to R117): what a written word leaves of the port, the words of GCTRL,
CHnEVENT and CHnEVENTEN, and ATTN with its pin. -/

namespace Sys2Proof.Machine

/-! ### Bits of words -/

/-- A formed word takes the bits of the mask from the data and the others from the word that stood (R185). -/
theorem bitAt_formed (current data mask : Word) (k : Nat) :
    bitAt (formed current data mask) k = if bitAt mask k then bitAt data k else bitAt current k := by
  simp only [bitAt, formed, BitVec.getLsbD_or, BitVec.getLsbD_and, BitVec.getLsbD_not]
  by_cases masked : mask.getLsbD k = true
  · simp [masked]
  · simpa [masked] using BitVec.lt_of_getLsbD

/-- Two sets of bits meet exactly where some bit is in both. -/
theorem and_bne_zero_iff {n : Nat} (x y : BitVec n) :
    (x &&& y != 0) = true ↔ ∃ k, k < n ∧ x.getLsbD k = true ∧ y.getLsbD k = true := by
  rw [bne_iff_ne, ne_eq, BitVec.eq_of_getLsbD_eq_iff]
  simp

/-! ### A written word and the port -/

theorem Port.addressOut_eq_lead (p : Port) : p.addressOut = p.lead := by
  unfold Port.addressOut Port.lead
  cases p.phase <;> rfl

/-- What a written word leaves of the port hangs on the port's phase before it alone. -/
theorem Port.lead_congr {p q : Port} (h : p.phase = q.phase) : p.lead = q.lead := by
  simp only [Port.lead, h]

@[simp] theorem Port.written_portError (p : Port) (op : PortOp) (page : Option Page) (addr : Byte) :
    (p.written op page addr).portError = p.portError := by
  unfold Port.written
  split <;> rfl

theorem State.ch_withPort (s : State) (p : Port) (c : Channel) : ({ s with port := p } : State).ch c = s.ch c := rfl

section
variable {s : State} {op : PortOp} {page : Option Page} {addr : Byte}

/-- The next word of an open transaction is on its operation and page. -/
theorem State.wordAt_of_open (h : s.wordOpen op page addr) : s.wordAt addr = some (op, page) := by
  unfold State.wordAt
  obtain h | h := h <;> simp [h]

theorem State.not_discarding_of_open (h : s.wordOpen op page addr) : s.port.phase ≠ .discarding := by
  obtain h | h := h <;> simp [h]

/-- A transaction open on a page of the kind a word command asks for takes that command's word. -/
theorem State.wordOn_of_open {page : Page} (h : s.wordOpen op (some page) addr) {p : Page → Bool}
    (kind : p page = true) (f : State → State) : s.wordOn p f = f s := by
  refine if_pos ?_
  unfold State.openOn
  obtain h | h := h <;> simpa [h] using kind

/-- A written word whose owner leaves the transaction where it stands: what the owner makes of the word, with the port
moved on (R184, R185). -/
theorem State.portWrite_of_open (writes : op.writes = true) (h : s.wordOpen op page addr) (data mask : Word)
    {t : State} (owner : s.writeWord page addr.toNat data (wordMask op mask) = t)
    (kept : t.port.phase = s.port.phase) :
    s.portWrite addr data mask = { t with port := t.port.written op page addr } := by
  have goesOn : t.port.phase ≠ .discarding := kept ▸ State.not_discarding_of_open h
  unfold State.portWrite
  rw [State.wordAt_of_open h, Port.addressOut_eq_lead, ← Port.lead_congr kept]
  cases op with
  | write =>
    have owner : s.writeWord page addr.toNat data (BitVec.allOnes 16) = t := owner
    simp only [owner, State.wordDone, State.portTo, if_neg goesOn]
    rfl
  | maskedWrite =>
    have owner : s.writeWord page addr.toNat data mask = t := owner
    simp only [owner, State.wordDone, State.portTo, if_neg goesOn]
    rfl
  | read => cases writes
  | compare => cases writes

end

theorem Page.isChannel_of_ne {page : Page} (h : page ≠ .global) : page.isChannel = true := by
  cases page with
  | global => exact absurd rfl h
  | ch c => rfl
  | allChannels => rfl

/-! ### A change of every channel of a page -/

/-- Every channel engine that a page stands for replaced by its image (R188). -/
def State.onPage (s : State) (page : Page) (f : ChannelEngine → ChannelEngine) : State :=
  { s with channels := Quad.tabulate fun c => if page.covers c then f (s.ch c) else s.ch c }

@[simp] theorem State.onPage_ch (s : State) (page : Page) (f : ChannelEngine → ChannelEngine) (c : Channel) :
    (s.onPage page f).ch c = if page.covers c then f (s.ch c) else s.ch c := by
  simp [State.onPage, State.ch]

/-- A change of one channel is the change of the page that stands for it. -/
theorem State.updCh_eq_onPage (s : State) (c : Channel) (f : ChannelEngine → ChannelEngine) :
    s.updCh c f = s.onPage (.ch c) f := by
  have engine (d : Channel) : (s.updCh c f).ch d = (s.onPage (.ch c) f).ch d := by
    by_cases same : c = d
    · subst same
      simp [Page.covers]
    · simp [Page.covers, same]
  have channels : (s.updCh c f).channels = (s.onPage (.ch c) f).channels := Quad.ext_get engine
  exact congrArg (fun q => { s with channels := q }) channels

/-- The four channels changed one after the other are the change of the page ALL_CHANNELS. -/
theorem State.foldl_updCh_eq_onPage (s : State) (f : ChannelEngine → ChannelEngine) :
    allChannels.foldl (fun s c => s.updCh c f) s = s.onPage .allChannels f := rfl

/-- A change of channels that keeps their arrival queues and requests leaves the same requesters waiting. -/
theorem State.onPage_waits (s : State) (page : Page) {f : ChannelEngine → ChannelEngine}
    (arrivals : ∀ ce, (f ce).arrivalQueue = ce.arrivalQueue) (requests : ∀ ce, (f ce).requests = ce.requests)
    (q : Requester) : (s.onPage page f).waits q = s.waits q := by
  cases q with
  | cu => rfl
  | iu => rfl
  | rx c => simp only [State.waits, State.onPage_ch]; split <;> simp only [arrivals]
  | tx c => simp only [State.waits, State.onPage_ch]; split <;> simp only [requests]

/-! ### CHnEVENT (R114) -/

/-- A word written at CHnEVENT sets PORT_ERROR and nothing else. -/
theorem State.writeWord_event (s : State) {page : Page} (h : page ≠ .global) (data mask : Word) :
    s.writeWord (some page) 0x06 data mask = s.setPortError := by
  cases page with
  | global => exact absurd rfl h
  | ch c => rfl
  | allChannels => rfl

/-- Settles O8: CHnEVENT is no writable word, so its owner only sets PORT_ERROR. -/
theorem eventWordIsNotWritten : Obligations.EventWordIsNotWritten := by
  intro s op page data mask writes channel isOpen
  exact ⟨_, congrArg Host.Outcome.next (State.portWrite_of_open writes isOpen data mask
      (State.writeWord_event s channel data (wordMask op mask)) rfl),
    Port.written_portError _ op (some page) 0x06, fun _ => rfl, rfl⟩

/-! ### ATTN_ENABLE (R117, R190) -/

/-- A word at GCTRL that does not carry the strobe writes ATTN_ENABLE alone. -/
theorem State.writeWord_gctrl (s : State) (data mask : Word) :
    s.writeWord (some .global) 0x01 (data &&& 0x7FFF) mask =
      { s with attnEnable := if bitAt mask 0 then bitAt data 0 else s.attnEnable } := by
  have noStrobe : bitAt (formed (bitWord 0 s.attnEnable) (data &&& 0x7FFF) mask) 15 = false := by
    have stood : bitAt (bitWord 0 s.attnEnable) 15 = false := by cases s.attnEnable <;> rfl
    have masked : bitAt (data &&& 0x7FFF) 15 = false := by simp [bitAt]
    rw [bitAt_formed, stood, masked, ite_self]
  have enable : bitAt (formed (bitWord 0 s.attnEnable) (data &&& 0x7FFF) mask) 0 =
      if bitAt mask 0 then bitAt data 0 else s.attnEnable := by
    have stood : bitAt (bitWord 0 s.attnEnable) 0 = s.attnEnable := by cases s.attnEnable <;> rfl
    have masked : bitAt (data &&& 0x7FFF) 0 = bitAt data 0 := by simp [bitAt]
    rw [bitAt_formed, stood, masked]
  rw [← enable]
  simp only [State.writeWord, State.writeGlobal, if_true, noStrobe]
  rfl

/-! ### The event enables (R115) -/

/-- A channel engine with the nine enables of a CHnEVENTEN word taken under a mask. -/
def ChannelEngine.takeEnables (data mask : Word) (ce : ChannelEngine) : ChannelEngine :=
  { ce with eventEnable := (formed (ce.eventEnable.setWidth 16) data mask).setWidth 9 }

theorem ChannelEngine.takeEnables_bit (ce : ChannelEngine) (data mask : Word) {k : Nat} (h : k < 9) :
    (ce.takeEnables data mask).eventEnable.getLsbD k =
      if mask.getLsbD k then data.getLsbD k else ce.eventEnable.getLsbD k := by
  have low (w : Word) : (w.setWidth 9).getLsbD k = bitAt w k := by simp [bitAt, h]
  have wide : bitAt (ce.eventEnable.setWidth 16) k = ce.eventEnable.getLsbD k := by
    simp [bitAt, h.trans (by decide : 9 < 16)]
  rw [← wide]
  exact (low _).trans (bitAt_formed _ data mask k)

/-- A word written at CHnEVENTEN is taken by every channel of the page, in any state, and by nothing else. -/
theorem State.writeWord_eventEnable (s : State) {page : Page} (h : page ≠ .global) (data mask : Word) :
    s.writeWord (some page) 0x07 data mask = s.onPage page (ChannelEngine.takeEnables data mask) := by
  have same : s.presenting (fun s => s.onPage page (ChannelEngine.takeEnables data mask)) =
      s.onPage page (ChannelEngine.takeEnables data mask) :=
    State.presenting_of_same fun q waits => by
      rwa [State.onPage_waits s page (by intro; rfl) (by intro; rfl)] at waits
  rw [← same]
  cases page with
  | global => exact absurd rfl h
  | ch c =>
    exact congrArg s.presenting (funext fun s => State.updCh_eq_onPage s c (ChannelEngine.takeEnables data mask))
  | allChannels =>
    exact congrArg s.presenting (funext fun s => State.foldl_updCh_eq_onPage s (ChannelEngine.takeEnables data mask))

/-! ### ATTN (R116, R193) -/

theorem ChannelEngine.enabledEvent_iff (ce : ChannelEngine) :
    ce.enabledEvent = true ↔ ∃ k, k < 9 ∧ ce.event.getLsbD k = true ∧ ce.eventEnable.getLsbD k = true :=
  and_bne_zero_iff ce.event ce.eventEnable

/-- ATTN is asserted while one of its two sources asks for it. -/
theorem State.attn_iff (s : State) :
    s.attn = true ↔ (s.attnEnable = true ∧ s.attention ≠ []) ∨ ∃ c, (s.ch c).enabledEvent = true := by
  simp [State.attn, mem_allChannels]

/-- Settles O12: both words are taken by their owners as they stand (`State.writeWord_gctrl`,
`State.writeWord_eventEnable`), and ATTN is read from the state. -/
theorem enablesGateAttn : Obligations.EnablesGateAttn := by
  refine ⟨?attnEnable, ?eventEnable, ?attn, ?pin⟩
  case attnEnable =>
    intro s op data mask writes isOpen
    have taken := State.portWrite_of_open writes isOpen (data &&& 0x7FFF) mask
      (State.writeWord_gctrl s data (wordMask op mask)) rfl
    exact ⟨_, congrArg Host.Outcome.next ((State.wordOn_of_open isOpen rfl _).trans taken), rfl, rfl, rfl⟩
  case eventEnable =>
    intro s op page data mask writes channel isOpen
    have taken := State.portWrite_of_open writes isOpen data mask
      (State.writeWord_eventEnable s channel data (wordMask op mask)) rfl
    refine ⟨_, congrArg Host.Outcome.next
      ((State.wordOn_of_open isOpen (Page.isChannel_of_ne channel) _).trans taken), rfl, rfl, fun c => ?_⟩
    rw [State.ch_withPort, State.onPage_ch]
    by_cases covered : page.covers c = true
    · simp only [covered, if_true, true_and]
      exact ⟨rfl, fun k nine => ChannelEngine.takeEnables_bit _ data _ nine⟩
    · simp [covered]
  case attn =>
    intro s
    simp only [State.attn_iff, ChannelEngine.enabledEvent_iff]
  case pin =>
    intro s
    rw [State.pins_attn]
    cases s.attn <;> rfl

end Sys2Proof.Machine
end

section
/-! PROOFS. What a step can do to the rows, the topic index and the attention list, said once: most operations leave the
lasting part of every row and the topic index as they are, and the others move, free or declare one row. -/

namespace Sys2Proof.Machine

set_option Elab.async false

/-! ### The lasting part of a row -/

/-- A row with the fields that run on by themselves put at their free values: sides, held mask, gap, age, reject count
and deadlines. What is left changes only by a row's own command or arrival. -/
def Row.core (row : Row) : Row :=
  { row with
    rejectCount := 0, gapRunning := false, heldMask := 0, side := Quad.all Side.free, age := 0
    freshness := .stopped, refresh := .stopped, gap := .stopped }

section
variable (row : Row)

@[simp] theorem Row.core_state : row.core.state = row.state := rfl
@[simp] theorem Row.core_topic : row.core.topic = row.topic := rfl
@[simp] theorem Row.core_role : row.core.role = row.role := rfl
@[simp] theorem Row.core_cls : row.core.cls = row.cls := rfl
@[simp] theorem Row.core_length : row.core.length = row.length := rfl
@[simp] theorem Row.core_sourceMask : row.core.sourceMask = row.sourceMask := rfl
@[simp] theorem Row.core_sendMask : row.core.sendMask = row.sendMask := rfl
@[simp] theorem Row.core_image : row.core.image = row.image := rfl
@[simp] theorem Row.core_generation : row.core.generation = row.generation := rfl
@[simp] theorem Row.core_sequence : row.core.sequence = row.sequence := rfl

@[simp] theorem Row.core_updSide (c : Channel) (f : Side → Side) : (row.updSide c f).core = row.core := rfl
@[simp] theorem Row.core_countReject : row.countReject.core = row.core := rfl
@[simp] theorem Row.core_tick : row.tick.core = row.core := rfl
@[simp] theorem Row.core_release : row.release.core = row.core := rfl

@[simp] theorem Row.core_withDeadline (k : DeadlineKind) (d : Deadline) : (row.withDeadline k d).core = row.core := by
  cases k <;> rfl

@[simp] theorem Row.core_removeFrom (c : Channel) (listed : Bool) : (row.removeFrom c listed).core = row.core := by
  simp only [Row.removeFrom]
  split_ifs <;> rfl

end

/-- The lasting part says whether a row serves. -/
theorem Row.inService_of_core {a b : Row} (h : a.core = b.core) : a.inService = b.inService := by
  have state : a.state = b.state := (congrArg Row.state h :)
  simp only [Row.inService, state]

/-! ### Operations that leave the lasting part of every row -/

/-- The lasting part of every row and the topic index are the same. -/
structure SameCores (s t : State) : Prop where
  rows : ∀ r, (t.row r).core = (s.row r).core
  topicIndex : t.topicIndex = s.topicIndex

theorem SameCores.refl (s : State) : SameCores s s := ⟨fun _ => rfl, rfl⟩

theorem SameCores.trans {s t u : State} (a : SameCores s t) (b : SameCores t u) : SameCores s u :=
  ⟨fun r => (b.rows r).trans (a.rows r), b.topicIndex.trans a.topicIndex⟩

/-- The lasting parts and the topic index are the same, and the attention list is kept well-formed (R104). -/
structure Steady (s t : State) : Prop where
  cores : SameCores s t
  list : s.AttentionOk → t.AttentionOk

theorem Steady.refl (s : State) : Steady s s := ⟨SameCores.refl s, id⟩

theorem Steady.trans {s t u : State} (a : Steady s t) (b : Steady t u) : Steady s u :=
  ⟨a.cores.trans b.cores, b.list ∘ a.list⟩

/-- The attention list matters to its well-formedness alone. -/
theorem State.AttentionOk.congr {s t : State} (h : t.attention = s.attention) (ok : s.AttentionOk) : t.AttentionOk :=
  ⟨h ▸ ok.once, h ▸ ok.nonempty⟩

/-- A list with fewer entries is still well-formed. -/
theorem State.AttentionOk.sublist {s t : State} (h : t.attention.Sublist s.attention) (ok : s.AttentionOk) :
    t.AttentionOk :=
  ⟨ok.once.sublist (h.map _), fun e he => ok.nonempty e (h.subset he)⟩

/-- What touches no row, no topic and no attention entry. -/
theorem Steady.of_eq {s t : State} (rows : t.rows = s.rows) (topicIndex : t.topicIndex = s.topicIndex)
    (attention : t.attention = s.attention) : Steady s t :=
  ⟨⟨fun r => by simp only [State.row, rows], topicIndex⟩, State.AttentionOk.congr attention⟩

theorem Steady.updCh (s : State) (c : Channel) (f : ChannelEngine → ChannelEngine) : Steady s (s.updCh c f) :=
  .of_eq rfl rfl rfl

theorem Steady.updRow (s : State) (r : RowId) {f : Row → Row} (h : ∀ row : Row, (f row).core = row.core) :
    Steady s (s.updRow r f) where
  cores := by
    refine ⟨fun q => ?_, rfl⟩
    rw [State.row_updRow]
    split
    · next e => subst e; exact h _
    · rfl
  list := State.AttentionOk.congr rfl

theorem Steady.updRow_updCh (s : State) (r : RowId) {f : Row → Row} (h : ∀ row : Row, (f row).core = row.core)
    (c : Channel) (g : ChannelEngine → ChannelEngine) : Steady s ((s.updRow r f).updCh c g) :=
  (Steady.updRow s r h).trans (.updCh _ c g)

/-- A reason recorded keeps the attention list well-formed: it joins the row's entry, or makes the row's only one. -/
theorem Steady.record (s : State) (r : RowId) (q : Reason) : Steady s (s.record r q) := by
  refine ⟨⟨by simp, by simp⟩, fun ok => ?_⟩
  obtain ⟨_, h⟩ | ⟨_, h⟩ := State.record_cases s r q
  · rwa [h]
  rw [h]
  have bit : q.bit ≠ 0 := by cases q <;> decide
  by_cases listed : s.attention.any (fun e => e.row = r) = true
  · constructor
    · have rows : (addReason s.attention r q).map (fun e => e.row) = s.attention.map fun e => e.row := by
        simp only [addReason, if_pos listed, List.map_map]
        refine List.map_congr_left fun e _ => ?_
        simp only [Function.comp_apply]
        split <;> rfl
      simpa only [rows] using ok.once
    · intro e he
      simp only [addReason, if_pos listed, List.mem_map] at he
      obtain ⟨x, hx, rfl⟩ := he
      split
      · exact fun none => bit (BitVec.or_eq_zero_iff.1 none).2
      · exact ok.nonempty x hx
  · have others : ∀ e ∈ s.attention, e.row ≠ r := by simpa using listed
    have list : addReason s.attention r q = s.attention ++ [{ row := r, reasons := q.bit }] := by
      simp only [addReason, if_neg listed]
    constructor
    · simp only [list, List.map_append, List.map_cons, List.map_nil]
      exact List.nodup_append.2 ⟨ok.once, List.nodup_singleton _, by simpa using others⟩
    · intro e he
      simp only [list, List.mem_append, List.mem_singleton] at he
      obtain he | rfl := he
      · exact ok.nonempty e he
      · exact bit

theorem Steady.withdraw (s : State) (r : RowId) (k : DeadlineKind) : Steady s (s.withdraw r k) := .of_eq rfl rfl rfl

theorem Steady.startDeadline (s : State) (r : RowId) (k : DeadlineKind) : Steady s (s.startDeadline r k) :=
  (Steady.withdraw s r k).trans (.updRow _ r (by simp))

theorem Steady.stopDeadline (s : State) (r : RowId) (k : DeadlineKind) : Steady s (s.stopDeadline r k) :=
  (Steady.withdraw s r k).trans (.updRow _ r (by simp))

theorem Steady.stopDeadlines (s : State) (r : RowId) : Steady s (s.stopDeadlines r) :=
  ((Steady.stopDeadline s r _).trans (.stopDeadline _ r _)).trans (.stopDeadline _ r _)

theorem Steady.presentDue (s : State) : Steady s s.presentDue := by
  refine .of_eq (by simp) ?_ (by simp)
  unfold State.presentDue
  split <;> rfl

theorem Steady.finish (s : State) (row : Byte) (words : List Word) : Steady s (s.finish row words) := .of_eq rfl rfl rfl

theorem Steady.refuse (s : State) (code : ResultCode) : Steady s (s.refuse code) := .of_eq rfl rfl rfl

theorem Steady.finishOrWait (s : State) (isCancel : Bool) (r : RowId) (awaited : ChannelMask)
    (outcomes : Quad ChannelOutcome) : Steady s (s.finishOrWait isCancel r awaited outcomes) := by
  unfold State.finishOrWait
  split
  · exact .finish _ _ _
  · exact .of_eq rfl rfl rfl

theorem Steady.report (s : State) (r : RowId) (c : Channel) (o : AttemptOutcome) : Steady s (s.report r c o) := by
  obtain ⟨cu, h⟩ := State.report_frame s r c o
  rw [h]
  exact .of_eq rfl rfl rfl

/-! ### Enqueue requests -/

theorem Steady.applyResult (s : State) (r : RowId) (c : Channel) (o : ChannelOutcome) :
    Steady s (s.applyResult r c o) := by
  have last (x : LastResult) : Steady s (s.setLastResult r c x) := .updRow s r (by simp)
  cases o <;> simp only [State.applyResult]
  case channelOff => exact last _
  case renewed => exact .updRow s r (by simp)
  case held => exact .updRow s r (fun _ => by rfl)
  case droppedFull => exact ((last _).trans (.record _ r _)).trans (.updCh _ c _)
  case queued => exact .updRow_updCh s r (by simp) c _
  all_goals exact .refl s

theorem Steady.enqueueNext (src : Source) (r : RowId) (gap : Bool) (mask : ChannelMask)
    (acc : State × Quad ChannelOutcome) (c : Channel) : Steady acc.1 (State.enqueueNext src r gap mask acc c).1 := by
  unfold State.enqueueNext
  split
  · rw [State.enqueueOn_fst]
    exact .applyResult acc.1 r c _
  · exact .refl _

theorem Steady.afterQueuing (s : State) (r : RowId) : Steady s (s.afterQueuing r) := by
  have gap : Steady s (s.startGap r) := by
    unfold State.startGap
    split
    · exact .refl s
    · exact (Steady.updRow s r (by intro; rfl)).trans (.startDeadline _ r _)
  refine gap.trans ?_
  rw [State.afterQueuing_eq, State.startRefresh]
  split
  · exact .startDeadline _ r _
  · exact .refl _

/-- A fold of operations that each are steady. -/
theorem Steady.foldl {α β : Type} (state : β → State) {step : β → α → β}
    (h : ∀ b a, Steady (state b) (state (step b a))) (l : List α) (b : β) :
    Steady (state b) (state (l.foldl step b)) := by
  induction l generalizing b with
  | nil => exact .refl _
  | cons a l ih => exact (h b a).trans (ih _)

theorem Steady.foldState {α : Type} {step : State → α → State} (h : ∀ s a, Steady s (step s a)) (l : List α)
    (s : State) : Steady s (l.foldl step s) :=
  Steady.foldl (fun s => s) h l s

theorem Steady.enqueue (s : State) (src : Source) (r : RowId) (mask : ChannelMask) :
    Steady s (s.enqueue src r mask).1 := by
  have fold := Steady.foldl Prod.fst (Steady.enqueueNext src r (s.row r).gapRunning mask) allChannels
    (s, Quad.all .notNamed)
  unfold State.enqueue
  split
  · dsimp only
    split
    · exact fold.trans (.afterQueuing _ r)
    · exact fold
  · exact .refl s

/-! ### Taking a row off its channels, outcomes, removals -/

theorem Steady.removePending (s : State) (r : RowId) (c : Channel) : Steady s (s.removePending r c) :=
  .updRow_updCh s r (by simp) c _

theorem Steady.removeHeld (s : State) (r : RowId) (c : Channel) : Steady s (s.removeHeld r c) :=
  .updRow s r (by intro; rfl)

theorem Steady.removeOn (s : State) (r : RowId) (c : Channel) : Steady s (s.removeOn r c) := by
  unfold State.removeOn
  split
  · exact .removePending s r c
  · exact .removeHeld s r c
  · exact .refl s

theorem Steady.cancelOn (s : State) (r : RowId) (c : Channel) : Steady s (s.cancelOn r c) := by
  unfold State.cancelOn
  split
  · exact .removePending s r c
  · exact .removeHeld s r c
  · exact .refl s
  · exact .updRow s r (by simp)

theorem Steady.takeOutOfService (s : State) (r : RowId) : Steady s (s.takeOutOfService r) :=
  ((Steady.foldState (fun s c => Steady.removeOn s r c) allChannels s).trans (.updRow _ r (by intro; rfl))).trans
    (.stopDeadlines _ r)

theorem Steady.returnRow (s : State) (r : RowId) (c : Channel) : Steady s (s.returnRow r c) :=
  .updRow_updCh s r (by simp) c _

theorem Steady.recordEnd (s : State) (r : RowId) (c : Channel) (o : AttemptOutcome) (cancel : Bool) :
    Steady s (s.recordEnd r c o cancel) := by
  have failed : Steady s (if cancel then s else (s.record r .sendFailed).updCh c ChannelEngine.countFailedAttempt) := by
    split
    · exact .refl s
    · exact (Steady.record s r _).trans (.updCh _ c _)
  cases o
  · exact .record s r _
  · exact .record s r _
  · exact failed
  · exact failed
  · exact .refl s

theorem Steady.endSend (s : State) (r : RowId) (c : Channel) (o : AttemptOutcome) (cancel : Bool) :
    Steady s (s.endSend r c o cancel) :=
  (Steady.updRow s r (by simp)).trans (.recordEnd _ r c o cancel)

theorem Steady.mapRows (s : State) {f : RowId → Row → Row} (h : ∀ r row, (f r row).core = row.core) :
    Steady s (s.mapRows f) :=
  ⟨⟨fun r => by simp [h], rfl⟩, State.AttentionOk.congr rfl⟩

/-! ### The interval unit -/

theorem Steady.makeDue (s : State) (e : DueEntry) : Steady s (s.makeDue e) := by
  have due : Steady s (s.updRow e.row fun row => row.withDeadline e.kind (row.deadline e.kind).fallDue) :=
    .updRow s e.row (by simp)
  exact due.trans (.of_eq rfl rfl rfl)

theorem Steady.tick (s : State) : Steady s s.tick :=
  (((Steady.foldState Steady.makeDue s.fallen s).trans (.presentDue _)).trans (.mapRows _ (by simp))).trans
    (.of_eq rfl rfl rfl)

/-! ### What a step does to the rows -/

/-- The ways a command or an arrival moves a row in use to another row in use. -/
inductive Row.Moves (s : State) (row : Row) : Row → Prop
  /-- POST (R170) -/
  | post (bytes : List Byte) : row.role = .produced → row.state ≠ .free → row.state ≠ .suspended →
      row.state ≠ .retiring → bytes.length = 16 → Moves s row (row.post bytes)
  /-- an accepted arrival (R42, R43) -/
  | accept (c : Channel) (p : Publish) : row.role = .consumed → row.inService = true →
      p.payload.length = row.length → .publish p ∈ (s.ch c).arrivalQueue → Moves s row (row.accept c p)
  /-- a freshness expiry (R91) -/
  | stale : row.role = .consumed → row.state = .live ∨ row.state = .awaiting → Moves s row { row with state := .stale }
  /-- SUSPEND (R19) -/
  | suspend : row.state ≠ .free → Moves s row { row with state := .suspended }
  /-- RETIRE (R23) -/
  | retire : row.state ≠ .free → Moves s row { row with state := .retiring }
  /-- RESUME (R20) -/
  | resume : row.state = .suspended → Moves s row { row with state := resumedState row }
  /-- AMEND (R21) -/
  | amend (p : Vector Word 16) : row.state ≠ .free →
      badTiming row.role (amendedRow row p).freshnessLimit (amendedRow row p).refreshPeriod
        (amendedRow row p).recallOnStale (amendedRow row p).sequenceCheck = false →
      Moves s row (amendedRow row p)

/-- Everything a step can do to the rows and the topic index. -/
inductive RowsStep (s t : State) : Prop
  /-- the lasting parts stay -/
  | steady : SameCores s t → RowsStep s t
  /-- one row in use moves -/
  | moved (r : RowId) (row : Row) : (s.row r).Moves s row → SameCores (s.updRow r fun _ => row) t → RowsStep s t
  /-- one row becomes FREE -/
  | freed (r : RowId) : SameCores (s.freeRow r) t → RowsStep s t
  /-- one FREE row is declared -/
  | declared (r : RowId) (p : Vector Word 16) : (s.row r).state = .free → declareFault (declareParams p) = none →
      s.lookup (declareParams p).topic = none → SameCores (s.takeRow r (declareParams p)) t → RowsStep s t
  /-- every row becomes FREE -/
  | cleared : (∀ r, (t.row r).core = Row.free) → t.topicIndex = [] → RowsStep s t

theorem RowsStep.then {s t u : State} (a : RowsStep s t) (b : SameCores t u) : RowsStep s u := by
  cases a with
  | steady h => exact .steady (h.trans b)
  | moved r row m h => exact .moved r row m (h.trans b)
  | freed r h => exact .freed r (h.trans b)
  | declared r p free fault new h => exact .declared r p free fault new (h.trans b)
  | cleared rows index => exact .cleared (fun r => (b.rows r).trans (rows r)) (b.topicIndex.trans index)

end Sys2Proof.Machine
end

section
/-! PROOFS. The rows, the topic index and the attention list through every command: each table transaction, the port's
words, and at last `exec`. -/

namespace Sys2Proof.Machine

set_option Elab.async false

/-- What a step does to the rows and the topic index, with the attention list kept well-formed. -/
structure RowsEffect (s t : State) : Prop where
  rows : RowsStep s t
  list : s.AttentionOk → t.AttentionOk

theorem Steady.effect {s t : State} (h : Steady s t) : RowsEffect s t := ⟨.steady h.cores, h.list⟩

theorem RowsEffect.of_eq {s t : State} (rows : t.rows = s.rows) (topicIndex : t.topicIndex = s.topicIndex)
    (attention : t.attention = s.attention) : RowsEffect s t :=
  (Steady.of_eq rows topicIndex attention).effect

theorem RowsEffect.then {s t u : State} (a : RowsEffect s t) (b : Steady t u) : RowsEffect s u :=
  ⟨a.rows.then b.cores, b.list ∘ a.list⟩

/-- A change that reads and writes lasting fields takes rows with one lasting part to rows with one lasting part. -/
theorem Row.core_lift {f : Row → Row} (lasting : ∀ row : Row, (f row).core = (f row.core).core) {a b : Row}
    (h : a.core = b.core) : (f a).core = (f b).core := by
  rw [lasting a, h, ← lasting b]

/-- A row in use moves after operations that leave its lasting part. -/
theorem RowsEffect.moved {s u : State} {r : RowId} {row : Row} {f : Row → Row} (h : Steady s u)
    (m : (s.row r).Moves s row) (same : (f (u.row r)).core = row.core) : RowsEffect s (u.updRow r f) where
  rows := by
    refine .moved r row m ⟨fun q => ?_, h.cores.topicIndex⟩
    rw [State.row_updRow, State.row_updRow]
    split
    · exact same
    · exact h.cores.rows q
  list ok := State.AttentionOk.congr (s := u) rfl (h.list ok)

/-- A row becomes FREE after operations that leave the lasting parts. -/
theorem RowsEffect.freed {s u : State} (h : Steady s u) (r : RowId) : RowsEffect s (u.freeRow r) where
  rows := by
    refine .freed r ⟨fun q => ?_, by simp only [State.freeRow_topicIndex, h.cores.topicIndex]⟩
    by_cases e : r = q
    · subst e; simp
    · simp only [State.freeRow_row_ne _ e, h.cores.rows]
  list ok := (h.list ok).sublist List.filter_sublist

theorem State.attentionOk_of_nil {t : State} (h : t.attention = []) : t.AttentionOk :=
  ⟨by simp [h], by simp [h]⟩

/-- Every row has become FREE, with the topic index and the attention list emptied. -/
theorem RowsEffect.cleared {s t : State} (rows : ∀ r, t.row r = Row.free) (topicIndex : t.topicIndex = [])
    (attention : t.attention = []) : RowsEffect s t :=
  ⟨.cleared (fun r => by rw [rows]; rfl) topicIndex, fun _ => State.attentionOk_of_nil attention⟩

/-! ### The table controller -/

/-- What the rotation and the queue of commands hold does not matter to the rows. -/
theorem RowsEffect.of_rotation {s t : State} {q : Requester} {o : Option Requester} {l : List Instr}
    (h : RowsEffect { s with served := q, turn := o, pending := l } t) : RowsEffect s t where
  rows := by
    cases h.rows with
    | steady h => exact .steady ⟨h.rows, h.topicIndex⟩
    | moved r row m h =>
      refine .moved r row ?_ ⟨h.rows, h.topicIndex⟩
      cases m with
      | post bytes a b c d e => exact .post bytes a b c d e
      | accept c p a b d e => exact .accept c p a b d e
      | stale a b => exact .stale a b
      | suspend a => exact .suspend a
      | retire a => exact .retire a
      | resume a => exact .resume a
      | amend p a b => exact .amend p a b
    | freed r h => exact .freed r ⟨h.rows, h.topicIndex⟩
    | declared r p free fault new h => exact .declared r p free fault new ⟨h.rows, h.topicIndex⟩
    | cleared rows index => exact .cleared rows index
  list ok := h.list ⟨ok.once, ok.nonempty⟩

theorem Steady.wakeAll (s : State) : Steady s s.wakeAll := .of_eq rfl rfl rfl

theorem RowsEffect.transact {s : State} {q : Requester} {f : State → State}
    (h : RowsEffect { s with served := q, turn := none } (f { s with served := q, turn := none })) :
    RowsEffect s (s.transact q f) := by
  obtain e | ⟨_, e⟩ := s.transact_cases q f
  · rw [e]; exact (Steady.refl s).effect
  · rw [e]; exact (of_rotation (l := s.pending) h).then (.wakeAll _)

theorem Steady.presenting {s : State} {f : State → State} (h : Steady s (f s)) : Steady s (s.presenting f) :=
  h.trans (.of_eq rfl rfl rfl)

/-! ### Arrivals -/

theorem RowsEffect.acceptArrival {s u : State} (h : Steady s u) {r : RowId} {c : Channel} {p : Publish}
    (consumed : (s.row r).role = .consumed) (serves : (s.row r).inService = true)
    (length : p.payload.length = (s.row r).length) (heard : .publish p ∈ (s.ch c).arrivalQueue) :
    RowsEffect s (u.acceptArrival r c p) := by
  have stored : RowsEffect s (u.updRow r fun row => row.accept c p) :=
    .moved h (.accept c p consumed serves length heard)
      (Row.core_lift (f := fun row => row.accept c p) (fun _ => rfl) (h.cores.rows r))
  have told : RowsEffect s (if (u.row r).state = .stale then (u.updRow r fun row => row.accept c p).record r .restored
      else u.updRow r fun row => row.accept c p) := by
    split
    · exact stored.then (.record _ r _)
    · exact stored
  exact ((told.then (.record _ r _)).then (.startDeadline _ r _)).then (.enqueue _ _ r _)

/-- Everything the judgement of a PUBLISH can be, with what it rests on for an accepted one (R36 to R41). -/
theorem State.judgePublish_accepted {s : State} {c : Channel} {p : Publish} {r : RowId}
    (h : s.judgePublish c p = .accepted r) :
    (s.row r).role = .consumed ∧ (s.row r).inService = true ∧ p.payload.length = (s.row r).length := by
  unfold State.judgePublish at h
  split at h
  · cases h
  · next q _ =>
    split at h
    · cases h
    · next out =>
      have accepted : q = r ∧ (s.row q).inService = true ∧ p.payload.length = (s.row q).length := by
        unfold judgeFor at h
        split_ifs at h with a b d e f
        all_goals simp_all
      obtain ⟨rfl, serves, length⟩ := accepted
      refine ⟨?_, serves, length⟩
      cases role : (s.row q).role
      · rfl
      · exact absurd (.inr (.inl role)) out

theorem RowsEffect.publishTransaction {s : State} {c : Channel} {p : Publish}
    (heard : .publish p ∈ (s.ch c).arrivalQueue) : RowsEffect s (s.publishTransaction c p) := by
  have popped : Steady s (s.updCh c ChannelEngine.popArrival) := .updCh s c _
  have rejected (r : RowId) : Steady s ((s.updCh c ChannelEngine.popArrival).updRow r Row.countReject) :=
    popped.trans (.updRow _ r (by simp))
  have disposed : RowsEffect s
      ((s.updCh c ChannelEngine.popArrival).applyDisposition c p (s.judgePublish c p)) := by
    cases h : s.judgePublish c p with
    | unclaimed => exact (popped.trans (.updCh _ c _)).effect
    | dropped r => exact (rejected r).effect
    | rejectedLength r => exact ((rejected r).trans (.record _ r _)).effect
    | rejectedOrder r => exact ((rejected r).trans (.record _ r _)).effect
    | duplicate r => exact popped.effect
    | accepted r =>
      obtain ⟨consumed, serves, length⟩ := State.judgePublish_accepted h
      exact .acceptArrival popped consumed serves length heard
  exact disposed.then (.updCh _ c _)

theorem Steady.recallTransaction (s : State) (c : Channel) (q : Recall) : Steady s (s.recallTransaction c q) := by
  have popped : Steady s (s.updCh c ChannelEngine.popArrival) := .updCh s c _
  unfold State.recallTransaction
  dsimp only
  split
  · exact (popped.trans (.enqueue _ _ _ _)).trans (.record _ _ _)
  · exact popped

/-! ### Attempts -/

theorem Steady.attemptStartTransaction (s : State) (c : Channel) : Steady s (s.attemptStartTransaction c) := by
  have popped : Steady s (s.updCh c ChannelEngine.popRequest) := .updCh s c _
  unfold State.attemptStartTransaction
  dsimp only
  split
  · split
    · exact popped.trans (.updRow_updCh _ _ (by simp) c _)
    · exact popped.trans (.updCh _ c _)
  · exact popped.trans (.updCh _ c _)

theorem RowsEffect.drainRetiring {s u : State} (h : Steady s u) (r : RowId) : RowsEffect s (u.drainRetiring r) := by
  unfold State.drainRetiring
  split
  · exact .freed h r
  · exact h.effect

theorem RowsEffect.applyOutcome {s u : State} (h : Steady s u) (c : Channel) (o : AttemptOutcome) :
    RowsEffect s (u.applyOutcome c o) := by
  have step {t v : State} (a : Steady s t) (b : Steady t v) {p : Prop} [Decidable p] : Steady s (if p then v else t) := by
    split
    · exact a.trans b
    · exact a
  unfold State.applyOutcome
  split
  · exact h.effect
  · next f _ =>
    dsimp only
    refine .drainRetiring (Steady.trans ?_ (.report _ _ c o)) _
    refine step ?_ (.enqueue _ _ _ _)
    have landed : Steady s (u.updCh c fun ce => { ce with inFlight := none }) := h.trans (.updCh _ c _)
    split
    · exact landed.trans (.returnRow _ _ c)
    · exact landed.trans (.endSend _ _ c o _)

theorem RowsEffect.outcomeTransaction (s : State) (c : Channel) (o : AttemptOutcome) :
    RowsEffect s (s.outcomeTransaction c o) :=
  (RowsEffect.applyOutcome (.updCh s c _) c o).then (.updCh _ c _)

theorem RowsEffect.removalTransaction (s : State) (c : Channel) : RowsEffect s (s.removalTransaction c) := by
  unfold State.removalTransaction
  dsimp only
  refine (RowsEffect.applyOutcome ?_ c .aborted).then (.updCh _ c _)
  exact ((Steady.updCh s c _).trans (.mapRows _ (by simp))).trans (.updCh _ c _)

/-! ### Expiries -/

theorem Steady.clearPresented (s : State) : Steady s s.clearPresented := .of_eq rfl rfl rfl

/-- An expiry transaction does to the rows what its application does. -/
theorem RowsEffect.expiryTransaction {s : State} (k : DeadlineKind) (p : Presented) {apply : State → RowId → State}
    (h : ∀ u, Steady s u → RowsEffect s (apply u p.entry.row)) : RowsEffect s (s.expiryTransaction k p apply) := by
  refine RowsEffect.then ?_ (.presentDue _)
  split
  · exact h _ (.clearPresented s)
  · exact (Steady.clearPresented s).effect

theorem RowsEffect.takeExpiry {s : State} (k : DeadlineKind) {apply : State → RowId → State}
    (h : ∀ s u r, Steady s u → RowsEffect s (apply u r)) : RowsEffect s (s.takeExpiry k apply) := by
  unfold State.takeExpiry
  split
  · split
    · exact .transact (.expiryTransaction k _ fun u => h _ u _)
    · exact (Steady.refl s).effect
  · exact (Steady.refl s).effect

theorem RowsEffect.goStale {s u : State} (h : Steady s u) (r : RowId) : RowsEffect s (u.goStale r) := by
  have role : (u.row r).role = (s.row r).role := (congrArg Row.role (h.cores.rows r) :)
  have state : (u.row r).state = (s.row r).state := (congrArg Row.state (h.cores.rows r) :)
  unfold State.goStale
  split
  · next g =>
    rw [role, state] at g
    exact (RowsEffect.moved h (.stale g.1 g.2) (Row.core_lift (f := fun row => { row with state := .stale })
      (fun _ => rfl) (h.cores.rows r))).then (.record _ r _)
  · exact h.effect

theorem RowsEffect.applyFreshness {s u : State} (h : Steady s u) (r : RowId) : RowsEffect s (u.applyFreshness r) := by
  have restarted : RowsEffect s ((u.goStale r).startDeadline r .freshness) := (goStale h r).then (.startDeadline _ r _)
  unfold State.applyFreshness
  dsimp only
  split
  · exact restarted.then (.enqueue _ _ r _)
  · exact restarted

theorem Steady.applyRefresh (s : State) (r : RowId) : Steady s (s.applyRefresh r) := by
  unfold State.applyRefresh
  split
  · exact (Steady.enqueue s _ r _).trans (.startDeadline _ r _)
  · exact .startDeadline s r _

theorem Steady.applyGap (s : State) (r : RowId) : Steady s (s.applyGap r) := by
  have released : Steady s (s.updRow r Row.release) := .updRow s r (by simp)
  unfold State.applyGap
  dsimp only
  split
  · exact released
  · exact released.trans (.enqueue _ _ r _)

end Sys2Proof.Machine
end

section
/-! PROOFS. The rows, the topic index and the attention list through the commands, the port and `exec`; what every step
keeps of them. -/

namespace Sys2Proof.Machine

set_option Elab.async false

/-! ### The commands -/

/-- A row that a parameter block names is in use. -/
theorem State.namedRow_inUse {s : State} {p : Vector Word 16} {r : RowId} (h : s.namedRow p = some r) :
    (s.row r).state ≠ .free := by
  unfold State.namedRow at h
  split at h
  · split at h
    · cases h
    · next used => cases h; exact used
  · cases h

/-- The row found first satisfies the condition it was looked for with. -/
theorem State.firstRow_sat {s : State} {p : RowId → Row → Bool} {r : RowId} (h : s.firstRow p = some r) :
    p r (s.row r) = true := by
  have := List.find?_some h
  exact this

theorem imageBytes_length (p : Vector Word 16) {first : Nat} (h : first ≤ 8) : (imageBytes p first).length = 16 := by
  have two : ∀ w ∈ (p.toList.drop first).take 8, (wordBytes w).length = 2 := fun _ _ => rfl
  simp only [imageBytes, List.length_flatMap, List.map_congr_left two, List.map_const', List.sum_replicate,
    List.length_take, List.length_drop, Vector.length_toList, smul_eq_mul]
  omega

theorem RowsEffect.declareTransaction (s : State) (p : Vector Word 16) : RowsEffect s (s.declareTransaction p) := by
  unfold State.declareTransaction
  dsimp only
  split
  · exact (Steady.refuse s _).effect
  · next fault =>
    split
    · exact (Steady.refuse s _).effect
    · next new =>
      split
      · exact (Steady.refuse s _).effect
      · next r first =>
        have free : (s.row r).state = .free := by simpa using State.firstRow_sat first
        exact RowsEffect.then ⟨.declared r p free fault (by simpa using new) (.refl _), fun ok => ⟨ok.once, ok.nonempty⟩⟩
          (.finish _ _ _)

theorem Steady.amendDeadline (s : State) (r : RowId) (k : DeadlineKind) (changed : Bool) :
    Steady s (s.amendDeadline r k changed) := by
  unfold State.amendDeadline
  split
  · exact .startDeadline s r k
  · exact .refl s

theorem RowsEffect.amendTransaction (s : State) (p : Vector Word 16) : RowsEffect s (s.amendTransaction p) := by
  unfold State.amendTransaction
  split
  · exact (Steady.refuse s _).effect
  · next r named =>
    dsimp only
    split
    · exact (Steady.refuse s _).effect
    · split
      · exact (Steady.refuse s _).effect
      · next timing =>
        have amended : RowsEffect s (s.updRow r fun _ => amendedRow (s.row r) p) :=
          .moved (.refl s) (.amend p (State.namedRow_inUse named) (Bool.eq_false_of_not_eq_true timing)) rfl
        exact ((amended.then (.amendDeadline _ r _ _)).then (.amendDeadline _ r _ _)).then (.finish _ _ _)

theorem Steady.findTransaction (s : State) (p : Vector Word 16) : Steady s (s.findTransaction p) := by
  unfold State.findTransaction
  split
  · exact .finish s _ _
  · exact .refuse s _

theorem Steady.listTransaction (s : State) (p : Vector Word 16) : Steady s (s.listTransaction p) := by
  unfold State.listTransaction
  split
  · exact .finish s _ _
  · exact .refuse s _

theorem Steady.fetchTransaction (s : State) (p : Vector Word 16) : Steady s (s.fetchTransaction p) := by
  unfold State.fetchTransaction
  split
  · exact .refuse s _
  · dsimp only
    split
    · exact (Steady.finish s _ _).trans (.updRow _ _ (by intro; rfl))
    · exact .finish s _ _

theorem RowsEffect.postTransaction (s : State) (p : Vector Word 16) : RowsEffect s (s.postTransaction p) := by
  unfold State.postTransaction
  split
  · exact (Steady.refuse s _).effect
  · next r named =>
    split
    · exact (Steady.refuse s _).effect
    · next produced =>
      split
      · exact (Steady.refuse s _).effect
      · next serving =>
        obtain ⟨suspended, retiring⟩ := not_or.1 serving
        have produced : (s.row r).role = .produced := by
          cases role : (s.row r).role
          · exact absurd role produced
          · rfl
        have stored : RowsEffect s (s.updRow r fun row => row.post (imageBytes p 1)) :=
          .moved (.refl s) (.post _ produced (State.namedRow_inUse named) suspended retiring
            (imageBytes_length p (by decide))) rfl
        exact (stored.then (.enqueue _ _ r _)).then (.finish _ _ _)

theorem Steady.sendTransaction (s : State) (p : Vector Word 16) : Steady s (s.sendTransaction p) := by
  unfold State.sendTransaction
  split
  · exact .refuse s _
  · split
    · exact .refuse s _
    · split
      · exact .refuse s _
      · exact (Steady.enqueue s _ _ _).trans (.finish _ _ _)

theorem Steady.recallCommandTransaction (s : State) (p : Vector Word 16) : Steady s (s.recallCommandTransaction p) := by
  unfold State.recallCommandTransaction
  split
  · exact .refuse s _
  · split
    · exact .refuse s _
    · split
      · exact .refuse s _
      · exact (Steady.enqueue s _ _ _).trans (.finish _ _ _)

theorem Steady.cancelTransaction (s : State) (p : Vector Word 16) : Steady s (s.cancelTransaction p) := by
  unfold State.cancelTransaction
  split
  · exact .refuse s _
  · dsimp only
    refine (Steady.foldState (fun s c => ?_) allChannels s).trans (.finishOrWait _ _ _ _ _)
    split
    · exact .cancelOn s _ c
    · exact .refl s

theorem RowsEffect.suspendTransaction (s : State) (p : Vector Word 16) : RowsEffect s (s.suspendTransaction p) := by
  unfold State.suspendTransaction
  split
  · exact (Steady.refuse s _).effect
  · next r named =>
    dsimp only
    split
    · exact (Steady.refuse s _).effect
    · have out := Steady.takeOutOfService s r
      have moved : RowsEffect s ((s.takeOutOfService r).updRow r fun row => { row with state := .suspended }) :=
        .moved out (.suspend (State.namedRow_inUse named))
          (Row.core_lift (f := fun row => { row with state := .suspended }) (fun _ => rfl) (out.cores.rows r))
      exact moved.then (.finish _ _ _)

theorem RowsEffect.resumeTransaction (s : State) (p : Vector Word 16) : RowsEffect s (s.resumeTransaction p) := by
  unfold State.resumeTransaction
  split
  · exact (Steady.refuse s _).effect
  · next r _ =>
    dsimp only
    split
    · exact (Steady.refuse s _).effect
    · next suspended =>
      have moved : RowsEffect s (s.updRow r fun row => { row with state := resumedState row }) :=
        .moved (.refl s) (.resume (by simpa using suspended)) rfl
      exact (moved.then (.startDeadline _ r _)).then (.finish _ _ _)

theorem RowsEffect.retireTransaction (s : State) (p : Vector Word 16) : RowsEffect s (s.retireTransaction p) := by
  unfold State.retireTransaction
  split
  · exact (Steady.refuse s _).effect
  · next r named =>
    dsimp only
    split
    · exact (Steady.refuse s _).effect
    · have out := Steady.takeOutOfService s r
      refine RowsEffect.then ?_ (.finishOrWait _ _ _ _ _)
      split
      · exact .freed out r
      · exact .moved out (.retire (State.namedRow_inUse named))
          (Row.core_lift (f := fun row => { row with state := .retiring }) (fun _ => rfl) (out.cores.rows r))

theorem Steady.takeTransaction (s : State) : Steady s s.takeTransaction := by
  unfold State.takeTransaction
  split
  · next e rest list =>
    exact ⟨⟨fun _ => rfl, rfl⟩, fun ok => ok.sublist (list ▸ List.sublist_cons_self e rest)⟩
  · exact .refuse s _

theorem row_replicate_free (r : RowId) : (Vector.replicate 256 Row.free).get r = Row.free :=
  Vector.getElem_replicate r.isLt

theorem RowsEffect.clearTransaction (s : State) : RowsEffect s s.clearTransaction := by
  unfold State.clearTransaction
  split
  · exact (Steady.refuse s _).effect
  · exact .cleared row_replicate_free rfl rfl

theorem RowsEffect.commandTransaction (s : State) (k : CommandKind) (p : Vector Word 16) :
    RowsEffect s (s.commandTransaction k p) := by
  cases k
  · exact .declareTransaction s p
  · exact .amendTransaction s p
  · exact (Steady.findTransaction s p).effect
  · exact (Steady.listTransaction s p).effect
  · exact (Steady.fetchTransaction s p).effect
  · exact .postTransaction s p
  · exact (Steady.sendTransaction s p).effect
  · exact (Steady.recallCommandTransaction s p).effect
  · exact (Steady.cancelTransaction s p).effect
  · exact .suspendTransaction s p
  · exact .resumeTransaction s p
  · exact .retireTransaction s p
  · exact (Steady.takeTransaction s).effect
  · exact .clearTransaction s

/-! ### The port -/

theorem Steady.setPortError (s : State) : Steady s s.setPortError := .of_eq rfl rfl rfl

theorem Steady.portTo (s : State) (phase : PortPhase) (out : List Byte) : Steady s (s.portTo phase out) :=
  .of_eq rfl rfl rfl

theorem Steady.strayBits (s : State) : Steady s s.strayBits := by
  unfold State.strayBits
  split
  · exact .setPortError s
  · exact .refl s

theorem Steady.writeCode (s : State) (code : Word) : Steady s (s.writeCode code) := by
  unfold State.writeCode
  split
  · exact .of_eq rfl rfl rfl
  · split
    · exact .of_eq rfl rfl rfl
    · split
      · exact .of_eq rfl rfl rfl
      · exact .of_eq rfl rfl rfl

theorem Steady.writeConfig (s : State) (c : Channel) (w : ConfigWord) (data mask : Word) :
    Steady s (s.writeConfig c w data mask) := by
  unfold State.writeConfig
  split
  · exact .updCh s c _
  · exact .of_eq rfl rfl rfl

theorem Steady.writeChannel (s : State) (c : Channel) (addr : Nat) (data mask : Word) :
    Steady s (s.writeChannel c addr data mask) := by
  unfold State.writeChannel
  split
  · exact .updCh s c _
  · exact .writeConfig s c _ _ _
  · exact .writeConfig s c _ _ _
  · exact .writeConfig s c _ _ _
  · exact .writeConfig s c _ _ _
  · exact .updCh s c _
  · exact .refl s

theorem RowsEffect.resetBlocks (s : State) (cause : ResetCause) (phase : PortPhase) :
    RowsEffect s (s.resetBlocks cause phase) :=
  .cleared row_replicate_free rfl rfl

theorem RowsEffect.writeGlobal (s : State) (addr : Nat) (data mask : Word) :
    RowsEffect s (s.writeGlobal addr data mask) := by
  unfold State.writeGlobal
  split
  · dsimp only
    split
    · exact .resetBlocks s _ _
    · exact .of_eq rfl rfl rfl
  · split
    · exact .of_eq rfl rfl rfl
    · split
      · exact (Steady.writeCode s _).presenting.effect
      · exact (Steady.setPortError s).effect

theorem RowsEffect.writeWord (s : State) (page : Option Page) (addr : Nat) (data mask : Word) :
    RowsEffect s (s.writeWord page addr data mask) := by
  unfold State.writeWord
  split
  · exact (Steady.refl s).effect
  · exact .writeGlobal s addr data mask
  · split
    · exact (Steady.writeChannel s _ addr data mask).presenting.effect
    · exact (Steady.setPortError s).effect
  · split
    · exact (Steady.foldState (fun s c => Steady.writeChannel s c addr data mask) allChannels s).presenting.effect
    · exact (Steady.setPortError s).effect

theorem RowsEffect.portWrite (s : State) (addr : Byte) (data mask : Word) :
    RowsEffect s (s.portWrite addr data mask) := by
  unfold State.portWrite
  split
  · exact (writeWord s _ _ _ _).then (.portTo _ _ _)
  · exact (writeWord s _ _ _ _).then (.portTo _ _ _)
  · exact (Steady.refl s).effect
  · exact (Steady.refl s).effect
  · exact (Steady.strayBits s).effect

theorem RowsEffect.wordOn (s : State) (p : Page → Bool) (addr : Byte) (data mask : Word) :
    RowsEffect s (s.wordOn p fun s => s.portWrite addr data mask) := by
  unfold State.wordOn
  split
  · exact .portWrite s addr data mask
  · exact (Steady.refl s).effect

theorem Steady.clearReported (s : State) (c : Channel) (reported : BitVec 9) : Steady s (s.clearReported c reported) :=
  .updCh s c _

theorem Steady.afterWord (s : State) (page : Page) (addr : Nat) : Steady s (s.afterWord page addr) := by
  unfold State.afterWord
  split
  · exact .clearReported s _ _
  · exact .refl s

theorem Steady.portRead (s : State) (addr : Byte) : Steady s (s.portRead addr) := by
  unfold State.portRead
  dsimp only
  split
  · exact .portTo s _ _
  · split
    · exact (Steady.afterWord s _ _).trans (.portTo _ _ _)
    · exact (Steady.setPortError s).trans (.portTo _ _ _)
  · exact .refl s
  · exact .refl s
  · exact .refl s
  · exact .strayBits s

theorem Steady.portCompare (s : State) (addr : Byte) (expected mask : Word) :
    Steady s (s.portCompare addr expected mask) := by
  unfold State.portCompare
  split
  · exact .portTo s _ _
  · split
    · exact .portTo s _ _
    · exact (Steady.setPortError s).trans (.portTo _ _ _)
  · exact .refl s
  · exact .refl s
  · exact .refl s
  · exact .strayBits s

theorem Steady.takeEvents (s : State) : Steady s s.takeEvents := by
  unfold State.takeEvents
  split
  · exact .portTo s _ _
  · exact .refl s
  · exact .strayBits s

theorem Steady.eventsShifted (s : State) : Steady s s.eventsShifted := by
  unfold State.eventsShifted
  split
  · exact (Steady.clearReported s _ _).trans (.portTo _ _ _)
  · exact .strayBits s

theorem Steady.eventRead (s : State) (part : ReadPart) {t : State} (h : execEventRead s part = .next t) :
    Steady s t := by
  have on {f : State → State} (hf : ∀ s, Steady s (f s)) : Steady s (s.wordOn Page.isChannel f) := by
    unfold State.wordOn
    split
    · exact hf s
    · exact .refl s
  cases part <;> cases h
  · exact on fun s => .portRead s _
  · exact on .takeEvents
  · exact .eventsShifted s

/-! ### Every command -/

theorem Steady.onChannel (s : State) (c : Channel) (f : ChannelEngine → ChannelEngine) : Steady s (s.onChannel c f) :=
  (Steady.updCh s c f).presenting

/-- Everything a command can do to the rows, the topic index and the attention list. -/
theorem exec_rowsEffect {i : Instr} {s t : State} (h : exec i s = .next t) : RowsEffect s t := by
  cases i
  case pinReset selLow => cases h; exact .resetBlocks s _ _
  case portStatusByte control => cases h; exact .of_eq rfl rfl rfl
  case endInsideTransaction bits =>
    simp only [exec, execEndInsideTransaction] at h
    split at h <;> cases h
    · exact .of_eq rfl rfl rfl
    · exact (Steady.refl s).effect
  case registerWrite addr data mask => cases h; exact .portWrite s addr data mask
  case compare addr expected mask => cases h; exact (Steady.portCompare s addr expected mask).effect
  case eventRead part => exact (Steady.eventRead s part h).effect
  case readAtAbsentAddress addr => cases h; exact (Steady.portRead s addr).effect
  case softReset | attnEnable | eventEnableWrite | configWrite | channelEnable | channelDisable | restart | recover |
      clearCounters | declare | amend | find | list | fetch | post | send | _ | cancel | suspend | resume | retire |
      take | clearTable | unknownCommand => cases h; exact .wordOn s _ _ _ _
  case commandTransaction =>
    simp only [exec, execCommandTransaction] at h
    split at h <;> cases h
    · exact .transact (.commandTransaction _ _ _)
    · exact (Steady.refl s).effect
  case tick => cases h; exact (Steady.tick s).presenting.effect
  case deadlineDue =>
    simp only [exec, execDeadlineDue] at h
    split at h <;> cases h
    · exact ((Steady.makeDue s _).trans (.presentDue _)).presenting.effect
    · exact (Steady.refl s).effect
  case freshnessExpiry => cases h; exact .takeExpiry _ fun _ _ r u => .applyFreshness u r
  case refreshExpiry => cases h; exact .takeExpiry _ fun _ v r u => (u.trans (.applyRefresh v r)).effect
  case inhibitGapExpiry => cases h; exact .takeExpiry _ fun _ v r u => (u.trans (.applyGap v r)).effect
  case publishArrival c =>
    simp only [exec, execPublishArrival] at h
    split at h <;> cases h
    · next p rest queue => exact .transact (.publishTransaction (queue ▸ List.mem_cons_self))
    · exact (Steady.refl s).effect
  case recallArrival c =>
    simp only [exec, execRecallArrival] at h
    split at h <;> cases h
    · exact .transact (Steady.recallTransaction _ c _).effect
    · exact (Steady.refl s).effect
  case attemptStart c =>
    simp only [exec, execAttemptStart] at h
    split at h <;> cases h
    · exact .transact (Steady.attemptStartTransaction _ c).effect
    · exact (Steady.refl s).effect
  case attemptOutcome c =>
    simp only [exec, execAttemptOutcome] at h
    split at h <;> cases h
    · exact .transact (.outcomeTransaction _ c _)
    · exact (Steady.refl s).effect
  case removalTransaction c =>
    simp only [exec, execRemovalTransaction] at h
    split at h <;> cases h
    · exact .transact (.removalTransaction _ c)
    · exact (Steady.refl s).effect
  case publishReceived | recallReceived | confirmReceived | tokenReceived | joinCallReceived | joinReplyReceived |
      checkFailure | unknownKindTelegram | framingFault | startBit | endGap | attemptEcho | replyWindowExpiry |
      passWindowExpiry | claimEcho => cases h; exact (Steady.onChannel s _ _).effect
  case unmatchedRingTelegram c kind source target => cases kind <;> cases h <;> exact (Steady.onChannel s _ _).effect
  case recoveryIntervalExpiry | sendReply | replyLatestStart | replyEcho | joinCallEcho | passTokenEcho |
      silenceTimerExpiry | claimTransmit => cases h; exact (Steady.updCh s _ _).effect

/-- The queue of commands does not matter to the rows. -/
theorem step_rowsEffect {s t : State} (h : step s = .next t) : RowsEffect s t := by
  cases queue : s.pending with
  | nil =>
    rw [step_nil queue] at h
    cases h
    exact (Steady.refl s).effect
  | cons c rest =>
    rw [step_cons queue] at h
    exact .of_rotation (q := s.served) (o := s.turn) (exec_rowsEffect h)

end Sys2Proof.Machine
end

section
/-! PROOFS. What every step keeps of the rows (O57's half, O60), the topic index and the attention list (O58). -/

namespace Sys2Proof.Machine

set_option Elab.async false

/-! ### The topic index (R26) -/

/-- The index speaks of a row's topic and of whether the row is FREE. -/
theorem SameCores.topicsOk {s t : State} (h : SameCores s t) (ok : s.TopicsOk) : t.TopicsOk where
  once := h.topicIndex ▸ ok.once
  entries topic r := by
    have state : (t.row r).state = (s.row r).state := (congrArg Row.state (h.rows r) :)
    have topics : (t.row r).topic = (s.row r).topic := (congrArg Row.topic (h.rows r) :)
    rw [h.topicIndex, state, topics]
    exact ok.entries topic r

/-- A row that moves keeps its topic and stays in use. -/
theorem Row.Moves.keeps {s : State} {row new : Row} (m : row.Moves s new) :
    new.topic = row.topic ∧ row.state ≠ .free ∧ new.state ≠ .free := by
  have serving {row : Row} (h : row.inService = true) : row.state ≠ .free := by
    intro free
    simp [Row.inService, free] at h
  cases m with
  | post bytes _ used => exact ⟨rfl, used, nofun⟩
  | accept c p _ serves => exact ⟨rfl, serving serves, nofun⟩
  | stale _ state => exact ⟨rfl, by obtain h | h := state <;> simp [h], nofun⟩
  | suspend used => exact ⟨rfl, used, nofun⟩
  | retire used => exact ⟨rfl, used, nofun⟩
  | resume suspended =>
    refine ⟨rfl, by simp [suspended], ?_⟩
    simp only [resumedState]
    split
    · nofun
    · split <;> nofun
  | amend p used => exact ⟨rfl, used, used⟩

theorem State.topicsOk_moved {s : State} {r : RowId} {row : Row} (m : (s.row r).Moves s row) (ok : s.TopicsOk) :
    (s.updRow r fun _ => row).TopicsOk where
  once := ok.once
  entries topic q := by
    obtain ⟨topics, used, kept⟩ := m.keeps
    have stood := ok.entries topic q
    rw [State.updRow_topicIndex, State.row_updRow]
    split
    · next e => subst e; simpa [used, kept, topics] using stood
    · exact stood

theorem State.topicsOk_freeRow {s : State} (r : RowId) (ok : s.TopicsOk) : (s.freeRow r).TopicsOk where
  once := ok.once.sublist (List.filter_sublist.map _)
  entries topic q := by
    have stood := ok.entries topic q
    simp only [State.freeRow_topicIndex, List.mem_filter, decide_eq_true_eq]
    by_cases e : r = q
    · subst e; simp [Row.free]
    · simp [State.freeRow_row_ne _ e, stood, Ne.symm e]

/-- A topic that the index does not map stands in none of its entries. -/
theorem State.not_mem_of_lookup {s : State} {topic : Word} (h : s.lookup topic = none) (r : RowId) :
    (topic, r) ∉ s.topicIndex := by
  intro mem
  have := List.find?_eq_none.1 (Option.map_eq_none_iff.1 h) _ mem
  simp at this

/-- The row a DECLARE sets up is the declared one but for its deadlines. -/
theorem State.takeRow_row_self (s : State) (r : RowId) (d : DeclareParams) :
    ((s.takeRow r d).row r).core = (declaredRow d).core := by
  simp only [State.takeRow, State.startDeadline_row_self, Row.core_withDeadline]
  exact congrArg Row.core (State.row_updRow_self s r fun _ => declaredRow d)

theorem State.takeRow_row_ne (s : State) {r q : RowId} (h : r ≠ q) (d : DeclareParams) :
    (s.takeRow r d).row q = s.row q := by
  simp only [State.takeRow, State.startDeadline_row_ne _ _ h]
  exact State.row_updRow_ne s (fun _ => declaredRow d) h

theorem State.takeRow_topicIndex (s : State) (r : RowId) (d : DeclareParams) :
    (s.takeRow r d).topicIndex = s.topicIndex ++ [(d.topic, r)] := rfl

theorem declaredRow_used (d : DeclareParams) : (declaredRow d).state ≠ .free := by
  simp only [declaredRow]
  split <;> nofun

theorem State.topicsOk_takeRow {s : State} {r : RowId} {d : DeclareParams} (free : (s.row r).state = .free)
    (new : s.lookup d.topic = none) (ok : s.TopicsOk) : (s.takeRow r d).TopicsOk where
  once := by
    have fresh : ∀ e ∈ s.topicIndex, e.1 ≠ d.topic := by
      rintro ⟨topic, q⟩ mem rfl
      exact State.not_mem_of_lookup new q mem
    simpa [State.takeRow_topicIndex, List.nodup_append, ok.once] using fresh
  entries topic q := by
    have stood := ok.entries topic q
    rw [State.takeRow_topicIndex, List.mem_append, List.mem_singleton, Prod.mk.injEq, stood]
    by_cases e : r = q
    · subst e
      have same := State.takeRow_row_self s r d
      have state : ((s.takeRow r d).row r).state = (declaredRow d).state := (congrArg Row.state same :)
      have topics : ((s.takeRow r d).row r).topic = some d.topic := (congrArg Row.topic same :)
      have used := declaredRow_used d
      simpa [state, topics, used, free] using eq_comm
    · simp [State.takeRow_row_ne s e, Ne.symm e]

theorem RowsStep.topicsOk {s t : State} (h : RowsStep s t) (ok : s.TopicsOk) : t.TopicsOk := by
  cases h with
  | steady same => exact same.topicsOk ok
  | moved r row m same => exact same.topicsOk (State.topicsOk_moved m ok)
  | freed r same => exact same.topicsOk (State.topicsOk_freeRow r ok)
  | declared r p free fault new same => exact same.topicsOk (State.topicsOk_takeRow free new ok)
  | cleared rows index =>
    have free (r : RowId) : (t.row r).state = .free := (congrArg Row.state (rows r) :)
    exact ⟨by simp [index], by simp [index, free]⟩

/-- Settles O58: `step_rowsEffect` says what a step can do to the rows, the index and the list. -/
theorem stepsKeepAttentionAndTopics : Obligations.StepsKeepAttentionAndTopics := by
  intro s t attention topics h
  have effect := step_rowsEffect h
  exact ⟨effect.list attention, effect.rows.topicsOk topics⟩

/-! ### The identity of a row (R3 to R6) -/

/-- What a row in use keeps, and how its image, generation and sequence go on (R3 to R6). -/
structure Row.Continues (row new : Row) : Prop where
  topic : new.topic = row.topic
  role : new.role = row.role
  cls : new.cls = row.cls
  length : new.length = row.length
  sourceMask : new.sourceMask = row.sourceMask
  sendMask : new.sendMask = row.sendMask
  image : row.image.isSome = true → new.image.isSome = true
  generation : (new.generation = row.generation ∧ new.image = row.image ∧ new.sequence = row.sequence) ∨
    (new.generation = row.generation + 1 ∧ new.image.isSome = true)

theorem Row.Continues.refl (row : Row) : row.Continues row := ⟨rfl, rfl, rfl, rfl, rfl, rfl, id, .inl ⟨rfl, rfl, rfl⟩⟩

/-- The identity of a row is part of what lasts. -/
theorem Row.Continues.congr {row new u : Row} (h : row.Continues new) (same : u.core = new.core) : row.Continues u where
  topic := (congrArg Row.topic same :).trans h.topic
  role := (congrArg Row.role same :).trans h.role
  cls := (congrArg Row.cls same :).trans h.cls
  length := (congrArg Row.length same :).trans h.length
  sourceMask := (congrArg Row.sourceMask same :).trans h.sourceMask
  sendMask := (congrArg Row.sendMask same :).trans h.sendMask
  image present := (congrArg (Option.isSome ∘ Row.image) same :).trans (h.image present)
  generation := by
    have generation : u.generation = new.generation := (congrArg Row.generation same :)
    have image : u.image = new.image := (congrArg Row.image same :)
    have sequence : u.sequence = new.sequence := (congrArg Row.sequence same :)
    rw [generation, image, sequence]
    exact h.generation

theorem Row.Moves.continues {s : State} {row new : Row} (m : row.Moves s new) : row.Continues new := by
  cases m with
  | post bytes => exact ⟨rfl, rfl, rfl, rfl, rfl, rfl, fun _ => rfl, .inr ⟨rfl, rfl⟩⟩
  | accept c p => exact ⟨rfl, rfl, rfl, rfl, rfl, rfl, fun _ => rfl, .inr ⟨rfl, rfl⟩⟩
  | stale | suspend | retire | resume | amend => exact ⟨rfl, rfl, rfl, rfl, rfl, rfl, id, .inl ⟨rfl, rfl, rfl⟩⟩

theorem RowsStep.continues {s t : State} (h : RowsStep s t) {r : RowId} (before : (s.row r).state ≠ .free)
    (after : (t.row r).state ≠ .free) : (s.row r).Continues (t.row r) := by
  have unchanged {u : State} (e : u.row r = s.row r) (same : SameCores u t) : (s.row r).Continues (t.row r) :=
    (Row.Continues.refl _).congr ((same.rows r).trans (congrArg Row.core e))
  cases h with
  | steady same => exact unchanged rfl same
  | moved q row m same =>
    by_cases e : q = r
    · subst e
      have moved := same.rows q
      rw [State.row_updRow_self] at moved
      exact m.continues.congr moved
    · exact unchanged (State.row_updRow_ne s _ e) same
  | freed q same =>
    by_cases e : q = r
    · subst e
      have free : (t.row q).state = .free := by
        have := same.rows q
        rw [State.freeRow_row_self] at this
        exact (congrArg Row.state this :)
      exact absurd free after
    · exact unchanged (State.freeRow_row_ne s e) same
  | declared q p free fault new same =>
    have e : q ≠ r := by rintro rfl; exact before free
    exact unchanged (State.takeRow_row_ne s e _) same
  | cleared rows index => exact absurd (congrArg Row.state (rows r) :) after

/-- Settles O60: a row in use moves as `Row.Moves` says, or keeps its lasting part. -/
theorem stepsKeepARowsIdentity : Obligations.StepsKeepARowsIdentity := by
  intro s t r h before after
  obtain ⟨topic, role, cls, length, sourceMask, sendMask, image, generation⟩ :=
    (step_rowsEffect h).rows.continues before after
  exact ⟨topic, role, cls, length, sourceMask, sendMask, image, generation⟩

/-! ### What the manual promises of a row -/

/-- The promise speaks of the lasting part alone. -/
theorem Row.Ok.congr {a b : Row} (ok : a.Ok) (same : b.core = a.core) : b.Ok := by
  have all : b.core.Ok := same ▸ ⟨ok.length, ok.image, ok.sequence, ok.produced, ok.consumed, ok.period, ok.source,
    ok.topic, ok.masks, ok.imaged, ok.stale⟩
  exact ⟨all.length, all.image, all.sequence, all.produced, all.consumed, all.period, all.source, all.topic, all.masks,
    all.imaged, all.stale⟩

theorem Row.free_ok : Row.free.Ok := Row.ok_of_check (by decide)

/-- No BAD_TIMING means what R8 asks of the periods. -/
theorem badTiming_eq_false {role : Role} {limit period : Word} {recallOnStale sequenceCheck : Bool}
    (h : badTiming role limit period recallOnStale sequenceCheck = false) :
    (period = 0 ∨ 10 ≤ period.toNat) ∧ (role = .consumed → period = 0) ∧
      (role = .produced → limit = 0 ∧ recallOnStale = false ∧ sequenceCheck = false) := by
  simp only [badTiming, Bool.or_eq_false_iff, Bool.and_eq_false_iff, decide_eq_false_iff_not] at h
  obtain ⟨range, suited⟩ := h
  refine ⟨?_, ?_, ?_⟩
  · by_cases zero : period.toNat = 0
    · exact .inl (BitVec.eq_of_toNat_eq zero)
    · right; omega
  · rintro rfl; simpa using suited
  · rintro rfl; simpa [and_assoc] using suited

theorem Row.Moves.ok {s : State} {row new : Row} (m : row.Moves s new)
    (heard : ∀ c p, Arrival.publish p ∈ (s.ch c).arrivalQueue → 1 ≤ p.source.toNat ∧ p.source.toNat ≤ 31)
    (ok : row.Ok) : new.Ok := by
  have used := m.keeps.2.1
  cases m with
  | post bytes produced _ _ _ sixteen =>
    refine { length := ok.length, produced := ok.produced, consumed := ok.consumed, period := ok.period
             source := ok.source, topic := fun _ => ok.topic used, masks := fun _ => ok.masks used, image := ?_
             sequence := fun _ => rfl, imaged := ⟨nofun, fun _ => rfl⟩, stale := nofun }
    rintro _ ⟨⟩
    have := ok.length
    simp only [Row.post, List.length_take]
    omega
  | accept c p consumed _ length queued =>
    have notProduced : ¬ (row.accept c p).role = .produced := by simp [Row.accept, consumed]
    refine { length := ok.length, produced := fun h => absurd h notProduced, consumed := ok.consumed, period := ok.period
             source := ?_, topic := fun _ => ok.topic used, masks := fun _ => ok.masks used, image := ?_
             sequence := fun h => absurd h notProduced, imaged := ⟨nofun, fun _ => rfl⟩, stale := nofun }
    · rintro _ ⟨⟩; exact length
    · rintro _ ⟨⟩; exact heard c p queued
  | stale consumed =>
    exact { ok with topic := fun _ => ok.topic used, masks := fun _ => ok.masks used, imaged := ⟨nofun, nofun⟩
                    stale := fun _ => consumed }
  | suspend =>
    exact { ok with topic := fun _ => ok.topic used, masks := fun _ => ok.masks used, imaged := ⟨nofun, nofun⟩
                    stale := nofun }
  | retire =>
    exact { ok with topic := fun _ => ok.topic used, masks := fun _ => ok.masks used, imaged := ⟨nofun, nofun⟩
                    stale := nofun }
  | resume =>
    refine { ok with topic := fun _ => ok.topic used, masks := fun _ => ok.masks used, imaged := ?_, stale := ?_ }
    · simp only [resumedState]
      cases image : row.image <;> cases row.role <;> simp
    · simp only [resumedState]
      cases row.image <;> cases row.role <;> simp
  | amend p _ timing =>
    obtain ⟨period, consumed, produced⟩ := badTiming_eq_false timing
    refine { ok with consumed := consumed, period := period, produced := fun role => ?_ }
    obtain ⟨station, channel, _⟩ := ok.produced role
    obtain ⟨limit, recallOnStale, sequenceCheck⟩ := produced role
    exact ⟨station, channel, limit, recallOnStale, sequenceCheck⟩

/-- What passing the checks of DECLARE means (R164). -/
theorem declareFault_eq_none {d : DeclareParams} (h : declareFault d = none) :
    (1 ≤ d.topic.toNat ∧ d.topic.toNat ≤ 4094) ∧ d.length ≤ 16 ∧ badMask d.role d.sourceMask d.sendMask = false ∧
      badTiming d.role d.freshnessLimit d.refreshPeriod d.recallOnStale d.sequenceCheck = false := by
  unfold declareFault at h
  split_ifs at h with topic length mask timing
  simp only [Config.maxLength] at length
  exact ⟨by omega, by omega, by simpa using mask, by simpa using timing⟩

theorem declaredRow_ok {d : DeclareParams} (fault : declareFault d = none) (sixteen : d.image.length = 16) :
    (declaredRow d).Ok := by
  obtain ⟨topic, length, mask, timing⟩ := declareFault_eq_none fault
  obtain ⟨period, consumed, produced⟩ := badTiming_eq_false timing
  refine { length := length, consumed := consumed, period := period, source := nofun
           topic := fun _ => ⟨d.topic, rfl, topic⟩, produced := fun role => ⟨rfl, rfl, produced role⟩
           image := ?_, sequence := ?_, masks := fun _ => ?_, imaged := ?_, stale := ?_ }
  · intro bytes h
    simp only [declaredRow] at h ⊢
    split at h
    · cases h; simp only [List.length_take]; omega
    · cases h
  · intro role
    have role : d.role = .produced := role
    simp only [declaredRow, role]
    cases d.initialImage <;> rfl
  · cases role : d.role <;> simp only [declaredRow, role] <;> simp [badMask, role] at mask ⊢ <;> tauto
  · simp only [declaredRow]
    cases d.initialImage <;> simp
  · simp only [declaredRow]
    cases d.initialImage <;> simp

/-- Every step keeps every row as the manual promises, given what the arrival queues hold. -/
theorem RowsStep.rowsOk {s t : State} (h : RowsStep s t)
    (heard : ∀ c p, Arrival.publish p ∈ (s.ch c).arrivalQueue → 1 ≤ p.source.toNat ∧ p.source.toNat ≤ 31)
    (ok : ∀ r, (s.row r).Ok) (r : RowId) : (t.row r).Ok := by
  cases h with
  | steady same => exact (ok r).congr (same.rows r)
  | moved q row m same =>
    refine Row.Ok.congr ?_ (same.rows r)
    rw [State.row_updRow]
    split
    · exact m.ok heard (ok q)
    · exact ok r
  | freed q same =>
    refine Row.Ok.congr ?_ (same.rows r)
    by_cases e : q = r
    · subst e; rw [State.freeRow_row_self]; exact Row.free_ok
    · rw [State.freeRow_row_ne s e]; exact ok r
  | declared q p free fault new same =>
    by_cases e : q = r
    · subst e
      exact (declaredRow_ok fault (imageBytes_length p (by decide))).congr
        ((same.rows q).trans (State.takeRow_row_self s q _))
    · refine Row.Ok.congr ?_ (same.rows r)
      rw [State.takeRow_row_ne s e]; exact ok r
  | cleared rows index => exact Row.free_ok.congr (rows r)

end Sys2Proof.Machine
end

section
/-! PROOFS. What the manual promises of a channel engine (O57's half): a channel that is not OFFLINE, through the
operations of its line and its token logic. -/

namespace Sys2Proof.Machine

set_option Elab.async false

/-- What holds of a channel engine that is not OFFLINE, whatever its token state. -/
structure ChannelEngine.Online (ce : ChannelEngine) : Prop where
  live : ce.state ≠ .offline
  enable : ce.enable = true
  valid : ce.configValid = true
  line : ce.rx ≠ .off
  reservations : ce.reservationCount ≤ 24
  arrivals : ce.arrivalQueue.length ≤ 4
  replies : ce.replyQueue.length ≤ 4
  errorRun : ce.errorRun ≤ 31
  joinCount : ce.joinCount ≤ 254
  ascending : ce.stationList.Pairwise (fun a b => a < b)
  others : ∀ n ∈ ce.stationList, 1 ≤ n ∧ n ≤ 31 ∧ n ≠ ce.own.toNat
  heard : ∀ p, Arrival.publish p ∈ ce.arrivalQueue → 1 ≤ p.source.toNat ∧ p.source.toNat ≤ 31 ∧ p.payload.length ≤ 16

/-- And what its token state asks of its reply queue, visit, pass and waiting telegram. -/
structure ChannelEngine.Sound (ce : ChannelEngine) : Prop extends ce.Online where
  quiet : ce.sendsReplies = false → ce.replyQueue = []
  visits : ce.visit.isSome = true ↔ ce.state = .holding
  budget : ∀ v, ce.visit = some v → v.count ≤ ce.visitBudget
  passes : ce.pass.isSome = true ↔ ce.state = .passing
  waits : ce.waiting.isSome = true → ce.state = .holding ∨ ce.state = .passing

/-- The silence timer runs only where R144 lets it. -/
def ChannelEngine.Timed (ce : ChannelEngine) : Prop :=
  ce.silenceTimer.isSome = true → (ce.state = .listening ∨ ce.state = .receiving) ∧ ce.lineIdle = true

namespace ChannelEngine

variable {ce : ChannelEngine}

theorem Ok.sound (ok : ce.Ok) (live : ce.state ≠ .offline) : ce.Sound :=
  { ok with
    live := live, enable := ok.enabled.2 live, valid := ok.configured live, line := fun off => live (ok.footing.1 off) }

theorem Sound.ok (h : ce.Sound) (timed : ce.Timed) : ce.Ok :=
  { h with
    silence := timed, enabled := iff_of_true h.enable h.live, configured := fun _ => h.valid
    offline := fun off => absurd off h.live, footing := iff_of_false h.line h.live }

/-- No telegram of the token logic waits, and no visit and no pass runs, outside HOLDING and PASSING. -/
theorem Sound.empty (h : ce.Sound) (holding : ce.state ≠ .holding) (passing : ce.state ≠ .passing) :
    ce.visit = none ∧ ce.pass = none ∧ ce.waiting = none := by
  refine ⟨?_, ?_, ?_⟩
  · simpa using mt h.visits.1 holding
  · simpa using mt h.passes.1 passing
  · simpa using mt h.waits (not_or.2 ⟨holding, passing⟩)

/-- A timer that is stopped is in order. -/
theorem timed_of_none (h : ce.silenceTimer = none) : ce.Timed := by
  intro running
  simp [h] at running

/-- A channel in another state, or whose line is not idle, has its timer stopped. -/
theorem Timed.stopped (h : ce.Timed) (out : (ce.state ≠ .listening ∧ ce.state ≠ .receiving) ∨ ce.lineIdle = false) :
    ce.silenceTimer = none := by
  cases timer : ce.silenceTimer with
  | none => rfl
  | some n =>
    obtain ⟨state, idle⟩ := h (by simp [timer])
    obtain ⟨a, b⟩ | busy := out
    · exact absurd state (not_or.2 ⟨a, b⟩)
    · rw [busy] at idle; cases idle

/-! ### The line -/

theorem timed_restartSilence : ce.restartSilence.Timed := by
  intro running
  have idle : ce.lineIdle = true := by
    by_contra busy
    simp [restartSilence, busy] at running
  refine ⟨?_, idle⟩
  have length : ce.silenceLength.isSome = true := by simpa [restartSilence, idle] using running
  unfold silenceLength at length
  split at length
  · next state => exact .inl state
  · next state => exact .inr state
  · cases length

theorem Timed.begin (h : ce.Timed) : ce.begin.Timed := by
  obtain e | ⟨_, _, _, _, e⟩ := ce.begin_cases
  · rwa [e]
  · rw [e]; exact timed_of_none rfl

theorem timed_settle : ce.settle.Timed := timed_restartSilence.begin

theorem Sound.begin (h : ce.Sound) : ce.begin.Sound := by
  obtain e | ⟨_, _, _, _, e⟩ := ce.begin_cases
  · rwa [e]
  · rw [e]; exact { h with waits := nofun }

theorem Sound.restartSilence (h : ce.Sound) : ce.restartSilence.Sound := { h with }

theorem Sound.settle (h : ce.Sound) : ce.settle.Sound := h.restartSilence.begin

theorem Online.setEvent (h : ce.Online) (f : EventFlag) : (ce.setEvent f).Online := { h with }

theorem Sound.queueReply (h : ce.Sound) (sends : ce.sendsReplies = true) (t : Telegram) : (ce.queueReply t).Sound := by
  unfold ChannelEngine.queueReply
  split
  · next room =>
    refine { h with replies := ?_, quiet := fun off => ?_ }
    · simp only [List.length_append, List.length_singleton]
      exact room
    · exact absurd (sends.symm.trans off) nofun
  · exact h

/-! ### The send side -/

theorem reservationCount_congr {a b : ChannelEngine} (lists : a.lists = b.lists)
    (flying : a.inFlight.isSome = b.inFlight.isSome) : a.reservationCount = b.reservationCount := by
  simp only [reservationCount, pendingCount, lists, flying]

theorem Online.endAttempt (h : ce.Online) (o : AttemptOutcome) : (ce.endAttempt o).Online := by
  obtain e | ⟨f, flying, _, e⟩ := ce.endAttempt_cases o
  · rwa [e]
  · have same : (ce.endAttempt o).reservationCount = ce.reservationCount := by
      rw [e]
      exact reservationCount_congr rfl (by simp [flying])
    rw [e] at same ⊢
    exact { h with reservations := same.trans_le h.reservations }

theorem Sound.endAttempt (h : ce.Sound) (o : AttemptOutcome) : (ce.endAttempt o).Sound := by
  have online := h.toOnline.endAttempt o
  obtain e | ⟨f, _, _, e⟩ := ce.endAttempt_cases o
  · rwa [e]
  · rw [e] at online ⊢
    exact { online, h with }

/-- The end of an attempt concerns the in-flight record and the requests alone. -/
theorem endAttempt_eq (ce : ChannelEngine) (o : AttemptOutcome) :
    { ce.endAttempt o with inFlight := ce.inFlight, requests := ce.requests } = ce := by
  obtain e | ⟨f, _, _, e⟩ := ce.endAttempt_cases o <;> rw [e]

@[simp] theorem endAttempt_state (ce : ChannelEngine) (o : AttemptOutcome) : (ce.endAttempt o).state = ce.state :=
  (congrArg ChannelEngine.state (ce.endAttempt_eq o) :)

theorem Timed.endAttempt (h : ce.Timed) (o : AttemptOutcome) : (ce.endAttempt o).Timed := by
  obtain e | ⟨f, _, _, e⟩ := ce.endAttempt_cases o
  · rwa [e]
  · rw [e]; exact h

theorem Sound.requestAttempt (h : ce.Sound) : ce.requestAttempt.Sound := by
  unfold ChannelEngine.requestAttempt
  split
  · exact h
  · exact { h with }

@[simp] theorem requestAttempt_silenceTimer : ce.requestAttempt.silenceTimer = ce.silenceTimer := by
  unfold requestAttempt
  split <;> rfl

/-! ### Visits and passes -/

theorem Online.enterHolding (h : ce.Online) : ce.enterHolding.Sound :=
  { h with
    live := nofun, quiet := nofun, visits := iff_of_true rfl rfl, passes := iff_of_false nofun nofun
    budget := by rintro _ ⟨⟩; exact Nat.zero_le _
    waits := fun _ => .inl rfl }

/-- Step 2 of a visit touches the join count and the join cursor alone. -/
theorem joinStep_eq (ce : ChannelEngine) :
    { ce.joinStep.1 with joinCount := ce.joinCount, joinCursor := ce.joinCursor } = ce := by
  unfold joinStep
  split
  · rfl
  · split
    · split <;> rfl
    · rfl

@[simp] theorem joinStep_state (ce : ChannelEngine) : ce.joinStep.1.state = ce.state :=
  (congrArg ChannelEngine.state ce.joinStep_eq :)

@[simp] theorem joinStep_silenceTimer (ce : ChannelEngine) : ce.joinStep.1.silenceTimer = ce.silenceTimer :=
  (congrArg ChannelEngine.silenceTimer ce.joinStep_eq :)

theorem joinStep_joinCount (h : ce.joinCount ≤ 254) : ce.joinStep.1.joinCount ≤ 254 := by
  unfold joinStep
  split
  · exact Nat.zero_le _
  · split
    · split <;> exact Nat.zero_le _
    · next due =>
      have short : ce.joinInterval < 256 := Nat.mod_lt _ (by decide)
      simp only [not_or, not_le] at due
      show ce.joinCount + 1 ≤ 254
      omega

theorem Sound.joinStep (h : ce.Sound) : ce.joinStep.1.Sound := by
  have count := joinStep_joinCount h.joinCount
  have same := ce.joinStep_eq
  generalize ce.joinStep.1 = u at count same
  rw [← same] at h
  exact { h with joinCount := count }

theorem Sound.callStation (h : ce.Sound) (holding : ce.state = .holding) (t : Nat) : (ce.callStation t).Sound :=
  { h with
    visits := by simpa [ChannelEngine.callStation] using h.visits
    budget := by
      intro v called
      obtain ⟨x, visit, rfl⟩ := Option.map_eq_some_iff.1 called
      exact h.budget x visit
    waits := fun _ => .inl holding }

theorem Online.startPass (h : ce.Online) (t : Nat) : (ce.startPass t).Sound :=
  { h with
    live := nofun, quiet := nofun, visits := iff_of_false nofun nofun, passes := iff_of_true rfl rfl
    budget := nofun, waits := fun _ => .inr rfl }

theorem Online.visitAlone (h : ce.Online) : ce.visitAlone.Sound := by
  have held : ce.enterHolding.Sound := h.enterHolding
  unfold ChannelEngine.visitAlone
  dsimp only
  split
  · exact held
  · split
    · exact held.requestAttempt
    · have stepped := held.joinStep
      have state := ce.enterHolding.joinStep_state
      split
      · next u t e =>
        rw [e] at stepped state
        exact stepped.callStation state t
      · next u e =>
        rw [e] at stepped
        exact stepped

theorem visitAlone_silenceTimer : ce.visitAlone.silenceTimer = none := by
  unfold visitAlone
  dsimp only
  split
  · rfl
  · split
    · exact requestAttempt_silenceTimer
    · have timer := ce.enterHolding.joinStep_silenceTimer
      split <;> next e => rw [e] at timer; exact timer

theorem Online.passOn (h : ce.Online) : ce.passOn.Sound := by
  unfold ChannelEngine.passOn
  split
  · exact h.startPass _
  · exact h.visitAlone

theorem passOn_silenceTimer : ce.passOn.silenceTimer = none := by
  unfold passOn
  split
  · rfl
  · exact visitAlone_silenceTimer

theorem Sound.afterAttempts (h : ce.Sound) (holding : ce.state = .holding) : ce.afterAttempts.Sound := by
  have stepped := h.joinStep
  have state := ce.joinStep_state
  unfold ChannelEngine.afterAttempts
  split
  · next u t e =>
    rw [e] at stepped state
    exact stepped.callStation (state.trans holding) t
  · next u e =>
    rw [e] at stepped
    exact stepped.toOnline.passOn

theorem Timed.afterAttempts (h : ce.Timed) (holding : ce.state = .holding) : ce.afterAttempts.Timed := by
  have timer := ce.joinStep_silenceTimer.trans (h.stopped (.inl (by simp [holding])))
  unfold ChannelEngine.afterAttempts
  split
  · next e => rw [e] at timer; exact timed_of_none timer
  · exact timed_of_none passOn_silenceTimer

theorem Sound.runAttempts (h : ce.Sound) : ce.runAttempts.Sound := by
  unfold ChannelEngine.runAttempts
  split
  · next holding _ =>
    split
    · exact h
    · split
      · exact h.requestAttempt
      · exact h.afterAttempts holding
  · exact h

theorem Timed.runAttempts (h : ce.Timed) : ce.runAttempts.Timed := by
  unfold ChannelEngine.runAttempts
  split
  · next holding _ =>
    split
    · exact h
    · split
      · exact timed_of_none (requestAttempt_silenceTimer.trans (h.stopped (.inl (by simp [holding]))))
      · exact h.afterAttempts holding
  · exact h

theorem Online.beginVisit (h : ce.Online) : ce.beginVisit.Sound := h.enterHolding.runAttempts

theorem Sound.wake (h : ce.Sound) : ce.wake.Sound := by
  obtain e | ⟨_, _, e⟩ := ce.wake_cases
  · rwa [e]
  · rw [e]; exact h.runAttempts.begin

theorem Timed.wake (h : ce.Timed) : ce.wake.Timed := by
  obtain e | ⟨_, _, e⟩ := ce.wake_cases
  · rwa [e]
  · rw [e]; exact h.runAttempts.begin

theorem Sound.sendToken (h : ce.Sound) (passing : ce.state = .passing) (p : Pass) : (ce.sendToken p).Sound :=
  { h with passes := iff_of_true rfl passing, waits := fun _ => .inr passing }

theorem Sound.tryFailed (h : ce.Sound) : ce.tryFailed.Sound := by
  unfold ChannelEngine.tryFailed
  split
  · next p pass =>
    split
    · have left : ({ ce with
          stationList := ce.stationList.filter (fun x => x ≠ p.station.toNat), pass := none }).Online :=
        { h.toOnline with
          ascending := h.ascending.filter _
          others := fun n listed => h.others n (List.mem_filter.1 listed).1 }
      exact Online.passOn { left with }
    · exact h.sendToken (h.passes.1 (by simp [pass])) _
  · exact h

theorem Timed.tryFailed (h : ce.Timed) : ce.tryFailed.Timed := by
  unfold ChannelEngine.tryFailed
  split
  · split
    · exact timed_of_none passOn_silenceTimer
    · exact h
  · exact h

/-! ### Conflicts, SILENT and LISTENING -/

theorem Online.conflict (h : ce.Online) : ce.conflict.Sound :=
  { h.endAttempt .lineError with
    live := nofun, quiet := nofun, visits := iff_of_false nofun nofun, passes := iff_of_false nofun nofun
    budget := nofun, waits := nofun }

theorem timed_conflict : ce.conflict.Timed := timed_restartSilence

theorem Online.enterSilent (h : ce.Online) : ce.enterSilent.Sound :=
  { h.endAttempt .lineError with
    live := nofun, quiet := fun _ => rfl, visits := iff_of_false nofun nofun, passes := iff_of_false nofun nofun
    replies := Nat.zero_le _, budget := nofun, waits := nofun }

theorem timed_enterSilent : ce.enterSilent.Timed := timed_of_none rfl

/-- LISTENING entered from a state with no visit, no pass and nothing waiting. -/
theorem Online.enterListening (h : ce.Online) (visit : ce.visit = none) (pass : ce.pass = none)
    (waiting : ce.waiting = none) : ce.enterListening.Sound :=
  { h with
    live := nofun, quiet := nofun, visits := iff_of_false (by simp [ChannelEngine.enterListening,
      ChannelEngine.restartSilence, visit]) nofun
    passes := iff_of_false (by simp [ChannelEngine.enterListening, ChannelEngine.restartSilence, pass]) nofun
    errorRun := Nat.zero_le _, joinCount := Nat.zero_le _
    budget := fun v h => nomatch visit.symm.trans h
    waits := by simp [ChannelEngine.enterListening, ChannelEngine.restartSilence, waiting] }

theorem timed_enterListening : ce.enterListening.Timed := timed_restartSilence

theorem Online.raise (h : ce.Online) : ({ ce with errorRun := min Config.errorRunStop (ce.errorRun + 1) }).Online :=
  { h with errorRun := min_le_left _ _ }

theorem Sound.raiseErrorRun (h : ce.Sound) : ce.raiseErrorRun.Sound := by
  have raised := h.toOnline.raise
  unfold ChannelEngine.raiseErrorRun
  dsimp only
  split
  · exact raised.enterSilent
  · exact { raised, h with }

theorem Timed.raiseErrorRun (h : ce.Timed) : ce.raiseErrorRun.Timed := by
  unfold ChannelEngine.raiseErrorRun
  dsimp only
  split
  · exact timed_enterSilent
  · exact h

theorem Sound.leaveClaim (h : ce.Sound) (claiming : ce.state = .claiming) : ce.leaveClaim.Sound := by
  obtain ⟨visit, pass, waiting⟩ := h.empty (by simp [claiming]) (by simp [claiming])
  have back (x : ChState) (live : x = .listening ∨ x = .receiving) : ({ ce with state := x }).Sound := by
    obtain rfl | rfl := live <;>
    exact { h.toOnline with
      live := nofun, quiet := nofun, visits := by simp [visit], passes := by simp [pass], budget := h.budget
      waits := by simp [waiting] }
  have claimed := back (match ce.claimedFrom with
    | .listening => .listening
    | .receiving => .receiving) (by cases ce.claimedFrom <;> simp)
  exact claimed.restartSilence

theorem Sound.recoverNow (h : ce.Sound) : ce.recoverNow.Sound := by
  unfold ChannelEngine.recoverNow
  split
  · next silent =>
    obtain ⟨visit, pass, waiting⟩ := h.empty (by simp [silent]) (by simp [silent])
    exact (h.toOnline.setEvent _).enterListening visit pass waiting
  · exact h

theorem Timed.recoverNow (h : ce.Timed) : ce.recoverNow.Timed := by
  unfold ChannelEngine.recoverNow
  split
  · exact timed_enterListening
  · exact h

end ChannelEngine

end Sys2Proof.Machine
end

section
/-! PROOFS. What the manual promises of a channel engine: telegrams received, echoes, line timers and the replies. -/

namespace Sys2Proof.Machine

set_option Elab.async false

namespace ChannelEngine

variable {ce : ChannelEngine}

/-! ### Windows (R129 to R131, R151) -/

theorem Sound.unanswered (h : ce.Sound) : ce.unanswered.Sound := by
  have closed : ({ ce with replyWindow := none }).Sound := { h with }
  unfold ChannelEngine.unanswered
  split
  · split
    · exact closed.endAttempt _
    · exact closed.toOnline.passOn
  · exact h

theorem Timed.unanswered (h : ce.Timed) : ce.unanswered.Timed := by
  unfold ChannelEngine.unanswered
  split
  · split
    · exact Timed.endAttempt (ce := { ce with replyWindow := none }) h _
    · exact timed_of_none passOn_silenceTimer
  · exact h

theorem Sound.answered (h : ce.Sound) : ce.answered.Sound := by
  have closed : ({ ce with replyWindow := none }).Sound := { h with }
  unfold ChannelEngine.answered
  split
  · split
    · exact closed.endAttempt _
    · exact closed.toOnline.passOn
  · exact h

theorem Sound.closeIfRanOut (h : ce.Sound) (inWindow : Bool) : (ce.closeIfRanOut inWindow).Sound := by
  unfold ChannelEngine.closeIfRanOut
  split
  · split
    · split
      · exact h.unanswered
      · exact h
    · split
      · split
        · split
          · exact h.tryFailed
          · exact h
        · exact h
      · exact h
  · exact h

/-! ### The station list (R142) -/

theorem mem_insertStation {n m : Nat} {l : List Nat} : m ∈ insertStation n l ↔ m = n ∨ m ∈ l := by
  induction l with
  | nil => simp [insertStation]
  | cons x l ih =>
    unfold insertStation
    split
    · simp
    · split
      · next same => subst same; simp
      · simp only [List.mem_cons, ih]; tauto

theorem insertStation_ascending {n : Nat} {l : List Nat} (h : l.Pairwise (fun a b => a < b)) :
    (insertStation n l).Pairwise (fun a b => a < b) := by
  induction l with
  | nil => simp [insertStation]
  | cons x l ih =>
    obtain ⟨first, rest⟩ := List.pairwise_cons.1 h
    unfold insertStation
    split
    · next below =>
      refine List.pairwise_cons.2 ⟨fun m mem => ?_, h⟩
      obtain rfl | mem := List.mem_cons.1 mem
      · exact below
      · exact below.trans (first m mem)
    · split
      · exact h
      · refine List.pairwise_cons.2 ⟨fun m mem => ?_, ih rest⟩
        obtain rfl | mem := mem_insertStation.1 mem
        · omega
        · exact first m mem

theorem Sound.learn (h : ce.Sound) {source : Byte} (low : 1 ≤ source.toNat) (high : source.toNat ≤ 31)
    (other : source ≠ ce.own) : (ce.learn source).Sound := by
  unfold ChannelEngine.learn
  split
  · exact h
  · refine { h with ascending := insertStation_ascending h.ascending, others := fun n mem => ?_ }
    obtain rfl | mem := mem_insertStation.1 mem
    · exact ⟨low, high, fun same => other (BitVec.eq_of_toNat_eq same)⟩
    · exact h.others n mem

/-! ### Telegrams received (R125, R127, R142 to R153) -/

theorem Sound.countAndOffer (h : ce.Sound) {t : Telegram} (good : GoodFor ce t) : (ce.countAndOffer t).Sound := by
  unfold ChannelEngine.countAndOffer
  split
  · next a offered =>
    split
    · next room =>
      refine { h with arrivals := ?_, heard := fun p mem => ?_ }
      · show (ce.arrivalQueue ++ [a]).length ≤ 4
        simp only [List.length_append, List.length_singleton]
        exact room
      · have mem : Arrival.publish p ∈ ce.arrivalQueue ++ [a] := mem
        obtain old | new := List.mem_append.1 mem
        · exact h.heard p old
        · obtain rfl := List.mem_singleton.1 new
          obtain ⟨sized, low, high, _⟩ := good
          cases t <;> cases offered
          exact ⟨low, high, of_decide_eq_true sized⟩
    · exact { h with }
  · exact { h with }

@[simp] theorem countAndOffer_own (t : Telegram) : (ce.countAndOffer t).own = ce.own := by
  unfold countAndOffer
  split
  · split <;> rfl
  · rfl

theorem Sound.duplicate (h : ce.Sound) : ce.duplicate.Sound := by
  unfold ChannelEngine.duplicate
  split
  · exact h
  · exact { h with }
  · exact (h.toOnline.setEvent _).enterSilent

theorem Sound.receivingTelegram (h : ce.Sound) (receiving : ce.state = .receiving) (t : Telegram) :
    (ce.receivingTelegram t).Sound := by
  unfold ChannelEngine.receivingTelegram
  split
  · split
    · exact h.toOnline.beginVisit
    · exact h
  · split
    · exact h.queueReply (by simp [sendsReplies, receiving]) _
    · exact h
  · exact h

@[simp] theorem queueReply_state (t : Telegram) : (ce.queueReply t).state = ce.state := by
  unfold queueReply
  split <;> rfl

theorem Sound.listeningTelegram (h : ce.Sound) (listening : ce.state = .listening) (t : Telegram) :
    (ce.listeningTelegram t).Sound := by
  unfold ChannelEngine.listeningTelegram
  split
  · split
    · exact h.toOnline.beginVisit
    · exact h
  · split
    · next src _ _ =>
      have queued := h.queueReply (by simp [sendsReplies, listening]) (.joinReply ce.own src)
      have state := (queueReply_state (.joinReply ce.own src)).trans listening
      obtain ⟨visit, pass, waiting⟩ := queued.empty (state ▸ nofun) (state ▸ nofun)
      exact { queued with
        live := nofun, quiet := nofun, visits := by simp [visit], passes := by simp [pass], waits := by simp [waiting] }
    · exact h
  · exact h

theorem Sound.holdingTelegram (h : ce.Sound) (inWindow : Bool) (t : Telegram) :
    (ce.holdingTelegram inWindow t).Sound := by
  unfold ChannelEngine.holdingTelegram
  split
  · exact h.answered
  · split
    · exact (h.closeIfRanOut inWindow).wake
    · exact h.toOnline.conflict

theorem Sound.passingTelegram (h : ce.Sound) (passing : ce.state = .passing) (inWindow : Bool) (t : Telegram) :
    (ce.passingTelegram inWindow t).Sound := by
  unfold ChannelEngine.passingTelegram
  split
  · have visit : ce.visit = none := by simpa using mt h.visits.1 (by simp [passing])
    have left : ({ ce with state := .receiving, pass := none, waiting := none }).Sound :=
      { h with
        live := nofun, quiet := nofun, visits := by simp [visit], passes := by simp, waits := by simp }
    exact left.receivingTelegram rfl t
  · split
    · exact h.closeIfRanOut inWindow
    · exact h.toOnline.conflict

theorem Sound.tokenLogic (h : ce.Sound) (inWindow : Bool) (t : Telegram) : (ce.tokenLogic inWindow t).Sound := by
  unfold ChannelEngine.tokenLogic
  split
  · next state => exact h.listeningTelegram state t
  · next state => exact h.leaveClaim state
  · next state => exact h.receivingTelegram state t
  · exact h.holdingTelegram inWindow t
  · next state => exact h.passingTelegram state inWindow t
  · exact h
  · exact h

theorem Sound.startBit (h : ce.Sound) : ce.startBit.Sound := by
  unfold ChannelEngine.startBit
  split
  · exact h
  · split
    · exact h
    · exact { h with line := nofun }
    · exact { h with line := nofun }
    · exact h
    · exact h
    · split
      · exact Online.conflict { h.toOnline with line := nofun }
      · exact { h with line := nofun }
    · exact { h with }

theorem Timed.startBit (h : ce.Timed) : ce.startBit.Timed := by
  unfold ChannelEngine.startBit
  split
  · exact h
  · split
    · exact h
    · exact timed_of_none rfl
    · exact timed_of_none rfl
    · exact h
    · exact h
    · split
      · exact timed_conflict
      · exact timed_of_none rfl
    · exact timed_of_none rfl

theorem Sound.hearing (h : ce.Sound) : ce.hearing.Sound := by
  unfold ChannelEngine.hearing
  split
  · exact h.startBit
  · exact h

/-- A verdict that lets a telegram through has tested it (R125). -/
def Judges (own : Byte) (v : Verdict) : Prop :=
  ∀ t, v = .good t → telegramSized t = true ∧ 1 ≤ (telegramSource t).toNat ∧ (telegramSource t).toNat ≤ 31 ∧
    telegramSource t ≠ own

theorem judges_judgeTelegram (own : Byte) (t : Telegram) : Judges own (judgeTelegram own t) := by
  intro u good
  unfold judgeTelegram at good
  split_ifs at good with sized range other
  cases good
  simp only [Config.maxStation, not_or] at range
  exact ⟨by simpa using sized, by omega, by omega, other⟩

theorem judges_judgeBytes (own : Byte) (bytes : List Byte) : Judges own (judgeBytes own bytes) := by
  unfold judgeBytes
  split
  · nofun
  · nofun
  · exact judges_judgeTelegram own _

theorem Sound.judged (h : ce.Sound) {v : Verdict} (judges : Judges ce.own v) (inWindow intruding : Bool) :
    (ce.judged inWindow intruding v).Sound := by
  have good : ce.countGood.Sound := { h with }
  have failed : ce.countCheckFailure.Sound := { h with }
  unfold ChannelEngine.judged
  split
  · exact failed.closeIfRanOut inWindow
  · exact good.closeIfRanOut inWindow
  · exact good.duplicate
  · next t =>
    obtain ⟨sized, low, high, other⟩ := judges t rfl
    have told := (h.countAndOffer ⟨sized, low, high, other⟩).learn low high (by simpa using other)
    dsimp only
    split
    · exact told
    · exact told.tokenLogic inWindow t

/-- The own station stands in the configuration, which no telegram changes. -/
theorem conflict_own : ce.conflict.own = ce.own := by
  have same : (ce.endAttempt .lineError).cfgA = ce.cfgA := (congrArg ChannelEngine.cfgA (ce.endAttempt_eq _) :)
  show BitVec.ofNat 8 (field (ce.endAttempt .lineError).cfgA 0 5) = ce.own
  rw [same]
  rfl

theorem hearing_own : ce.hearing.own = ce.own := by
  unfold hearing
  split
  · unfold startBit
    split
    · rfl
    · split
      all_goals first | rfl | skip
      split
      · exact conflict_own (ce := { ce with rx := .intruding })
      · rfl
  · rfl

theorem Sound.ends (h : ce.Sound) {v : Verdict} (judges : Judges ce.own v) {after : RxState} (on : after ≠ .off) :
    (ce.ends after v).Sound :=
  Sound.judged (ce := { ce with rx := after }) { h with line := on } judges _ _

theorem Sound.telegramEnds (h : ce.Sound) {v : Verdict} (judges : Judges ce.own v) : (ce.telegramEnds v).Sound := by
  unfold ChannelEngine.telegramEnds
  split
  · exact (h.hearing.ends (hearing_own.symm ▸ judges : Judges ce.hearing.own v) (after := .idle) nofun).settle
  · exact h

theorem Timed.telegramEnds (h : ce.Timed) (v : Verdict) : (ce.telegramEnds v).Timed := by
  unfold ChannelEngine.telegramEnds
  split
  · exact timed_settle
  · exact h

theorem Sound.framingFault (h : ce.Sound) (k : FramingCase) : (ce.framingFault k).Sound := by
  have judges : Judges ce.hearing.own .checkFailure := nofun
  unfold ChannelEngine.framingFault
  split
  · cases k
    · exact (h.hearing.ends judges (after := .resync) nofun).settle
    · exact { h.hearing.ends judges (after := .resync) nofun with line := nofun }
    · exact (h.hearing.ends judges (after := .idle) nofun).settle
    · exact (h.hearing.ends judges (after := .resync) nofun).settle
  · exact h

theorem Timed.framingFault (h : ce.Timed) (k : FramingCase) : (ce.framingFault k).Timed := by
  unfold ChannelEngine.framingFault
  split
  · cases k
    · exact timed_settle
    · exact timed_of_none rfl
    · exact timed_settle
    · exact timed_settle
  · exact h

theorem Sound.lineFault (h : ce.Sound) : ce.lineFault.Sound := by
  have unwatched : ({ ce with watch := none }).Sound := { h with }
  unfold ChannelEngine.lineFault
  split
  · exact unwatched.toOnline.passOn
  · exact unwatched.tryFailed
  · exact unwatched

theorem Sound.endGap (h : ce.Sound) : ce.endGap.Sound := by
  have idle : ({ ce with rx := .idle }).Sound := { h with line := nofun }
  unfold ChannelEngine.endGap
  split
  · exact h
  · split
    · exact idle.settle
    · exact idle.lineFault.settle
    · exact idle.settle
    · exact h

theorem Timed.endGap (h : ce.Timed) : ce.endGap.Timed := by
  unfold ChannelEngine.endGap
  split
  · exact h
  · split
    · exact timed_settle
    · exact timed_settle
    · exact timed_settle
    · exact h

/-! ### Echoes (R128) -/

theorem Sound.begun (h : ce.Sound) (job : TxJob) : (ce.begun job).Sound := by
  obtain e | ⟨_, _, _, _, e⟩ := ce.begun_cases job
  · rwa [e]
  · rw [e]; exact { h with waits := nofun }

theorem Timed.begun (h : ce.Timed) (job : TxJob) : (ce.begun job).Timed := by
  obtain e | ⟨_, _, _, _, e⟩ := ce.begun_cases job
  · rwa [e]
  · rw [e]; exact timed_of_none rfl

/-- While the channel sends its timer is stopped. -/
theorem Timed.sending (h : ce.Timed) {job : TxJob} {t : Telegram} (sends : ce.sendingFor job = some t) :
    ce.silenceTimer = none := by
  refine h.stopped (.inr ?_)
  unfold sendingFor at sends
  split at sends
  · next x sending => simp [lineIdle, sending]
  · cases sends

theorem Sound.sentGood (h : ce.Sound) : ce.sentGood.Sound := { h with line := nofun }

theorem Sound.sentBad (h : ce.Sound) (watch : Option TxJob) : (ce.sentBad watch).Sound := { h with line := nofun }

theorem Sound.attemptSent (h : ce.Sound) : ce.attemptSent.Sound := by
  unfold ChannelEngine.attemptSent
  split
  · next f flying =>
    split
    · split
      · exact h.endAttempt _
      · have same : ({ ce with inFlight := some { f with phase := .awaitingConfirm } }).reservationCount =
            ce.reservationCount := reservationCount_congr rfl (by simp [flying])
        exact { h with reservations := same.trans_le h.reservations }
    · exact h
  · exact h

theorem Sound.attemptEcho (h : ce.Sound) (readBack : List Byte) (clean : Bool) :
    (ce.attemptEcho readBack clean).Sound := by
  have begun := h.begun .attempt
  unfold ChannelEngine.attemptEcho
  dsimp only
  split
  · split
    · exact begun.sentGood.attemptSent.settle
    · exact (begun.sentBad _).endAttempt _
  · exact begun

theorem Timed.attemptEcho (h : ce.Timed) (readBack : List Byte) (clean : Bool) :
    (ce.attemptEcho readBack clean).Timed := by
  have begun := h.begun .attempt
  unfold ChannelEngine.attemptEcho
  dsimp only
  split
  · next sends =>
    split
    · exact timed_settle
    · exact Timed.endAttempt (ce := (ce.begun .attempt).sentBad _) (timed_of_none (begun.sending sends)) _
  · exact begun

theorem Sound.joinCallEcho (h : ce.Sound) (readBack : List Byte) (clean : Bool) :
    (ce.joinCallEcho readBack clean).Sound := by
  have begun := h.begun .joinCall
  unfold ChannelEngine.joinCallEcho
  dsimp only
  split
  · split
    · split
      · exact Sound.settle { begun.sentGood with }
      · exact begun.sentGood.settle
    · exact begun.sentBad _
  · exact begun

theorem Timed.joinCallEcho (h : ce.Timed) (readBack : List Byte) (clean : Bool) :
    (ce.joinCallEcho readBack clean).Timed := by
  have begun := h.begun .joinCall
  unfold ChannelEngine.joinCallEcho
  dsimp only
  split
  · next sends =>
    split
    · exact timed_settle
    · exact timed_of_none (begun.sending sends)
  · exact begun

theorem Sound.passTokenEcho (h : ce.Sound) (readBack : List Byte) (clean : Bool) :
    (ce.passTokenEcho readBack clean).Sound := by
  have begun := h.begun .passToken
  unfold ChannelEngine.passTokenEcho
  dsimp only
  split
  · split
    · have opened : (ce.begun .passToken).sentGood.openPassWindow.Sound :=
        { begun.sentGood with passes := by simpa [openPassWindow] using begun.sentGood.passes }
      exact opened.settle
    · exact begun.sentBad _
  · exact begun

theorem Timed.passTokenEcho (h : ce.Timed) (readBack : List Byte) (clean : Bool) :
    (ce.passTokenEcho readBack clean).Timed := by
  have begun := h.begun .passToken
  unfold ChannelEngine.passTokenEcho
  dsimp only
  split
  · next sends =>
    split
    · exact timed_settle
    · exact timed_of_none (begun.sending sends)
  · exact begun

theorem Sound.claimEcho (h : ce.Sound) (readBack : List Byte) (clean : Bool) : (ce.claimEcho readBack clean).Sound := by
  unfold ChannelEngine.claimEcho
  split
  · split
    · split
      · have quiet : ({ ce.sentGood with errorRun := 0 }).Online := { h.sentGood.toOnline with errorRun := Nat.zero_le _ }
        exact (quiet.setEvent _).beginVisit.settle
      · exact h.sentGood.settle
    · have raised := (h.sentBad none).raiseErrorRun
      dsimp only
      split
      · next claiming => exact raised.leaveClaim claiming
      · exact raised
  · exact h

theorem Timed.claimEcho (h : ce.Timed) (readBack : List Byte) (clean : Bool) : (ce.claimEcho readBack clean).Timed := by
  unfold ChannelEngine.claimEcho
  split
  · next sends =>
    split
    · split <;> exact timed_settle
    · have raised : (ce.sentBad none).raiseErrorRun.Timed := Timed.raiseErrorRun (timed_of_none (h.sending sends))
      dsimp only
      split
      · exact timed_restartSilence
      · exact raised
  · exact h

theorem Sound.replyEcho (h : ce.Sound) (readBack : List Byte) (clean : Bool) : (ce.replyEcho readBack clean).Sound := by
  unfold ChannelEngine.replyEcho
  split
  · split
    · exact h.sentGood.settle
    · exact h.sentBad _
  · exact h

theorem Timed.replyEcho (h : ce.Timed) (readBack : List Byte) (clean : Bool) : (ce.replyEcho readBack clean).Timed := by
  unfold ChannelEngine.replyEcho
  split
  · next sends =>
    split
    · exact timed_settle
    · exact timed_of_none (h.sending sends)
  · exact h

/-! ### Line timers and transmissions -/

theorem Sound.replyWindowExpiry (h : ce.Sound) : ce.replyWindowExpiry.Sound := by
  unfold ChannelEngine.replyWindowExpiry
  split
  · split
    · exact { h with }
    · exact h.unanswered
  · exact h

theorem Timed.replyWindowExpiry (h : ce.Timed) : ce.replyWindowExpiry.Timed := by
  unfold ChannelEngine.replyWindowExpiry
  split
  · split
    · exact h
    · exact h.unanswered
  · exact h

theorem Sound.passWindowExpiry (h : ce.Sound) : ce.passWindowExpiry.Sound := by
  unfold ChannelEngine.passWindowExpiry
  split
  · next p pass =>
    split
    · split
      · exact { h with passes := by simpa [pass] using h.passes }
      · exact h.tryFailed
    · exact h
  · exact h

theorem Timed.passWindowExpiry (h : ce.Timed) : ce.passWindowExpiry.Timed := by
  unfold ChannelEngine.passWindowExpiry
  split
  · split
    · split
      · exact h
      · exact h.tryFailed
    · exact h
  · exact h

theorem Sound.silenceExpiry (h : ce.Sound) : ce.silenceExpiry.Sound := by
  have claims (holding : ce.state ≠ .holding) (passing : ce.state ≠ .passing) (x : ClaimFrom) :
      ({ ce with state := .claiming, claimedFrom := x, silenceTimer := none, replyQueue := [] }).Sound := by
    obtain ⟨visit, pass, waiting⟩ := h.empty holding passing
    exact { h with
      live := nofun, replies := Nat.zero_le _, quiet := fun _ => rfl, visits := by simp [visit], passes := by simp [pass]
      waits := by simp [waiting] }
  unfold ChannelEngine.silenceExpiry
  split
  · next state => exact claims (by simp [state]) (by simp [state]) _
  · next state => exact claims (by simp [state]) (by simp [state]) _
  · exact h

theorem Timed.silenceExpiry (h : ce.Timed) : ce.silenceExpiry.Timed := by
  unfold ChannelEngine.silenceExpiry
  split
  · exact timed_of_none rfl
  · exact timed_of_none rfl
  · exact h

theorem Sound.claimTransmit (h : ce.Sound) : ce.claimTransmit.Sound := by
  unfold ChannelEngine.claimTransmit
  split
  · exact { h with }
  · exact h

theorem Timed.claimTransmit (h : ce.Timed) : ce.claimTransmit.Timed := by
  unfold ChannelEngine.claimTransmit
  split
  · next now =>
    have claiming : ce.state = .claiming := by simpa using (Bool.and_eq_true_iff.1 now).1
    exact timed_of_none (h.stopped (.inl (by simp [claiming])))
  · exact h

theorem Sound.fewerReplies (h : ce.Sound) {t : Telegram} {rest : List Telegram} (queue : ce.replyQueue = t :: rest) :
    ({ ce with replyQueue := rest }).Sound := by
  have short := h.replies
  rw [queue, List.length_cons] at short
  exact { h with replies := (Nat.le_succ _).trans short, quiet := fun off => nomatch (h.quiet off).symm.trans queue }

theorem Sound.sendReply (h : ce.Sound) : ce.sendReply.Sound := by
  unfold ChannelEngine.sendReply
  split
  · split
    · next queue => exact { h.fewerReplies queue with }
    · exact h
  · exact h

theorem Timed.sendReply (h : ce.Timed) : ce.sendReply.Timed := by
  unfold ChannelEngine.sendReply
  split
  · split
    · exact timed_of_none rfl
    · exact h
  · exact h

theorem Sound.replyTooLate (h : ce.Sound) : ce.replyTooLate.Sound := by
  unfold ChannelEngine.replyTooLate
  split
  · next queue => exact (h.fewerReplies queue).begin
  · exact h

theorem Timed.replyTooLate (h : ce.Timed) : ce.replyTooLate.Timed := by
  unfold ChannelEngine.replyTooLate
  split
  · exact Timed.begin (ce := { ce with replyQueue := _ }) h
  · exact h

theorem Sound.recoveryExpiry (h : ce.Sound) : ce.recoveryExpiry.Sound := by
  have ranOut : ({ ce with recovery := none }).Sound := { h with }
  unfold ChannelEngine.recoveryExpiry
  split
  · exact ranOut.recoverNow
  · exact h

theorem Timed.recoveryExpiry (h : ce.Timed) : ce.recoveryExpiry.Timed := by
  unfold ChannelEngine.recoveryExpiry
  split
  · exact Timed.recoverNow (ce := { ce with recovery := none }) h
  · exact h

end ChannelEngine

end Sys2Proof.Machine
end

section
/-! PROOFS. What the manual promises of a channel engine, OFFLINE or not: every operation of one channel engine keeps it,
those of the table transactions and of the control words among them. -/

namespace Sys2Proof.Machine

set_option Elab.async false

namespace ChannelEngine

variable {ce : ChannelEngine}

/-- What an OFFLINE channel engine has given up (R133, R134, R139). -/
structure Off (ce : ChannelEngine) : Prop where
  state : ce.state = .offline
  stations : ce.stationList = []
  rx : ce.rx = .off
  sending : ce.sending = none
  waiting : ce.waiting = none
  replyWindow : ce.replyWindow = none
  pass : ce.pass = none
  visit : ce.visit = none
  arrivals : ce.arrivalQueue = []
  recovery : ce.recovery = none
  replies : ce.replyQueue = []

theorem Ok.off (ok : ce.Ok) (off : ce.state = .offline) : ce.Off := by
  obtain ⟨stations, rx, sending, waiting, window, pass, visit, arrivals, recovery⟩ := ok.offline off
  exact ⟨off, stations, rx, sending, waiting, window, pass, visit, arrivals, recovery,
    ok.quiet (by simp [sendsReplies, off])⟩

/-- An operation of the line and the token logic: it changes nothing while the channel is OFFLINE. -/
theorem Ok.live (ok : ce.Ok) {u : ChannelEngine} (sound : ce.Sound → u.Sound) (timed : ce.Timed → u.Timed)
    (off : ce.Off → u = ce) : u.Ok := by
  by_cases state : ce.state = .offline
  · rw [off (ok.off state)]; exact ok
  · exact (sound (ok.sound state)).ok (timed ok.silence)

theorem Off.deaf (h : ce.Off) : ce.hears = false := by simp [hears, h.rx]

theorem Off.begun (h : ce.Off) (job : TxJob) : ce.begun job = ce := begun_of_quiet h.waiting job

theorem Off.sendingFor (h : ce.Off) (job : TxJob) : ce.sendingFor job = none := by
  simp [ChannelEngine.sendingFor, h.sending]

theorem Off.sendsReplies (h : ce.Off) : ce.sendsReplies = false := by simp [ChannelEngine.sendsReplies, h.state]

theorem Off.runAttempts (h : ce.Off) : ce.runAttempts = ce := by simp [ChannelEngine.runAttempts, h.visit]

/-! ### The line and the token logic -/

theorem Ok.telegramEnds (ok : ce.Ok) {v : Verdict} (judges : Judges ce.own v) : (ce.telegramEnds v).Ok :=
  ok.live (·.telegramEnds judges) (·.telegramEnds v) fun off => by simp [ChannelEngine.telegramEnds, off.deaf]

theorem Ok.framingFault (ok : ce.Ok) (k : FramingCase) : (ce.framingFault k).Ok :=
  ok.live (·.framingFault k) (·.framingFault k) fun off => by simp [ChannelEngine.framingFault, off.deaf]

theorem Ok.startBit (ok : ce.Ok) : ce.startBit.Ok :=
  ok.live (·.startBit) (·.startBit) fun off => by simp [ChannelEngine.startBit, off.rx]

theorem Ok.endGap (ok : ce.Ok) : ce.endGap.Ok :=
  ok.live (·.endGap) (·.endGap) fun off => by simp [ChannelEngine.endGap, off.rx]

theorem Ok.attemptEcho (ok : ce.Ok) (readBack : List Byte) (clean : Bool) : (ce.attemptEcho readBack clean).Ok :=
  ok.live (·.attemptEcho readBack clean) (·.attemptEcho readBack clean) fun off => by
    simp [ChannelEngine.attemptEcho, off.begun, off.sendingFor]

theorem Ok.joinCallEcho (ok : ce.Ok) (readBack : List Byte) (clean : Bool) : (ce.joinCallEcho readBack clean).Ok :=
  ok.live (·.joinCallEcho readBack clean) (·.joinCallEcho readBack clean) fun off => by
    simp [ChannelEngine.joinCallEcho, off.begun, off.sendingFor]

theorem Ok.passTokenEcho (ok : ce.Ok) (readBack : List Byte) (clean : Bool) : (ce.passTokenEcho readBack clean).Ok :=
  ok.live (·.passTokenEcho readBack clean) (·.passTokenEcho readBack clean) fun off => by
    simp [ChannelEngine.passTokenEcho, off.begun, off.sendingFor]

theorem Ok.claimEcho (ok : ce.Ok) (readBack : List Byte) (clean : Bool) : (ce.claimEcho readBack clean).Ok :=
  ok.live (·.claimEcho readBack clean) (·.claimEcho readBack clean) fun off => by
    simp [ChannelEngine.claimEcho, off.sendingFor]

theorem Ok.replyEcho (ok : ce.Ok) (readBack : List Byte) (clean : Bool) : (ce.replyEcho readBack clean).Ok :=
  ok.live (·.replyEcho readBack clean) (·.replyEcho readBack clean) fun off => by
    simp [ChannelEngine.replyEcho, off.sendingFor]

theorem Ok.replyWindowExpiry (ok : ce.Ok) : ce.replyWindowExpiry.Ok :=
  ok.live (·.replyWindowExpiry) (·.replyWindowExpiry) fun off => by
    simp [ChannelEngine.replyWindowExpiry, off.replyWindow]

theorem Ok.passWindowExpiry (ok : ce.Ok) : ce.passWindowExpiry.Ok :=
  ok.live (·.passWindowExpiry) (·.passWindowExpiry) fun off => by simp [ChannelEngine.passWindowExpiry, off.pass]

theorem Ok.silenceExpiry (ok : ce.Ok) : ce.silenceExpiry.Ok :=
  ok.live (·.silenceExpiry) (·.silenceExpiry) fun off => by
    cases timer : ce.silenceTimer <;> simp [ChannelEngine.silenceExpiry, off.state, timer]

theorem Ok.claimTransmit (ok : ce.Ok) : ce.claimTransmit.Ok :=
  ok.live (·.claimTransmit) (·.claimTransmit) fun off => by simp [ChannelEngine.claimTransmit, off.state]

theorem Ok.sendReply (ok : ce.Ok) : ce.sendReply.Ok :=
  ok.live (·.sendReply) (·.sendReply) fun off => by simp [ChannelEngine.sendReply, off.sendsReplies]

theorem Ok.replyTooLate (ok : ce.Ok) : ce.replyTooLate.Ok :=
  ok.live (·.replyTooLate) (·.replyTooLate) fun off => replyTooLate_nil off.replies

theorem Ok.recoveryExpiry (ok : ce.Ok) : ce.recoveryExpiry.Ok :=
  ok.live (·.recoveryExpiry) (·.recoveryExpiry) fun off => by simp [ChannelEngine.recoveryExpiry, off.recovery]

theorem Ok.wake (ok : ce.Ok) : ce.wake.Ok :=
  ok.live (·.wake) (·.wake) fun off => wake_of_other (by simp [off.state])

theorem Ok.runAttempts (ok : ce.Ok) : ce.runAttempts.begin.Ok :=
  ok.live (·.runAttempts.begin) (·.runAttempts.begin) fun off => by rw [off.runAttempts, begin_of_quiet off.waiting]

theorem Ok.recoveryTick (ok : ce.Ok) : ce.recoveryTick.Ok := by
  refine { ok with offline := fun off => ?_ }
  have := ok.off off
  exact ⟨this.stations, this.rx, this.sending, this.waiting, this.replyWindow, this.pass, this.visit, this.arrivals,
    by simp [ChannelEngine.recoveryTick, this.recovery]⟩

/-! ### The send side -/

/-- The promise speaks of the send side's lists and its attempt only as the reservation count, and not of requests,
counters and flags. -/
theorem Ok.sending (ok : ce.Ok) {u : ChannelEngine} (count : u.reservationCount ≤ 24)
    (same : { u with lists := ce.lists, inFlight := ce.inFlight, requests := ce.requests, counters := ce.counters,
                     event := ce.event, eventEnable := ce.eventEnable } = ce) : u.Ok := by
  rw [← same] at ok
  exact { ok with reservations := count }

theorem Ok.popRequest (ok : ce.Ok) : ce.popRequest.Ok := ok.sending ok.reservations rfl

theorem Ok.popArrival (ok : ce.Ok) : ce.popArrival.Ok :=
  { ok with
    arrivals := (List.drop_sublist 1 ce.arrivalQueue).length_le.trans ok.arrivals
    heard := fun p mem => ok.heard p (List.mem_of_mem_drop mem)
    offline := fun off => by
      obtain ⟨stations, rx, sending, waiting, window, pass, visit, arrivals, recovery⟩ := ok.offline off
      exact ⟨stations, rx, sending, waiting, window, pass, visit, by simp [ChannelEngine.popArrival, arrivals], recovery⟩ }

theorem Ok.decideReply (ok : ce.Ok) (p : Publish) (d : Disposition) : (ce.decideReply p d).Ok := by
  unfold ChannelEngine.decideReply
  split
  · next answers =>
    simp only [Bool.and_eq_true] at answers
    have live : ce.state ≠ .offline := by
      intro off
      rw [(ok.off off).sendsReplies] at answers
      exact nomatch answers.2
    refine ((ok.sound live).queueReply answers.2 _).ok ?_
    unfold ChannelEngine.queueReply
    split
    · exact ok.silence
    · exact ok.silence
  · exact ok

/-- The pending count with one class list replaced. -/
theorem pendingCount_set (ce : ChannelEngine) (k : Fin 4) (l : List RowId) :
    ({ ce with lists := ce.lists.set k l }).pendingCount + (ce.lists.get k).length = ce.pendingCount + l.length := by
  match k with
  | 0 => simp only [pendingCount, Quad.set, Quad.get]; omega
  | 1 => simp only [pendingCount, Quad.set, Quad.get]; omega
  | 2 => simp only [pendingCount, Quad.set, Quad.get]; omega
  | 3 => simp only [pendingCount, Quad.set, Quad.get]; omega

theorem Ok.afterResult (ok : ce.Ok) (cls : Fin 4) (r : RowId) {o : ChannelOutcome}
    (room : o = .queued → ce.reservationCount < 24) : (ce.afterResult cls r o).Ok := by
  cases o
  case droppedFull => exact ok.sending ok.reservations rfl
  case queued =>
    refine ok.sending ?_ rfl
    have count := pendingCount_set ce cls (ce.lists.get cls ++ [r])
    have room := room rfl
    simp only [List.length_append, List.length_singleton] at count
    simp only [reservationCount] at room
    show ({ ce with lists := ce.lists.set cls (ce.lists.get cls ++ [r]) }).pendingCount +
      (if ce.inFlight.isSome then 1 else 0) ≤ 24
    omega
  all_goals exact ok

theorem Ok.dropRow (ok : ce.Ok) (r : RowId) : (ce.dropRow r).Ok := by
  refine ok.sending (le_trans ?_ ok.reservations) rfl
  have short (l : List RowId) : (l.filter fun x => x ≠ r).length ≤ l.length := List.length_filter_le _ l
  refine Nat.add_le_add_right ?_ _
  exact Nat.add_le_add (Nat.add_le_add (Nat.add_le_add (short _) (short _)) (short _)) (short _)

/-- The attempt has left the in-flight place. -/
theorem Ok.landed (ok : ce.Ok) : ({ ce with inFlight := none }).Ok :=
  ok.sending (Nat.add_le_add_left (Nat.zero_le _) ce.pendingCount |>.trans ok.reservations) rfl

/-- The attempt's row goes from the in-flight place back to its class list (R70). -/
theorem Ok.returned (ok : ce.Ok) {f : InFlight} (flying : ce.inFlight = some f) (k : Fin 4) (r : RowId) :
    ({ ce with inFlight := none, lists := ce.lists.set k (r :: ce.lists.get k) }).Ok := by
  refine ok.sending ?_ rfl
  have count := pendingCount_set ce k (r :: ce.lists.get k)
  have full := ok.reservations
  simp only [List.length_cons] at count
  simp only [reservationCount, flying, Option.isSome_some, if_true] at full
  show ({ ce with lists := ce.lists.set k (r :: ce.lists.get k) }).pendingCount + 0 ≤ 24
  omega

theorem Ok.emptied (ok : ce.Ok) : ({ ce with lists := Quad.all [] }).Ok := by
  refine ok.sending ?_ rfl
  simp only [reservationCount, pendingCount, Quad.all, List.length_nil]
  split <;> omega

theorem Ok.afterOutcome (ok : ce.Ok) (o : AttemptOutcome) : (ce.afterOutcome o).Ok := by
  have cleared : ({ ce with errorRun := 0 }).Ok := { ok with errorRun := Nat.zero_le _ }
  have raised : ce.raiseErrorRun.Ok := by
    by_cases off : ce.state = .offline
    · have same : ce.raiseErrorRun = { ce with errorRun := min Config.errorRunStop (ce.errorRun + 1) } := by
        simp [raiseErrorRun, canFallSilent, off]
      rw [same]
      exact { ok with errorRun := min_le_left _ _ }
    · exact (ok.sound off).raiseErrorRun.ok (Timed.raiseErrorRun ok.silence)
  cases o
  · exact cleared.runAttempts
  · exact cleared.runAttempts
  · exact ok.runAttempts
  · exact raised.runAttempts
  · exact ok.runAttempts

/-- The lowest class list with a row stands first (R63). -/
theorem get_of_firstPending {k : Fin 4} {r : RowId} (h : ce.firstPending = some (k, r)) :
    ∃ rest, ce.lists.get k = r :: rest := by
  unfold firstPending at h
  split at h <;> cases h
  · next rest e => exact ⟨rest, e⟩
  · next rest _ e => exact ⟨rest, e⟩
  · next rest _ _ e => exact ⟨rest, e⟩
  · next rest _ _ _ e => exact ⟨rest, e⟩

/-- What the token logic asks of an attempt (R63, R78, R148). -/
theorem mayAttempt_iff : ce.mayAttempt = true ↔
    ce.state = .holding ∧ ce.inFlight = none ∧ ce.removalWaits = false ∧
      ∃ v, ce.visit = some v ∧ v.step = .attempts ∧ v.count < ce.visitBudget := by
  unfold mayAttempt
  split
  · next v state visit => simp [state, visit]; tauto
  · next none => simp; intro state _ _ v visit; exact absurd visit (none v state)

theorem Ok.startAttempt (ok : ce.Ok) (may : ce.mayAttempt = true) {k : Fin 4} {r : RowId}
    (first : ce.firstPending = some (k, r)) (f : InFlight) : (ce.startAttempt k f).Ok := by
  obtain ⟨holding, landed, _, v, visit, _, short⟩ := mayAttempt_iff.1 may
  obtain ⟨rest, list⟩ := get_of_firstPending first
  have sound := ok.sound (by simp [holding])
  have timer : ce.silenceTimer = none := Timed.stopped ok.silence (.inl (by simp [holding]))
  have count := pendingCount_set ce k ((ce.lists.get k).drop 1)
  have full := ok.reservations
  simp only [list, List.drop_one, List.tail_cons, List.length_cons] at count
  simp only [reservationCount, landed, Option.isSome_none] at full
  have started : ({ ce with
      lists := ce.lists.set k ((ce.lists.get k).drop 1), inFlight := some f
      visit := ce.visit.map fun (v : Visit) => { v with count := v.count + 1 }
      waiting := some { job := .attempt, telegram := attemptTelegram ce.own f } }).Sound := by
    refine { sound with reservations := ?_, visits := ?_, budget := ?_, waits := fun _ => .inl holding }
    · show ({ ce with lists := ce.lists.set k ((ce.lists.get k).drop 1) }).pendingCount + 1 ≤ 24
      rw [list, List.drop_one, List.tail_cons]
      simp only [Bool.false_eq_true, if_false] at full
      omega
    · simp [visit, holding]
    · intro x started
      obtain ⟨y, old, rfl⟩ := Option.map_eq_some_iff.1 started
      cases visit.symm.trans old
      exact short
  exact started.begin.ok (Timed.begin (timed_of_none timer))

theorem Ok.nothingStarted (ok : ce.Ok) : ce.nothingStarted.Ok := by
  unfold ChannelEngine.nothingStarted
  split
  · next holding _ =>
    split
    · exact ok
    · have sound := ok.sound (by simp [holding])
      exact (sound.afterAttempts holding).begin.ok (Timed.afterAttempts ok.silence holding).begin
  · exact ok

/-! ### The control words (R137 to R141, R156) -/

theorem Ok.enterListening_of (ok : ce.Ok) (off : ce.state = .offline) (valid : ce.configValid = true) :
    ({ ce with enable := true }).goOnline.Ok := by
  have gone := ok.off off
  have online : ({ ce with enable := true, rx := .unsynced, state := .listening }).Online :=
    { ok with live := nofun, enable := rfl, valid := valid, line := nofun }
  exact (online.enterListening gone.visit gone.pass gone.waiting).ok timed_enterListening

theorem Ok.enableNow (ok : ce.Ok) (off : ce.enable = false) : ce.enableNow.Ok := by
  have state : ce.state = .offline := by
    by_contra live
    exact nomatch off.symm.trans (ok.enabled.2 live)
  unfold ChannelEngine.enableNow
  split
  · next valid => exact ok.enterListening_of state valid
  · exact ok.sending ok.reservations rfl

/-- OFFLINE entered, with ENABLE cleared (R139). -/
theorem Ok.goOffline (ok : ce.Ok) : ({ ce with enable := false }).goOffline.Ok where
  reservations := by
    have same : ({ ce with enable := false }).goOffline.reservationCount = ce.reservationCount :=
      reservationCount_congr rfl (by simp [ChannelEngine.goOffline])
    exact same.trans_le ok.reservations
  arrivals := Nat.zero_le _
  replies := Nat.zero_le _
  quiet _ := rfl
  errorRun := ok.errorRun
  joinCount := ok.joinCount
  ascending := .nil
  others := nofun
  enabled := iff_of_false nofun fun live => live rfl
  configured live := absurd rfl live
  offline _ := ⟨rfl, rfl, rfl, rfl, rfl, rfl, rfl, rfl, rfl⟩
  visits := iff_of_false nofun nofun
  budget := nofun
  passes := iff_of_false nofun nofun
  silence := nofun
  waits := nofun
  footing := iff_of_true rfl rfl
  heard := nofun

theorem Ok.restartNow (ok : ce.Ok) : ce.restartNow.Ok := by
  unfold ChannelEngine.restartNow
  split
  · next enable =>
    have valid : ce.configValid = true := ok.configured (ok.enabled.1 enable)
    have back := ok.goOffline.enterListening_of rfl valid
    have same : { ({ ce with enable := false }).goOffline with enable := true } = ce.goOffline := by
      rw [← enable]; rfl
    rwa [same] at back
  · exact ok

theorem Ok.recoverNow (ok : ce.Ok) : ce.recoverNow.Ok :=
  ok.live (·.recoverNow) (·.recoverNow) fun off => by simp [ChannelEngine.recoverNow, off.state]

theorem Ok.writeControl (ok : ce.Ok) (v : Word) : (ce.writeControl v).Ok := by
  have cleared : (if bitAt v 6 then { ce with counters := Counters.zero } else ce).Ok := by
    split
    · exact ok.sending ok.reservations rfl
    · exact ok
  unfold ChannelEngine.writeControl
  dsimp only
  generalize (if bitAt v 6 then { ce with counters := Counters.zero } else ce) = u at cleared
  split
  · next changes =>
    split
    · next on =>
      rw [on] at changes
      exact cleared.enableNow (by simpa using changes.symm)
    · exact cleared.goOffline
  · split
    · exact cleared.restartNow
    · split
      · exact cleared.recoverNow
      · exact cleared

theorem Ok.storeConfig (ok : ce.Ok) (off : ce.state = .offline) (w : ConfigWord) (v : Word) : (ce.storeConfig w v).Ok := by
  have stations := (ok.off off).stations
  have visit := (ok.off off).visit
  have others {u : ChannelEngine} (same : u.stationList = ce.stationList) :
      ∀ n ∈ u.stationList, 1 ≤ n ∧ n ≤ 31 ∧ n ≠ u.own.toNat := by simp [same, stations]
  have budget {u : ChannelEngine} (same : u.visit = ce.visit) : ∀ v, u.visit = some v → v.count ≤ u.visitBudget := by
    simp [same, visit]
  cases w <;>
    exact { ok with configured := fun live => absurd off live, others := others rfl, budget := budget rfl }

theorem reset_ok : ChannelEngine.reset.Ok := ok_of_check (by decide)

end ChannelEngine

end Sys2Proof.Machine
end

section
/-! PROOFS. Every step keeps every channel engine and every row as the manual promises (O57). -/

namespace Sys2Proof.Machine

set_option Elab.async false

/-- What a change of the state leaves of every channel engine that is as the manual promises. -/
def Sustains (s t : State) : Prop := ∀ c, (s.ch c).Ok → (t.ch c).Ok

theorem Sustains.refl (s : State) : Sustains s s := fun _ => id

theorem Sustains.trans {s t u : State} (a : Sustains s t) (b : Sustains t u) : Sustains s u := fun c => b c ∘ a c

theorem Sustains.of_channels {s t : State} (h : t.channels = s.channels) : Sustains s t := by
  intro c ok
  rwa [State.ch, h]

theorem Sustains.updCh (s : State) (c : Channel) {f : ChannelEngine → ChannelEngine}
    (h : (s.ch c).Ok → (f (s.ch c)).Ok) : Sustains s (s.updCh c f) := by
  intro d ok
  rw [State.ch_updCh]
  split
  · next e => subst e; exact h ok
  · exact ok

theorem Sustains.updRow (s : State) (r : RowId) (f : Row → Row) : Sustains s (s.updRow r f) := .of_channels rfl

theorem Sustains.startDeadline (s : State) (r : RowId) (k : DeadlineKind) : Sustains s (s.startDeadline r k) :=
  .of_channels rfl

/-- A change of a row and then of one channel. -/
theorem Sustains.updRow_updCh (s : State) (r : RowId) (f : Row → Row) (c : Channel) {g : ChannelEngine → ChannelEngine}
    (h : (s.ch c).Ok → (g (s.ch c)).Ok) : Sustains s ((s.updRow r f).updCh c g) :=
  (Sustains.updRow s r f).trans (.updCh _ c h)

theorem Sustains.onChannel (s : State) (c : Channel) {f : ChannelEngine → ChannelEngine}
    (h : (s.ch c).Ok → (f (s.ch c)).Ok) : Sustains s (s.onChannel c f) := Sustains.updCh s c h

theorem Sustains.wakeAll (s : State) : Sustains s s.wakeAll := by
  intro c ok
  rw [State.wakeAll_ch]
  exact ok.wake

theorem Sustains.transact {s : State} {q : Requester} {f : State → State}
    (h : Sustains { s with served := q, turn := none } (f { s with served := q, turn := none })) :
    Sustains s (s.transact q f) := by
  obtain e | ⟨_, e⟩ := s.transact_cases q f
  · rw [e]; exact .refl s
  · rw [e]; exact Sustains.trans (t := f { s with served := q, turn := none }) h (.wakeAll _)

theorem Sustains.foldl {α : Type} {step : State → α → State} (h : ∀ s a, Sustains s (step s a)) (l : List α)
    (s : State) : Sustains s (l.foldl step s) := by
  induction l generalizing s with
  | nil => exact .refl s
  | cons a l ih => exact (h s a).trans (ih _)

theorem Sustains.record (s : State) (r : RowId) (q : Reason) : Sustains s (s.record r q) := .of_channels (by simp)

/-! ### Enqueue requests, removals and outcomes -/

/-- A row is QUEUED only while the channel has a reservation left (R54, R57). -/
theorem State.enqueueOn_room {s : State} {src : Source} {r : RowId} {gap : Bool} {c : Channel}
    (h : (s.enqueueOn src r gap c).2 = .queued) : (s.ch c).reservationCount < 24 := by
  fun_cases State.enqueueOn s src r gap c <;> simp_all [State.enqueueOn, Config.reservations]

theorem Sustains.enqueue (s : State) (src : Source) (r : RowId) (mask : ChannelMask) :
    Sustains s (s.enqueue src r mask).1 := by
  by_cases serves : (s.row r).serves
  · obtain ⟨t, o, applied, results, request⟩ := State.enqueue_of_serves serves src mask
    intro c ok
    have channel : ((s.enqueue src r mask).1).ch c = t.ch c := by
      rw [request]
      split <;> simp
    rw [channel, applied.ch]
    refine ok.afterResult _ r fun queued => ?_
    rw [results] at queued
    split at queued
    · exact State.enqueueOn_room queued
    · cases queued
  · have out : ¬ (s.row r).inService = true := mt (s.row r).inService_iff.1 serves
    rw [State.enqueue, if_neg out]
    exact .refl s

theorem Sustains.removePending (s : State) (r : RowId) (c : Channel) : Sustains s (s.removePending r c) :=
  .updRow_updCh s r _ c fun ok => ok.dropRow r

theorem Sustains.removeOn (s : State) (r : RowId) (c : Channel) : Sustains s (s.removeOn r c) := by
  unfold State.removeOn
  split
  · exact .removePending s r c
  · exact .of_channels rfl
  · exact .refl s

theorem Sustains.cancelOn (s : State) (r : RowId) (c : Channel) : Sustains s (s.cancelOn r c) := by
  unfold State.cancelOn
  split
  · exact .removePending s r c
  · exact .of_channels rfl
  · exact .refl s
  · exact .of_channels rfl

theorem Sustains.takeOutOfService (s : State) (r : RowId) : Sustains s (s.takeOutOfService r) :=
  (Sustains.foldl (fun s c => .removeOn s r c) allChannels s).trans (.of_channels rfl)

theorem Sustains.recordEnd (s : State) (r : RowId) (c : Channel) (o : AttemptOutcome) (cancel : Bool) :
    Sustains s (s.recordEnd r c o cancel) := by
  have failed : Sustains s (if cancel then s else (s.record r .sendFailed).updCh c ChannelEngine.countFailedAttempt) := by
    split
    · exact .refl s
    · exact (Sustains.record s r _).trans (.updCh _ c fun ok => ok.sending ok.reservations rfl)
  cases o
  · exact .record s r _
  · exact .record s r _
  · exact failed
  · exact failed
  · exact .refl s

theorem Sustains.endSend (s : State) (r : RowId) (c : Channel) (o : AttemptOutcome) (cancel : Bool) :
    Sustains s (s.endSend r c o cancel) :=
  (Sustains.updRow s r _).trans (.recordEnd _ r c o cancel)

theorem Sustains.report (s : State) (r : RowId) (c : Channel) (o : AttemptOutcome) : Sustains s (s.report r c o) := by
  obtain ⟨cu, h⟩ := State.report_frame s r c o
  rw [h]
  exact .of_channels rfl

theorem Sustains.drainRetiring (s : State) (r : RowId) : Sustains s (s.drainRetiring r) := by
  unfold State.drainRetiring
  split
  · exact .of_channels rfl
  · exact .refl s

theorem Sustains.applyOutcome (s : State) (c : Channel) (o : AttemptOutcome) : Sustains s (s.applyOutcome c o) := by
  unfold State.applyOutcome
  split
  · exact .refl s
  · next f flying =>
    have ended : Sustains s (if retried o (s.row f.row) ((s.row f.row).side.get c) (s.ch c).retryLimit
        then (s.updCh c fun ce => { ce with inFlight := none }).returnRow f.row c
        else (s.updCh c fun ce => { ce with inFlight := none }).endSend f.row c o
          ((s.row f.row).side.get c).cancelRequested) := by
      split
      · intro d ok
        by_cases e : c = d
        · subst e
          simpa [State.returnRow] using ok.returned flying (s.row f.row).cls f.row
        · simpa [State.returnRow, e] using ok
      · exact (Sustains.updCh s c (·.landed)).trans (.endSend _ _ c o _)
    dsimp only
    refine Sustains.trans ?_ ((Sustains.report _ _ c o).trans (.drainRetiring _ _))
    split
    · exact ended.trans (.enqueue _ _ _ _)
    · exact ended

/-! ### Arrivals and attempts -/

theorem Sustains.acceptArrival (s : State) (r : RowId) (c : Channel) (p : Publish) :
    Sustains s (s.acceptArrival r c p) := by
  have stored : Sustains s (s.updRow r fun row => row.accept c p) := .updRow s r _
  have told : Sustains s (if (s.row r).state = .stale then (s.updRow r fun row => row.accept c p).record r .restored
      else s.updRow r fun row => row.accept c p) := by
    split
    · exact stored.trans (.record _ r _)
    · exact stored
  exact ((told.trans (.record _ r _)).trans (.startDeadline _ r _)).trans (.enqueue _ _ _ _)

theorem Sustains.applyDisposition (s : State) (c : Channel) (p : Publish) (d : Disposition) :
    Sustains s (s.applyDisposition c p d) := by
  cases d <;> simp only [State.applyDisposition]
  · exact .updCh s c fun ok => ok.sending ok.reservations rfl
  · exact .updRow s _ _
  · exact (Sustains.updRow s _ _).trans (.record _ _ _)
  · exact (Sustains.updRow s _ _).trans (.record _ _ _)
  · exact .refl s
  · exact .acceptArrival s _ c p

theorem Sustains.publishTransaction (s : State) (c : Channel) (p : Publish) : Sustains s (s.publishTransaction c p) :=
  ((Sustains.updCh s c (·.popArrival)).trans (.applyDisposition _ c p _)).trans (.updCh _ c fun ok => ok.decideReply p _)

theorem Sustains.recallTransaction (s : State) (c : Channel) (q : Recall) : Sustains s (s.recallTransaction c q) := by
  have popped : Sustains s (s.updCh c ChannelEngine.popArrival) := .updCh s c (·.popArrival)
  unfold State.recallTransaction
  dsimp only
  split
  · exact (popped.trans (.enqueue _ _ _ _)).trans (.record _ _ _)
  · exact popped

theorem Sustains.attemptStartTransaction (s : State) (c : Channel) : Sustains s (s.attemptStartTransaction c) := by
  have popped : Sustains s (s.updCh c ChannelEngine.popRequest) := .updCh s c (·.popRequest)
  have nothing : Sustains s ((s.updCh c ChannelEngine.popRequest).updCh c ChannelEngine.nothingStarted) :=
    popped.trans (.updCh _ c (·.nothingStarted))
  unfold State.attemptStartTransaction
  dsimp only
  split
  · next may =>
    split
    · next k r first =>
      exact popped.trans (.updRow_updCh _ r _ c fun ok => ok.startAttempt may first _)
    · exact nothing
  · exact nothing

theorem Sustains.outcomeTransaction (s : State) (c : Channel) (o : AttemptOutcome) :
    Sustains s (s.outcomeTransaction c o) :=
  ((Sustains.updCh s c (·.popRequest)).trans (.applyOutcome _ c o)).trans (.updCh _ c (·.afterOutcome o))

theorem Sustains.removalTransaction (s : State) (c : Channel) : Sustains s (s.removalTransaction c) := by
  have popped : Sustains s (s.updCh c ChannelEngine.popRequest) := .updCh s c (·.popRequest)
  unfold State.removalTransaction
  dsimp only
  refine Sustains.trans ?_ (.updCh _ c (·.runAttempts))
  refine Sustains.trans (popped.trans ?_) (.applyOutcome _ c .aborted)
  exact Sustains.updCh ((s.updCh c ChannelEngine.popRequest).mapRows _) c (·.emptied)

/-! ### Expiries, ticks and commands -/

theorem Sustains.presentDue (s : State) : Sustains s s.presentDue := .of_channels (by simp)

theorem Sustains.goStale (s : State) (r : RowId) : Sustains s (s.goStale r) := by
  unfold State.goStale
  split
  · exact (Sustains.updRow s r _).trans (.record _ _ _)
  · exact .refl s

theorem Sustains.applyFreshness (s : State) (r : RowId) : Sustains s (s.applyFreshness r) := by
  have restarted : Sustains s ((s.goStale r).startDeadline r .freshness) :=
    (Sustains.goStale s r).trans (.startDeadline _ r _)
  unfold State.applyFreshness
  dsimp only
  split
  · exact restarted.trans (.enqueue _ _ _ _)
  · exact restarted

theorem Sustains.applyRefresh (s : State) (r : RowId) : Sustains s (s.applyRefresh r) := by
  unfold State.applyRefresh
  refine Sustains.trans ?_ (.startDeadline _ r _)
  split
  · exact .enqueue s _ _ _
  · exact .refl s

theorem Sustains.applyGap (s : State) (r : RowId) : Sustains s (s.applyGap r) := by
  unfold State.applyGap
  dsimp only
  split
  · exact .updRow s r _
  · exact (Sustains.updRow s r _).trans (.enqueue _ _ _ _)

theorem Sustains.takeExpiry (s : State) (k : DeadlineKind) {apply : State → RowId → State}
    (h : ∀ s r, Sustains s (apply s r)) : Sustains s (s.takeExpiry k apply) := by
  have cleared (s : State) (p : Presented) : Sustains s (s.expiryTransaction k p apply) := by
    have cleared : Sustains s s.clearPresented := .of_channels rfl
    refine Sustains.trans ?_ (.presentDue _)
    split
    · exact cleared.trans (h _ _)
    · exact cleared
  unfold State.takeExpiry
  split
  · split
    · exact .transact (cleared _ _)
    · exact .refl s
  · exact .refl s

theorem Sustains.makeDue (s : State) (e : DueEntry) : Sustains s (s.makeDue e) := .of_channels rfl

theorem Sustains.tick (s : State) : Sustains s s.tick := by
  have due : Sustains s (s.fallen.foldl State.makeDue s).presentDue :=
    (Sustains.foldl Sustains.makeDue s.fallen s).trans (.presentDue _)
  intro c ok
  have ticked : s.tick.ch c = ((s.fallen.foldl State.makeDue s).presentDue.ch c).recoveryExpiry.recoveryTick := by
    simp [State.tick, State.ch]
  rw [ticked]
  exact (due c ok).recoveryExpiry.recoveryTick

theorem Sustains.finishOrWait (s : State) (isCancel : Bool) (r : RowId) (awaited : ChannelMask)
    (outcomes : Quad ChannelOutcome) : Sustains s (s.finishOrWait isCancel r awaited outcomes) := by
  unfold State.finishOrWait
  split <;> exact .of_channels rfl

theorem Sustains.finish (s : State) (row : Byte) (words : List Word) : Sustains s (s.finish row words) :=
  .of_channels rfl

theorem Sustains.refuse (s : State) (code : ResultCode) : Sustains s (s.refuse code) := .of_channels rfl

theorem Sustains.freeRow (s : State) (r : RowId) : Sustains s (s.freeRow r) := .of_channels rfl

theorem Sustains.enqueue_finish (s : State) (src : Source) (r : RowId) (mask : ChannelMask) (b : Byte)
    (words : List Word) : Sustains s ((s.enqueue src r mask).1.finish b words) :=
  (Sustains.enqueue s src r mask).trans (.finish _ _ _)

theorem Sustains.amendDeadline (s : State) (r : RowId) (k : DeadlineKind) (changed : Bool) :
    Sustains s (s.amendDeadline r k changed) := by
  unfold State.amendDeadline
  split
  · exact .startDeadline s r k
  · exact .refl s

theorem Sustains.declareTransaction (s : State) (p : Vector Word 16) : Sustains s (s.declareTransaction p) := by
  unfold State.declareTransaction
  dsimp only
  split
  · exact .refuse s _
  · split
    · exact .refuse s _
    · split
      · exact .refuse s _
      · exact .of_channels rfl

theorem Sustains.amendTransaction (s : State) (p : Vector Word 16) : Sustains s (s.amendTransaction p) := by
  unfold State.amendTransaction
  split
  · exact .refuse s _
  · dsimp only
    split
    · exact .refuse s _
    · split
      · exact .refuse s _
      · exact (((Sustains.updRow s _ _).trans (.amendDeadline _ _ _ _)).trans (.amendDeadline _ _ _ _)).trans
          (.finish _ _ _)

theorem Sustains.fetchTransaction (s : State) (p : Vector Word 16) : Sustains s (s.fetchTransaction p) := by
  unfold State.fetchTransaction
  split
  · exact .refuse s _
  · dsimp only
    split
    · exact (Sustains.finish s _ _).trans (.updRow _ _ _)
    · exact .finish s _ _

theorem Sustains.postTransaction (s : State) (p : Vector Word 16) : Sustains s (s.postTransaction p) := by
  unfold State.postTransaction
  split
  · exact .refuse s _
  · split
    · exact .refuse s _
    · split
      · exact .refuse s _
      · exact (Sustains.updRow s _ _).trans (.enqueue_finish _ _ _ _ _ _)

theorem Sustains.sendTransaction (s : State) (p : Vector Word 16) : Sustains s (s.sendTransaction p) := by
  unfold State.sendTransaction
  split
  · exact .refuse s _
  · split
    · exact .refuse s _
    · split
      · exact .refuse s _
      · exact .enqueue_finish s _ _ _ _ _

theorem Sustains.recallCommandTransaction (s : State) (p : Vector Word 16) :
    Sustains s (s.recallCommandTransaction p) := by
  unfold State.recallCommandTransaction
  split
  · exact .refuse s _
  · split
    · exact .refuse s _
    · split
      · exact .refuse s _
      · exact .enqueue_finish s _ _ _ _ _

theorem Sustains.cancelTransaction (s : State) (p : Vector Word 16) : Sustains s (s.cancelTransaction p) := by
  unfold State.cancelTransaction
  split
  · exact .refuse s _
  · dsimp only
    refine (Sustains.foldl (fun s c => ?_) allChannels s).trans (.finishOrWait _ _ _ _ _)
    split
    · exact .cancelOn s _ c
    · exact .refl s

theorem Sustains.suspendTransaction (s : State) (p : Vector Word 16) : Sustains s (s.suspendTransaction p) := by
  unfold State.suspendTransaction
  split
  · exact .refuse s _
  · dsimp only
    split
    · exact .refuse s _
    · exact ((Sustains.takeOutOfService s _).trans (.updRow _ _ _)).trans (.finish _ _ _)

theorem Sustains.resumeTransaction (s : State) (p : Vector Word 16) : Sustains s (s.resumeTransaction p) := by
  unfold State.resumeTransaction
  split
  · exact .refuse s _
  · dsimp only
    split
    · exact .refuse s _
    · exact ((Sustains.updRow s _ _).trans (.startDeadline _ _ _)).trans (.finish _ _ _)

theorem Sustains.retireTransaction (s : State) (p : Vector Word 16) : Sustains s (s.retireTransaction p) := by
  unfold State.retireTransaction
  split
  · exact .refuse s _
  · next r _ =>
    dsimp only
    split
    · exact .refuse s _
    · refine ((Sustains.takeOutOfService s r).trans ?_).trans (.finishOrWait _ _ _ _ _)
      split
      · exact .freeRow _ _
      · exact .updRow _ _ _

theorem Sustains.commandTransaction (s : State) (k : CommandKind) (p : Vector Word 16) :
    Sustains s (s.commandTransaction k p) := by
  cases k
  case declare => exact .declareTransaction s p
  case amend => exact .amendTransaction s p
  case find => simp only [State.commandTransaction, State.findTransaction]; split <;> exact .of_channels rfl
  case list => simp only [State.commandTransaction, State.listTransaction]; split <;> exact .of_channels rfl
  case fetch => exact .fetchTransaction s p
  case post => exact .postTransaction s p
  case send => exact .sendTransaction s p
  case _ => exact .recallCommandTransaction s p
  case cancel => exact .cancelTransaction s p
  case suspend => exact .suspendTransaction s p
  case resume => exact .resumeTransaction s p
  case retire => exact .retireTransaction s p
  case take => simp only [State.commandTransaction, State.takeTransaction]; split <;> exact .of_channels rfl
  case clearTable => simp only [State.commandTransaction, State.clearTransaction]; split <;> exact .of_channels rfl

/-! ### The port -/

theorem Sustains.writeConfig (s : State) (c : Channel) (w : ConfigWord) (data mask : Word) :
    Sustains s (s.writeConfig c w data mask) := by
  unfold State.writeConfig
  split
  · next off => exact .updCh s c fun ok => ok.storeConfig off w _
  · exact .of_channels rfl

theorem Sustains.writeChannel (s : State) (c : Channel) (addr : Nat) (data mask : Word) :
    Sustains s (s.writeChannel c addr data mask) := by
  unfold State.writeChannel
  split
  · exact .updCh s c fun ok => ok.writeControl _
  · exact .writeConfig s c _ _ _
  · exact .writeConfig s c _ _ _
  · exact .writeConfig s c _ _ _
  · exact .writeConfig s c _ _ _
  · exact .updCh s c fun ok => ok.sending ok.reservations rfl
  · exact .refl s

theorem Sustains.resetBlocks (s : State) (cause : ResetCause) (phase : PortPhase) :
    Sustains s (s.resetBlocks cause phase) := by
  intro c _
  have reset : (s.resetBlocks cause phase).ch c = ChannelEngine.reset := Quad.get_all _ c
  rw [reset]
  exact ChannelEngine.reset_ok

theorem Sustains.writeCode (s : State) (code : Word) : Sustains s (s.writeCode code) := by
  unfold State.writeCode
  (repeat' split) <;> exact .of_channels rfl

theorem Sustains.writeWord (s : State) (page : Option Page) (addr : Nat) (data mask : Word) :
    Sustains s (s.writeWord page addr data mask) := by
  unfold State.writeWord
  split
  · exact .refl s
  · unfold State.writeGlobal
    split
    · dsimp only
      split
      · exact .resetBlocks s _ _
      · exact .of_channels rfl
    · split
      · exact .of_channels rfl
      · split
        · exact Sustains.trans (.writeCode s _) (.of_channels rfl)
        · exact .of_channels rfl
  · split
    · exact (Sustains.writeChannel s _ addr data mask).trans (.of_channels rfl)
    · exact .of_channels rfl
  · split
    · exact (Sustains.foldl (fun s c => .writeChannel s c addr data mask) allChannels s).trans (.of_channels rfl)
    · exact .of_channels rfl

theorem Sustains.portWrite (s : State) (addr : Byte) (data mask : Word) : Sustains s (s.portWrite addr data mask) := by
  unfold State.portWrite State.strayBits
  split
  · exact (writeWord s _ _ _ _).trans (.of_channels rfl)
  · exact (writeWord s _ _ _ _).trans (.of_channels rfl)
  · exact .refl s
  · exact .refl s
  · split <;> exact .of_channels rfl

theorem Sustains.wordOn (s : State) (p : Page → Bool) {f : State → State} (h : ∀ s, Sustains s (f s)) :
    Sustains s (s.wordOn p f) := by
  unfold State.wordOn
  split
  · exact h s
  · exact .refl s

theorem Sustains.clearReported (s : State) (c : Channel) (reported : BitVec 9) :
    Sustains s (s.clearReported c reported) :=
  .updCh s c fun ok => ok.sending ok.reservations rfl

theorem Sustains.portRead (s : State) (addr : Byte) : Sustains s (s.portRead addr) := by
  have after (page : Page) : Sustains s (s.afterWord page addr.toNat) := by
    unfold State.afterWord
    split
    · exact .clearReported s _ _
    · exact .refl s
  unfold State.portRead State.strayBits
  dsimp only
  split
  · exact .of_channels rfl
  · split
    · exact (after _).trans (.of_channels rfl)
    · exact .of_channels rfl
  · exact .refl s
  · exact .refl s
  · exact .refl s
  · split <;> exact .of_channels rfl

theorem Sustains.portCompare (s : State) (addr : Byte) (expected mask : Word) :
    Sustains s (s.portCompare addr expected mask) := by
  unfold State.portCompare State.strayBits
  (repeat' split) <;> exact .of_channels rfl

theorem Sustains.takeEvents (s : State) : Sustains s s.takeEvents := by
  unfold State.takeEvents State.strayBits
  (repeat' split) <;> exact .of_channels rfl

theorem Sustains.eventsShifted (s : State) : Sustains s s.eventsShifted := by
  unfold State.eventsShifted State.strayBits
  split
  · exact (Sustains.clearReported s _ _).trans (.of_channels rfl)
  · split <;> exact .of_channels rfl

/-! ### Every command -/

theorem Sustains.hear (s : State) (c : Channel) (t : Telegram) : Sustains s (s.hear c t) :=
  .onChannel s c fun ok => ok.telegramEnds (ChannelEngine.judges_judgeTelegram _ t)

theorem Sustains.hearBytes (s : State) (c : Channel) (bytes : List Byte) : Sustains s (s.hearBytes c bytes) :=
  .onChannel s c fun ok => ok.telegramEnds (ChannelEngine.judges_judgeBytes _ bytes)

theorem exec_sustains {i : Instr} {s t : State} (h : exec i s = .next t) : Sustains s t := by
  cases i
  case pinReset selLow => cases h; exact .resetBlocks s _ _
  case portStatusByte control => cases h; exact .of_channels rfl
  case endInsideTransaction bits =>
    simp only [exec, execEndInsideTransaction] at h
    split at h <;> cases h <;> exact .of_channels rfl
  case registerWrite addr data mask => cases h; exact .portWrite s addr data mask
  case compare addr expected mask => cases h; exact .portCompare s addr expected mask
  case eventRead part =>
    cases part <;> cases h
    · exact .wordOn s _ fun s => .portRead s _
    · exact .wordOn s _ .takeEvents
    · exact .eventsShifted s
  case readAtAbsentAddress addr => cases h; exact .portRead s addr
  case softReset | attnEnable | eventEnableWrite | configWrite | channelEnable | channelDisable | restart | recover |
      clearCounters | declare | amend | find | list | fetch | post | send | _ | cancel | suspend | resume |
      retire | take | clearTable | unknownCommand => cases h; exact .wordOn s _ fun s => .portWrite s _ _ _
  case commandTransaction =>
    simp only [exec, execCommandTransaction] at h
    split at h <;> cases h
    · exact .transact (.commandTransaction _ _ _)
    · exact .refl s
  case tick => cases h; exact (Sustains.tick s).trans (.of_channels rfl)
  case deadlineDue =>
    simp only [exec, execDeadlineDue] at h
    split at h <;> cases h
    · exact ((Sustains.makeDue s _).trans (.presentDue _)).trans (.of_channels rfl)
    · exact .refl s
  case freshnessExpiry => cases h; exact .takeExpiry s _ .applyFreshness
  case refreshExpiry => cases h; exact .takeExpiry s _ .applyRefresh
  case inhibitGapExpiry => cases h; exact .takeExpiry s _ .applyGap
  case recoveryIntervalExpiry c => cases h; exact .updCh s c (·.recoveryExpiry)
  case publishReceived c p => cases h; exact .hear s c _
  case recallReceived c q => cases h; exact .hear s c _
  case confirmReceived c q => cases h; exact .hear s c _
  case tokenReceived c source => cases h; exact .hear s c _
  case joinCallReceived c source => cases h; exact .hear s c _
  case joinReplyReceived c source => cases h; exact .hear s c _
  case unmatchedRingTelegram c kind source target => cases kind <;> cases h <;> exact .hear s c _
  case checkFailure c bytes => cases h; exact .hearBytes s c bytes
  case unknownKindTelegram c bytes => cases h; exact .hearBytes s c bytes
  case framingFault c kind => cases h; exact .onChannel s c (·.framingFault kind)
  case startBit c => cases h; exact .onChannel s c (·.startBit)
  case endGap c => cases h; exact .onChannel s c (·.endGap)
  case publishArrival c =>
    simp only [exec, execPublishArrival] at h
    split at h <;> cases h
    · exact .transact (.publishTransaction _ c _)
    · exact .refl s
  case recallArrival c =>
    simp only [exec, execRecallArrival] at h
    split at h <;> cases h
    · exact .transact (.recallTransaction _ c _)
    · exact .refl s
  case attemptStart c =>
    simp only [exec, execAttemptStart] at h
    split at h <;> cases h
    · exact .transact (.attemptStartTransaction _ c)
    · exact .refl s
  case attemptOutcome c =>
    simp only [exec, execAttemptOutcome] at h
    split at h <;> cases h
    · exact .transact (.outcomeTransaction _ c _)
    · exact .refl s
  case removalTransaction c =>
    simp only [exec, execRemovalTransaction] at h
    split at h <;> cases h
    · exact .transact (.removalTransaction _ c)
    · exact .refl s
  case attemptEcho c readBack clean => cases h; exact .onChannel s c (·.attemptEcho readBack clean)
  case replyWindowExpiry c => cases h; exact .onChannel s c (·.replyWindowExpiry)
  case passWindowExpiry c => cases h; exact .onChannel s c (·.passWindowExpiry)
  case claimEcho c readBack clean => cases h; exact .onChannel s c (·.claimEcho readBack clean)
  case sendReply c => cases h; exact .updCh s c (·.sendReply)
  case replyLatestStart c => cases h; exact .updCh s c (·.replyTooLate)
  case replyEcho c readBack clean => cases h; exact .updCh s c (·.replyEcho readBack clean)
  case joinCallEcho c readBack clean => cases h; exact .updCh s c (·.joinCallEcho readBack clean)
  case passTokenEcho c readBack clean => cases h; exact .updCh s c (·.passTokenEcho readBack clean)
  case silenceTimerExpiry c => cases h; exact .updCh s c (·.silenceExpiry)
  case claimTransmit c => cases h; exact .updCh s c (·.claimTransmit)

theorem step_sustains {s t : State} (h : step s = .next t) : Sustains s t := by
  cases queue : s.pending with
  | nil =>
    rw [step_nil queue] at h
    cases h
    exact .refl s
  | cons c rest =>
    rw [step_cons queue] at h
    exact exec_sustains (s := { s with pending := rest }) h

/-- Settles O57: `step_sustains` for the channel engines, `step_rowsEffect` for the rows; an accepted arrival stores what
the arrival queue promises. -/
theorem stepsKeepChannelsAndRows : Obligations.StepsKeepChannelsAndRows := by
  intro s t ok h
  refine ⟨fun c => step_sustains h c (ok.channels c), (step_rowsEffect h).rows.rowsOk (fun c p heard => ?_) ok.rows⟩
  obtain ⟨low, high, _⟩ := (ok.channels c).heard p heard
  exact ⟨low, high⟩

end Sys2Proof.Machine
end

section
/-! PROOFS. What the operations of the line and the token logic leave of a channel engine's send side: its class
lists, the
row in flight, and what it owes while OFFLINE (O59's half). -/

namespace Sys2Proof.Machine

set_option Elab.async false

/-- The class lists and the row in flight are the same, and a channel that is OFFLINE with no removal owed was so. -/
structure ChannelEngine.Kin (ce u : ChannelEngine) : Prop where
  lists : u.lists = ce.lists
  flying : u.inFlight.map (fun f => f.row) = ce.inFlight.map fun f => f.row
  owed : u.state = .offline → .removal ∉ u.requests → ce.state = .offline ∧ .removal ∉ ce.requests

namespace ChannelEngine

variable {ce u v : ChannelEngine}

theorem Kin.refl (ce : ChannelEngine) : ce.Kin ce := ⟨rfl, rfl, fun off none => ⟨off, none⟩⟩

theorem Kin.trans (a : ce.Kin u) (b : u.Kin v) : ce.Kin v :=
  ⟨b.lists.trans a.lists, b.flying.trans a.flying, fun off none =>
    have ⟨off, none⟩ := b.owed off none
    a.owed off none⟩

/-- A change of fields that are not of the send side. -/
theorem Kin.of_eq (lists : u.lists = ce.lists) (flying : u.inFlight = ce.inFlight) (state : u.state = ce.state)
    (requests : u.requests = ce.requests) : ce.Kin u :=
  ⟨lists, by rw [flying], fun off none => ⟨state ▸ off, requests ▸ none⟩⟩

/-- An operation after a change of fields that are not of the send side. -/
theorem Kin.after (b : u.Kin v) (lists : u.lists = ce.lists) (flying : u.inFlight = ce.inFlight)
    (state : u.state = ce.state) (requests : u.requests = ce.requests) : ce.Kin v :=
  (Kin.of_eq lists flying state requests).trans b

/-- A change into another state than OFFLINE. -/
theorem Kin.of_live (lists : u.lists = ce.lists) (flying : u.inFlight = ce.inFlight) (live : u.state ≠ .offline) :
    ce.Kin u :=
  ⟨lists, by rw [flying], fun off => absurd off live⟩

theorem Kin.begin (ce : ChannelEngine) : ce.Kin ce.begin := by
  obtain e | ⟨_, _, _, _, e⟩ := ce.begin_cases
  · rw [e]; exact .refl ce
  · rw [e]; exact .of_eq rfl rfl rfl rfl

theorem Kin.restartSilence (ce : ChannelEngine) : ce.Kin ce.restartSilence := .of_eq rfl rfl rfl rfl

theorem Kin.settle (ce : ChannelEngine) : ce.Kin ce.settle := (Kin.restartSilence ce).trans (.begin _)

theorem Kin.queueReply (ce : ChannelEngine) (t : Telegram) : ce.Kin (ce.queueReply t) := by
  unfold ChannelEngine.queueReply
  split
  · exact .of_eq rfl rfl rfl rfl
  · exact .refl ce

theorem Kin.requestAttempt (ce : ChannelEngine) : ce.Kin ce.requestAttempt := by
  unfold ChannelEngine.requestAttempt
  split
  · exact .refl ce
  · exact ⟨rfl, rfl, fun off none => ⟨off, fun mem => none (List.mem_append_left _ mem)⟩⟩

theorem Kin.endAttempt (ce : ChannelEngine) (o : AttemptOutcome) : ce.Kin (ce.endAttempt o) := by
  obtain e | ⟨f, flying, _, e⟩ := ce.endAttempt_cases o
  · rw [e]; exact .refl ce
  · rw [e]
    exact ⟨rfl, by simp [flying], fun off none => ⟨off, fun mem => none (List.mem_append_left _ mem)⟩⟩

/-! ### Visits and passes -/

theorem Kin.enterHolding (ce : ChannelEngine) : ce.Kin ce.enterHolding := .of_live rfl rfl nofun

theorem Kin.joinStep (ce : ChannelEngine) : ce.Kin ce.joinStep.1 := by
  have same := ce.joinStep_eq
  exact .of_eq (congrArg ChannelEngine.lists same :) (congrArg ChannelEngine.inFlight same :)
    (congrArg ChannelEngine.state same :) (congrArg ChannelEngine.requests same :)

theorem Kin.callStation (ce : ChannelEngine) (t : Nat) : ce.Kin (ce.callStation t) := .of_eq rfl rfl rfl rfl

theorem Kin.visitAlone (ce : ChannelEngine) : ce.Kin ce.visitAlone := by
  refine (Kin.enterHolding ce).trans ?_
  unfold ChannelEngine.visitAlone
  dsimp only
  split
  · exact .refl _
  · split
    · exact .requestAttempt _
    · have stepped := Kin.joinStep ce.enterHolding
      split
      · next e =>
        rw [e] at stepped
        exact stepped.trans (.callStation _ _)
      · next e =>
        rw [e] at stepped
        exact stepped

theorem Kin.passOn (ce : ChannelEngine) : ce.Kin ce.passOn := by
  unfold ChannelEngine.passOn
  split
  · exact .of_live rfl rfl nofun
  · exact .visitAlone ce

theorem Kin.afterAttempts (ce : ChannelEngine) : ce.Kin ce.afterAttempts := by
  have stepped := Kin.joinStep ce
  unfold ChannelEngine.afterAttempts
  split
  · next e =>
    rw [e] at stepped
    exact stepped.trans (.callStation _ _)
  · next e =>
    rw [e] at stepped
    exact stepped.trans (.passOn _)

theorem Kin.runAttempts (ce : ChannelEngine) : ce.Kin ce.runAttempts := by
  unfold ChannelEngine.runAttempts
  split
  · split
    · exact .refl ce
    · split
      · exact .requestAttempt ce
      · exact .afterAttempts ce
  · exact .refl ce

theorem Kin.beginVisit (ce : ChannelEngine) : ce.Kin ce.beginVisit := (Kin.enterHolding ce).trans (.runAttempts _)

theorem Kin.wake (ce : ChannelEngine) : ce.Kin ce.wake := by
  obtain e | ⟨_, _, e⟩ := ce.wake_cases
  · rw [e]; exact .refl ce
  · rw [e]; exact (Kin.runAttempts ce).trans (.begin _)

theorem Kin.nothingStarted (ce : ChannelEngine) : ce.Kin ce.nothingStarted := by
  unfold ChannelEngine.nothingStarted
  split
  · split
    · exact .refl ce
    · exact (Kin.afterAttempts ce).trans (.begin _)
  · exact .refl ce

theorem Kin.tryFailed (ce : ChannelEngine) : ce.Kin ce.tryFailed := by
  unfold ChannelEngine.tryFailed
  split
  · split
    · exact Kin.after (.passOn _) rfl rfl rfl rfl
    · exact .of_eq rfl rfl rfl rfl
  · exact .refl ce

/-! ### Conflicts, SILENT, LISTENING and OFFLINE -/

theorem Kin.conflict (ce : ChannelEngine) : ce.Kin ce.conflict := (Kin.endAttempt ce _).trans (.of_live rfl rfl nofun)

theorem Kin.enterSilent (ce : ChannelEngine) : ce.Kin ce.enterSilent :=
  (Kin.endAttempt ce _).trans (.of_live rfl rfl nofun)

theorem Kin.enterListening (ce : ChannelEngine) : ce.Kin ce.enterListening := .of_live rfl rfl nofun

theorem Kin.raiseErrorRun (ce : ChannelEngine) : ce.Kin ce.raiseErrorRun := by
  unfold ChannelEngine.raiseErrorRun
  dsimp only
  split
  · exact Kin.after (.enterSilent _) rfl rfl rfl rfl
  · exact .of_eq rfl rfl rfl rfl

theorem Kin.leaveClaim (ce : ChannelEngine) : ce.Kin ce.leaveClaim := by
  refine .of_live rfl rfl ?_
  show (match ce.claimedFrom with
    | .listening => ChState.listening
    | .receiving => ChState.receiving) ≠ .offline
  split <;> nofun

theorem Kin.recoverNow (ce : ChannelEngine) : ce.Kin ce.recoverNow := by
  unfold ChannelEngine.recoverNow
  split
  · exact Kin.after (.enterListening _) rfl rfl rfl rfl
  · exact .refl ce

/-- A channel that goes OFFLINE owes its removal transaction (R77). -/
theorem Kin.goOffline (ce : ChannelEngine) : ce.Kin ce.goOffline :=
  ⟨rfl, by simp [ChannelEngine.goOffline, Function.comp_def], fun _ none => absurd
    (by simp [ChannelEngine.goOffline]) none⟩

theorem Kin.goOnline (ce : ChannelEngine) : ce.Kin ce.goOnline := .of_live rfl rfl nofun

/-! ### Windows and telegrams -/

theorem Kin.unanswered (ce : ChannelEngine) : ce.Kin ce.unanswered := by
  have closed : ce.Kin { ce with replyWindow := none } := .of_eq rfl rfl rfl rfl
  unfold ChannelEngine.unanswered
  split
  · split
    · exact closed.trans (.endAttempt _ _)
    · exact closed.trans (.passOn _)
  · exact .refl ce

theorem Kin.answered (ce : ChannelEngine) : ce.Kin ce.answered := by
  have closed : ce.Kin { ce with replyWindow := none } := .of_eq rfl rfl rfl rfl
  unfold ChannelEngine.answered
  split
  · split
    · exact closed.trans (.endAttempt _ _)
    · exact closed.trans (.passOn _)
  · exact .refl ce

theorem Kin.closeIfRanOut (ce : ChannelEngine) (inWindow : Bool) : ce.Kin (ce.closeIfRanOut inWindow) := by
  unfold ChannelEngine.closeIfRanOut
  split
  · split
    · split
      · exact .unanswered ce
      · exact .refl ce
    · split
      · split
        · split
          · exact .tryFailed ce
          · exact .refl ce
        · exact .refl ce
      · exact .refl ce
  · exact .refl ce

theorem Kin.learn (ce : ChannelEngine) (source : Byte) : ce.Kin (ce.learn source) := by
  unfold ChannelEngine.learn
  split
  · exact .refl ce
  · exact .of_eq rfl rfl rfl rfl

theorem Kin.countAndOffer (ce : ChannelEngine) (t : Telegram) : ce.Kin (ce.countAndOffer t) := by
  unfold ChannelEngine.countAndOffer
  split
  · split <;> exact .of_eq rfl rfl rfl rfl
  · exact .of_eq rfl rfl rfl rfl

theorem Kin.duplicate (ce : ChannelEngine) : ce.Kin ce.duplicate := by
  unfold ChannelEngine.duplicate
  split
  · exact .refl ce
  · exact .of_eq rfl rfl rfl rfl
  · exact Kin.after (.enterSilent _) rfl rfl rfl rfl

theorem Kin.receivingTelegram (ce : ChannelEngine) (t : Telegram) : ce.Kin (ce.receivingTelegram t) := by
  unfold ChannelEngine.receivingTelegram
  split
  · split
    · exact .beginVisit ce
    · exact .refl ce
  · split
    · exact .queueReply ce _
    · exact .refl ce
  · exact .refl ce

theorem Kin.listeningTelegram (ce : ChannelEngine) (t : Telegram) : ce.Kin (ce.listeningTelegram t) := by
  unfold ChannelEngine.listeningTelegram
  split
  · split
    · exact .beginVisit ce
    · exact .refl ce
  · split
    · exact (Kin.queueReply ce _).trans (.of_live rfl rfl nofun)
    · exact .refl ce
  · exact .refl ce

theorem Kin.tokenLogic (ce : ChannelEngine) (inWindow : Bool) (t : Telegram) : ce.Kin (ce.tokenLogic inWindow t) := by
  unfold ChannelEngine.tokenLogic
  split
  · exact .listeningTelegram ce t
  · exact .leaveClaim ce
  · exact .receivingTelegram ce t
  · unfold ChannelEngine.holdingTelegram
    split
    · exact .answered ce
    · split
      · exact (Kin.closeIfRanOut ce _).trans (.wake _)
      · exact .conflict ce
  · unfold ChannelEngine.passingTelegram
    split
    · have live : ce.Kin { ce with state := .receiving, pass := none, waiting := none } := .of_live rfl rfl nofun
      exact live.trans (.receivingTelegram _ t)
    · split
      · exact .closeIfRanOut ce _
      · exact .conflict ce
  · exact .refl ce
  · exact .refl ce

theorem Kin.startBit (ce : ChannelEngine) : ce.Kin ce.startBit := by
  unfold ChannelEngine.startBit
  split
  · exact .refl ce
  · split
    · exact .refl ce
    · exact .of_eq rfl rfl rfl rfl
    · exact .of_eq rfl rfl rfl rfl
    · exact .refl ce
    · exact .refl ce
    · split
      · exact Kin.after (.conflict _) rfl rfl rfl rfl
      · exact .of_eq rfl rfl rfl rfl
    · exact .of_eq rfl rfl rfl rfl

theorem Kin.hearing (ce : ChannelEngine) : ce.Kin ce.hearing := by
  unfold ChannelEngine.hearing
  split
  · exact .startBit ce
  · exact .refl ce

theorem Kin.judged (ce : ChannelEngine) (inWindow intruding : Bool) (v : Verdict) :
    ce.Kin (ce.judged inWindow intruding v) := by
  unfold ChannelEngine.judged
  split
  · exact Kin.after (.closeIfRanOut _ _) rfl rfl rfl rfl
  · exact Kin.after (.closeIfRanOut _ _) rfl rfl rfl rfl
  · exact Kin.after (.duplicate _) rfl rfl rfl rfl
  · have told (t : Telegram) : ce.Kin ((ce.countAndOffer t).learn (telegramSource t)) :=
      (Kin.countAndOffer ce t).trans (.learn _ _)
    dsimp only
    split
    · exact told _
    · exact (told _).trans (.tokenLogic _ _ _)

theorem Kin.ends (ce : ChannelEngine) (after : RxState) (v : Verdict) : ce.Kin (ce.ends after v) :=
  Kin.trans (u := { ce with rx := after }) (.of_eq rfl rfl rfl rfl) (.judged _ _ _ _)

theorem Kin.telegramEnds (ce : ChannelEngine) (v : Verdict) : ce.Kin (ce.telegramEnds v) := by
  unfold ChannelEngine.telegramEnds
  split
  · exact ((Kin.hearing ce).trans (.ends _ _ _)).trans (.settle _)
  · exact .refl ce

theorem Kin.framingFault (ce : ChannelEngine) (k : FramingCase) : ce.Kin (ce.framingFault k) := by
  have heard (after : RxState) : ce.Kin (ce.hearing.ends after .checkFailure) := (Kin.hearing ce).trans (.ends _ _ _)
  unfold ChannelEngine.framingFault
  split
  · cases k
    · exact (heard .resync).trans (.settle _)
    · exact (heard .resync).trans (.of_eq rfl rfl rfl rfl)
    · exact (heard .idle).trans (.settle _)
    · exact (heard .resync).trans (.settle _)
  · exact .refl ce

theorem Kin.lineFault (ce : ChannelEngine) : ce.Kin ce.lineFault := by
  have unwatched : ce.Kin { ce with watch := none } := .of_eq rfl rfl rfl rfl
  unfold ChannelEngine.lineFault
  split
  · exact unwatched.trans (.passOn _)
  · exact unwatched.trans (.tryFailed _)
  · exact unwatched

theorem Kin.endGap (ce : ChannelEngine) : ce.Kin ce.endGap := by
  have idle : ce.Kin { ce with rx := .idle } := .of_eq rfl rfl rfl rfl
  unfold ChannelEngine.endGap
  split
  · exact .refl ce
  · split
    · exact idle.trans (.settle _)
    · exact (idle.trans (.lineFault _)).trans (.settle _)
    · exact idle.trans (.settle _)
    · exact .refl ce

/-! ### Echoes -/

theorem Kin.begun (ce : ChannelEngine) (job : TxJob) : ce.Kin (ce.begun job) := by
  obtain e | ⟨_, _, _, _, e⟩ := ce.begun_cases job
  · rw [e]; exact .refl ce
  · rw [e]; exact .of_eq rfl rfl rfl rfl

theorem Kin.sentGood (ce : ChannelEngine) : ce.Kin ce.sentGood := .of_eq rfl rfl rfl rfl

theorem Kin.sentBad (ce : ChannelEngine) (watch : Option TxJob) : ce.Kin (ce.sentBad watch) := .of_eq rfl rfl rfl rfl

theorem Kin.attemptSent (ce : ChannelEngine) : ce.Kin ce.attemptSent := by
  unfold ChannelEngine.attemptSent
  split
  · next f flying =>
    split
    · split
      · exact .endAttempt ce _
      · exact ⟨rfl, by simp [openWindow, flying], fun off none => ⟨off, none⟩⟩
    · exact .refl ce
  · exact .refl ce

theorem Kin.attemptEcho (ce : ChannelEngine) (readBack : List Byte) (clean : Bool) :
    ce.Kin (ce.attemptEcho readBack clean) := by
  refine (Kin.begun ce .attempt).trans ?_
  unfold ChannelEngine.attemptEcho
  dsimp only
  split
  · split
    · exact ((Kin.sentGood _).trans (.attemptSent _)).trans (.settle _)
    · exact (Kin.sentBad _ _).trans (.endAttempt _ _)
  · exact .refl _

theorem Kin.joinCallEcho (ce : ChannelEngine) (readBack : List Byte) (clean : Bool) :
    ce.Kin (ce.joinCallEcho readBack clean) := by
  refine (Kin.begun ce .joinCall).trans ?_
  unfold ChannelEngine.joinCallEcho
  dsimp only
  split
  · split
    · refine Kin.trans ?_ (.settle _)
      split <;> exact .of_eq rfl rfl rfl rfl
    · exact .sentBad _ _
  · exact .refl _

theorem Kin.passTokenEcho (ce : ChannelEngine) (readBack : List Byte) (clean : Bool) :
    ce.Kin (ce.passTokenEcho readBack clean) := by
  refine (Kin.begun ce .passToken).trans ?_
  unfold ChannelEngine.passTokenEcho
  dsimp only
  split
  · split
    · exact Kin.trans (u := (ce.begun .passToken).sentGood.openPassWindow) (.of_eq rfl rfl rfl rfl) (.settle _)
    · exact .sentBad _ _
  · exact .refl _

theorem Kin.claimEcho (ce : ChannelEngine) (readBack : List Byte) (clean : Bool) :
    ce.Kin (ce.claimEcho readBack clean) := by
  unfold ChannelEngine.claimEcho
  split
  · split
    · split
      · exact Kin.trans (u := { ce.sentGood with errorRun := 0 }.setEvent .tokenRegenerated) (.of_eq rfl rfl rfl rfl)
          ((Kin.beginVisit _).trans (.settle _))
      · exact (Kin.sentGood ce).trans (.settle _)
    · have raised := (Kin.sentBad ce none).trans (.raiseErrorRun _)
      dsimp only
      split
      · exact raised.trans (.leaveClaim _)
      · exact raised
  · exact .refl ce

theorem Kin.replyEcho (ce : ChannelEngine) (readBack : List Byte) (clean : Bool) :
    ce.Kin (ce.replyEcho readBack clean) := by
  unfold ChannelEngine.replyEcho
  split
  · split
    · exact (Kin.sentGood ce).trans (.settle _)
    · exact .sentBad ce _
  · exact .refl ce

/-! ### Line timers, transmissions, controls -/

theorem Kin.replyWindowExpiry (ce : ChannelEngine) : ce.Kin ce.replyWindowExpiry := by
  unfold ChannelEngine.replyWindowExpiry
  split
  · split
    · exact .of_eq rfl rfl rfl rfl
    · exact .unanswered ce
  · exact .refl ce

theorem Kin.passWindowExpiry (ce : ChannelEngine) : ce.Kin ce.passWindowExpiry := by
  unfold ChannelEngine.passWindowExpiry
  split
  · split
    · split
      · exact .of_eq rfl rfl rfl rfl
      · exact .tryFailed ce
    · exact .refl ce
  · exact .refl ce

theorem Kin.silenceExpiry (ce : ChannelEngine) : ce.Kin ce.silenceExpiry := by
  unfold ChannelEngine.silenceExpiry
  split
  · exact .of_live rfl rfl nofun
  · exact .of_live rfl rfl nofun
  · exact .refl ce

theorem Kin.claimTransmit (ce : ChannelEngine) : ce.Kin ce.claimTransmit := by
  unfold ChannelEngine.claimTransmit
  split
  · exact .of_eq rfl rfl rfl rfl
  · exact .refl ce

theorem Kin.sendReply (ce : ChannelEngine) : ce.Kin ce.sendReply := by
  unfold ChannelEngine.sendReply
  split
  · split
    · exact .of_eq rfl rfl rfl rfl
    · exact .refl ce
  · exact .refl ce

theorem Kin.replyTooLate (ce : ChannelEngine) : ce.Kin ce.replyTooLate := by
  unfold ChannelEngine.replyTooLate
  split
  · exact Kin.after (.begin _) rfl rfl rfl rfl
  · exact .refl ce

theorem Kin.recoveryExpiry (ce : ChannelEngine) : ce.Kin ce.recoveryExpiry := by
  unfold ChannelEngine.recoveryExpiry
  split
  · exact Kin.after (.recoverNow _) rfl rfl rfl rfl
  · exact .refl ce

theorem Kin.afterOutcome (ce : ChannelEngine) (o : AttemptOutcome) : ce.Kin (ce.afterOutcome o) := by
  have runs {u : ChannelEngine} (h : ce.Kin u) : ce.Kin u.runAttempts.begin := (h.trans (.runAttempts _)).trans
      (.begin _)
  cases o
  · exact runs (.of_eq rfl rfl rfl rfl)
  · exact runs (.of_eq rfl rfl rfl rfl)
  · exact runs (.refl ce)
  · exact runs (.raiseErrorRun ce)
  · exact runs (.refl ce)

theorem Kin.decideReply (ce : ChannelEngine) (p : Publish) (d : Disposition) : ce.Kin (ce.decideReply p d) := by
  unfold ChannelEngine.decideReply
  split
  · exact .queueReply ce _
  · exact .refl ce

theorem Kin.writeControl (ce : ChannelEngine) (w : Word) : ce.Kin (ce.writeControl w) := by
  have cleared : ce.Kin (if bitAt w 6 then { ce with counters := Counters.zero } else ce) := by
    split
    · exact .of_eq rfl rfl rfl rfl
    · exact .refl ce
  refine cleared.trans ?_
  unfold ChannelEngine.writeControl
  dsimp only
  generalize (if bitAt w 6 then { ce with counters := Counters.zero } else ce) = u
  split
  · split
    · unfold ChannelEngine.enableNow
      split
      · exact Kin.after (.goOnline _) rfl rfl rfl rfl
      · exact .of_eq rfl rfl rfl rfl
    · exact Kin.after (.goOffline _) rfl rfl rfl rfl
  · split
    · unfold ChannelEngine.restartNow
      split
      · exact (Kin.goOffline u).trans (.goOnline _)
      · exact .refl u
    · split
      · exact .recoverNow u
      · exact .refl u

theorem Kin.storeConfig (ce : ChannelEngine) (w : ConfigWord) (x : Word) : ce.Kin (ce.storeConfig w x) := by
  cases w <;> exact .of_eq rfl rfl rfl rfl

end ChannelEngine

end Sys2Proof.Machine
end

section
/-! PROOFS. The agreement of the image table with the channels and of the due list with the deadlines (O59), in the form
that also holds between the operations of one transaction, and what one change of a row or a channel makes of it. -/

namespace Sys2Proof.Machine

set_option Elab.async false

/-! ### The agreement within a transaction -/

/-- What may be still open within a transaction: a row that is RETIRING though in flight nowhere, a channel that owes
nothing more though it is not emptied, a DUE deadline that is no longer presented, and a due list whose head is not yet
presented. -/
structure Slack where
  late : Option RowId := none
  owing : Option Channel := none
  gone : Option DueEntry := none
  unoffered : Bool := false

/-- `State.Agrees`, but for the slack of a transaction. -/
structure State.AgreesBut (s : State) (x : Slack) : Prop where
  each : ∀ (r : RowId) (c : Channel), AgreeOn (s.row r) r (s.ch c) c
  once : ∀ (c : Channel) (k : Fin 4), ((s.ch c).lists.get k).Nodup
  free : ∀ r, (s.row r).state = .free → s.row r = Row.free
  gap : ∀ r, (s.row r).gapRunning = false → (s.row r).heldMask = 0
  offline : ∀ c, x.owing ≠ some c → (s.ch c).state = .offline → .removal ∉ (s.ch c).requests →
    ∀ r, (s.row r).sendStateOn c = .idle
  retiring : ∀ r, x.late ≠ some r → (s.row r).state = .retiring → ∃ c, (s.row r).sendStateOn c = .inFlight
  attention : ∀ e ∈ s.attention, (s.row e.row).state ≠ .free

/-- The deadline an entry of the due list names is DUE. -/
def State.dueAt (s : State) (e : DueEntry) : Bool := ((s.row e.row).deadline e.kind).isDue

/-- `State.DueOk`, but for the slack of a transaction. -/
structure State.DueBut (s : State) (x : Slack) : Prop where
  once : s.iu.dueList.Nodup
  named : ∀ e, x.gone ≠ some e → (s.dueAt e = true ↔ (e ∈ s.iu.dueList ∨ s.presents e))
  lost : ∀ e, x.gone = some e → e ∉ s.iu.dueList ∧ ¬ s.presents e
  apart : ∀ e, s.presents e → e ∉ s.iu.dueList
  empty : x.unoffered = false → s.iu.presented = none → s.iu.dueList = []

/-- Rows, channels and due list agree, but for the slack of a transaction. -/
structure State.Coherent (s : State) (x : Slack) : Prop where
  agrees : s.AgreesBut x
  due : s.DueBut x

theorem ChannelEngine.pendingCount_eq_zero_iff (ce : ChannelEngine) :
    ce.pendingCount = 0 ↔ ∀ k, ce.lists.get k = [] := by
  simp [ChannelEngine.pendingCount, Fin.forall_fin_succ, Quad.get, and_assoc]

theorem inFlightAnywhere_iff (row : Row) : row.inFlightAnywhere = true ↔ ∃ c, row.sendStateOn c = .inFlight := by
  simp [Row.inFlightAnywhere, allChannels, Fin.exists_fin_succ]

theorem SendState.eq_idle {x : SendState} (pending : x ≠ .pending) (flying : x ≠ .inFlight) (held : x ≠ .held) :
    x = .idle := by
  cases x <;> simp_all

theorem State.coherent_of_agrees {s : State} (a : s.Agrees) (d : s.DueOk) : s.Coherent {} where
  agrees :=
    { each := a.each, once := a.once, free := a.free, gap := a.gap, attention := a.attention
      offline := by
        intro c _ off none r
        obtain ⟨empty, quiet, held⟩ := a.offline c off (by simpa [ChannelEngine.removalWaits] using none)
        have lists := (ChannelEngine.pendingCount_eq_zero_iff _).1 empty
        refine SendState.eq_idle (fun pending => ?_) (fun flying => ?_) (held r)
        · have mem := ((a.each r c).listed (s.row r).cls).2 ⟨pending, rfl⟩
          simp [lists] at mem
        · obtain ⟨f, e, _⟩ := (a.each r c).flying.2 flying
          simp [quiet] at e
      retiring := fun r _ h => (inFlightAnywhere_iff _).1 (a.retiring r h) }
  due :=
    { once := d.once, apart := d.apart, empty := fun _ => d.empty
      named := fun e _ => d.named e.row e.kind
      lost := nofun }

theorem State.Coherent.done {s : State} (h : s.Coherent {}) : s.Agrees ∧ s.DueOk := by
  obtain ⟨a, d⟩ := h
  constructor
  · refine
      { each := a.each, once := a.once, free := a.free, gap := a.gap, attention := a.attention, offline := ?_
        retiring := ?_ }
    · intro c off none
      have idle := a.offline c nofun off (by simpa [ChannelEngine.removalWaits] using none)
      refine ⟨(ChannelEngine.pendingCount_eq_zero_iff _).2 fun k => ?_, ?_, fun r => by simp [idle r]⟩
      · refine List.eq_nil_iff_forall_not_mem.2 fun r mem => ?_
        have listed := (((a.each r c).listed k).1 mem).1
        simp [idle r] at listed
      · cases flying : (s.ch c).inFlight with
        | none => rfl
        | some f =>
          have inFlight := (a.each f.row c).flying.1 ⟨f, flying, rfl⟩
          simp [idle] at inFlight
    · exact fun r h => (inFlightAnywhere_iff _).2 (a.retiring r nofun h)
  · exact { once := d.once, apart := d.apart, empty := d.empty rfl, named := fun r k => d.named ⟨r, k⟩ nofun }

/-- Less slack is more agreement. -/
theorem State.Coherent.widen {s : State} {x y : Slack} (h : s.Coherent x) (gone : y.gone = x.gone)
    (late : ∀ r, x.late = some r → y.late = some r) (owing : ∀ c, x.owing = some c → y.owing = some c)
    (unoffered : y.unoffered = false → x.unoffered = false) : s.Coherent y where
  agrees :=
    { h.agrees with
      offline := fun c ne => h.agrees.offline c fun e => ne (owing c e)
      retiring := fun r ne => h.agrees.retiring r fun e => ne (late r e) }
  due :=
    { h.due with
      named := fun e ne => h.due.named e (gone ▸ ne)
      lost := fun e eq => h.due.lost e (gone ▸ eq)
      empty := fun off => h.due.empty (unoffered off) }

/-! ### Changes that leave the agreement alone -/

theorem State.DueBut.congr {s t : State} {x : Slack} (h : s.DueBut x) (iu : t.iu = s.iu)
    (due : ∀ e, t.dueAt e = s.dueAt e) : t.DueBut x where
  once := by rw [iu]; exact h.once
  named e ne := by rw [due, State.presents, iu]; exact h.named e ne
  lost e eq := by rw [State.presents, iu]; exact h.lost e eq
  apart e := by rw [State.presents, iu]; exact h.apart e
  empty := by rw [iu]; exact h.empty

/-- Rows, channels, attention list and interval unit are the same. -/
theorem State.Coherent.of_eq {s t : State} {x : Slack} (h : s.Coherent x) (rows : t.rows = s.rows)
    (channels : t.channels = s.channels) (attention : t.attention = s.attention) (iu : t.iu = s.iu) : t.Coherent x := by
  have row (r : RowId) : t.row r = s.row r := congrArg (fun v : Vector Row 256 => v.get r) rows
  have ch (c : Channel) : t.ch c = s.ch c := congrArg (fun q : Quad ChannelEngine => q.get c) channels
  refine ⟨?_, h.due.congr iu fun e => by rw [State.dueAt, row]; rfl⟩
  constructor <;> simp only [row, ch, attention]
  · exact h.agrees.each
  · exact h.agrees.once
  · exact h.agrees.free
  · exact h.agrees.gap
  · exact h.agrees.offline
  · exact h.agrees.retiring
  · exact h.agrees.attention

theorem AgreeOn.kin {row : Row} {r : RowId} {ce u : ChannelEngine} {c : Channel} (h : AgreeOn row r ce c) (k :
    ce.Kin u) :
    AgreeOn row r u c where
  listed := by rw [k.lists]; exact h.listed
  flying := by
    have same : (∃ f, u.inFlight = some f ∧ f.row = r) ↔ ∃ f, ce.inFlight = some f ∧ f.row = r := by
      have := k.flying
      simp only [← Option.map_eq_some_iff (f := fun f : InFlight => f.row), this]
    rw [same]
    exact h.flying
  held := h.held
  serving := h.serving

/-- Every channel keeps its lists and its row in flight. -/
theorem State.Coherent.kin {s t : State} {x : Slack} (h : s.Coherent x) (rows : t.rows = s.rows)
    (attention : t.attention = s.attention) (iu : t.iu = s.iu) (k : ∀ c, (s.ch c).Kin (t.ch c)) : t.Coherent x := by
  have row (r : RowId) : t.row r = s.row r := congrArg (fun v : Vector Row 256 => v.get r) rows
  refine ⟨?_, h.due.congr iu fun e => by rw [State.dueAt, row]; rfl⟩
  constructor
  all_goals try simp only [row, attention]
  · exact fun r c => (h.agrees.each r c).kin (k c)
  · exact fun c => (k c).lists ▸ h.agrees.once c
  · exact h.agrees.free
  · exact h.agrees.gap
  · intro c ne off none
    obtain ⟨off, none⟩ := (k c).owed off none
    exact h.agrees.offline c ne off none
  · exact h.agrees.retiring
  · exact h.agrees.attention

theorem State.Coherent.updCh {s : State} {x : Slack} (h : s.Coherent x) {c : Channel} {f :
    ChannelEngine → ChannelEngine}
    (k : (s.ch c).Kin (f (s.ch c))) : (s.updCh c f).Coherent x := by
  refine h.kin rfl rfl rfl fun d => ?_
  rw [State.ch_updCh]
  split
  · next e => subst e; exact k
  · exact .refl _

theorem State.Coherent.wakeAll {s : State} {x : Slack} (h : s.Coherent x) : s.wakeAll.Coherent x :=
  h.kin rfl rfl rfl fun c => by rw [State.wakeAll_ch]; exact .wake _

/-- A row keeps what the agreement speaks of, but for its send side and its deadlines: its class and its service while
it
is PENDING or HELD somewhere, and its use. -/
structure Row.Like (u v : Row) : Prop where
  queued : (∃ c, u.sendStateOn c = .pending ∨ u.sendStateOn c = .held) →
    v.cls = u.cls ∧ (u.inService = true → v.inService = true)
  used : u.state ≠ .free → v.state ≠ .free
  free : u = Row.free → v.state = .free → v = Row.free

/-- A row keeps, too, which of its deadlines are DUE. -/
structure Row.Alike (u v : Row) : Prop extends u.Like v where
  due : ∀ k, (v.deadline k).isDue = (u.deadline k).isDue

theorem Row.Alike.refl (u : Row) : u.Alike u := ⟨⟨fun _ => ⟨rfl, id⟩, id, fun e _ => e⟩, fun _ => rfl⟩

/-- A row in use that stays in use, with the same state, class and deadlines. -/
theorem Row.Alike.of_eq {u v : Row} (used : u.state ≠ .free) (state : v.state = u.state) (cls : v.cls = u.cls)
    (freshness : v.freshness = u.freshness) (refresh : v.refresh = u.refresh) (gap : v.gap = u.gap) : u.Alike v where
  queued _ := ⟨cls, by simp [Row.inService, state]⟩
  used := by rw [state]; exact id
  free e := absurd (e ▸ rfl) used
  due k := by cases k <;> simp [Row.deadline, freshness, refresh, gap]

/-- A row that is in service after the change, with the same class and deadlines. -/
theorem Row.Alike.of_serves {u v : Row} (serves : v.inService = true) (cls : v.cls = u.cls)
    (freshness : v.freshness = u.freshness) (refresh : v.refresh = u.refresh) (gap : v.gap = u.gap) : u.Alike v where
  queued _ := ⟨cls, fun _ => serves⟩
  used _ free := by simp [Row.inService, free] at serves
  free _ free := by simp [Row.inService, free] at serves
  due k := by cases k <;> simp [Row.deadline, freshness, refresh, gap]

/-- A row keeps its send states and its held mask, too; a gap that runs goes on unless nothing is
held, and the row does not retire unless it is in flight. -/
structure Row.SameSends (u v : Row) : Prop where
  sends : ∀ c, v.sendStateOn c = u.sendStateOn c
  held : v.heldMask = u.heldMask
  gap : v.gapRunning = false → u.gapRunning = false ∨ v.heldMask = 0
  retiring : v.state = .retiring → u.state = .retiring ∨ ∃ c, v.sendStateOn c = .inFlight

theorem Row.SameSends.refl (u : Row) : u.SameSends u := ⟨fun _ => rfl, rfl, .inl, .inl⟩

theorem AgreeOn.same {u v : Row} {r : RowId} {ce : ChannelEngine} {c : Channel} (h : AgreeOn u r ce c)
    (alike : u.Like v) (same : u.SameSends v) : AgreeOn v r ce c where
  listed k := by
    rw [same.sends, h.listed k]
    exact and_congr_right fun pending => by rw [(alike.queued ⟨c, .inl pending⟩).1]
  flying := by rw [same.sends]; exact h.flying
  held := by rw [same.sends, same.held]; exact h.held
  serving := by rw [same.sends]; exact fun on => (alike.queued ⟨c, on⟩).2 (h.serving on)

/-- Every row keeps its send side and what else the agreement speaks of. -/
theorem State.AgreesBut.rows {s t : State} {x : Slack} (h : s.AgreesBut x) (channels : t.channels = s.channels)
    (attention : t.attention = s.attention) (alike : ∀ r, (s.row r).Like (t.row r))
    (same : ∀ r, (s.row r).SameSends (t.row r)) : t.AgreesBut x := by
  have ch (c : Channel) : t.ch c = s.ch c := congrArg (fun q : Quad ChannelEngine => q.get c) channels
  constructor
  all_goals try simp only [ch, attention]
  · exact fun r c => (h.each r c).same (alike r) (same r)
  · exact h.once
  · intro r free
    by_cases old : (s.row r).state = .free
    · exact (alike r).free (h.free r old) free
    · exact absurd free ((alike r).used old)
  · intro r still
    obtain before | empty := (same r).gap still
    · rw [(same r).held]
      exact h.gap r before
    · exact empty
  · intro c ne off none r
    rw [(same r).sends]
    exact h.offline c ne off none r
  · intro r ne retiring
    obtain was | flying := (same r).retiring retiring
    · obtain ⟨c, flying⟩ := h.retiring r ne was
      exact ⟨c, by rw [(same r).sends, flying]⟩
    · exact flying
  · exact fun e mem => (alike e.row).used (h.attention e mem)

theorem State.Coherent.rows {s t : State} {x : Slack} (h : s.Coherent x) (channels : t.channels = s.channels)
    (attention : t.attention = s.attention) (iu : t.iu = s.iu) (alike : ∀ r, (s.row r).Alike (t.row r))
    (same : ∀ r, (s.row r).SameSends (t.row r)) : t.Coherent x :=
  ⟨h.agrees.rows channels attention (fun r => (alike r).toLike) same, h.due.congr iu fun e => (alike e.row).due e.kind⟩

/-- A property of each row and its new value, of the changed row and so of every row. -/
theorem State.forall_updRow {s : State} {r : RowId} {f : Row → Row} {p : Row → Row → Prop} (refl : ∀ u, p u u)
    (own : p (s.row r) (f (s.row r))) (q : RowId) : p (s.row q) ((s.updRow r f).row q) := by
  rw [State.row_updRow]
  split
  · next e => subst e; exact own
  · exact refl _

theorem State.Coherent.updRow {s : State} {x : Slack} (h : s.Coherent x) {r : RowId} {f : Row → Row}
    (alike : (s.row r).Alike (f (s.row r))) (same : (s.row r).SameSends (f (s.row r))) : (s.updRow r f).Coherent x :=
  h.rows rfl rfl rfl (State.forall_updRow Row.Alike.refl alike) (State.forall_updRow Row.SameSends.refl same)

/-! ### The attention list -/

theorem mem_addReason {l : List AttentionEntry} {r : RowId} {q : Reason} {e : AttentionEntry} (h :
    e ∈ addReason l r q) :
    e.row = r ∨ ∃ f ∈ l, f.row = e.row := by
  unfold addReason at h
  split at h
  · obtain ⟨f, mem, e⟩ := List.mem_map.1 h
    refine .inr ⟨f, mem, ?_⟩
    subst e
    split <;> rfl
  · rcases List.mem_append.1 h with mem | mem
    · exact .inr ⟨e, mem, rfl⟩
    · rw [List.mem_singleton.1 mem]
      exact .inl rfl

theorem State.Coherent.record {s : State} {x : Slack} (h : s.Coherent x) {r : RowId} (used : (s.row r).state ≠ .free)
    (q : Reason) : (s.record r q).Coherent x := by
  unfold State.record
  split
  · refine ⟨{ h.agrees with attention := fun e mem => ?_ }, h.due.congr rfl fun _ => rfl⟩
    obtain own | ⟨f, mem, same⟩ := mem_addReason mem
    · rw [own]; exact used
    · rw [← same]; exact h.agrees.attention f mem
  · exact h

/-- Entries leave the attention list. -/
theorem State.Coherent.attentionLess {s t : State} {x : Slack} (h : s.Coherent x) (rows : t.rows = s.rows)
    (channels : t.channels = s.channels) (iu : t.iu = s.iu) (less : ∀ e ∈ t.attention, e ∈ s.attention) :
    t.Coherent x := by
  have row (r : RowId) : t.row r = s.row r := congrArg (fun v : Vector Row 256 => v.get r) rows
  have ch (c : Channel) : t.ch c = s.ch c := congrArg (fun q : Quad ChannelEngine => q.get c) channels
  refine ⟨?_, h.due.congr iu fun e => by rw [State.dueAt, row]; rfl⟩
  constructor <;> simp only [row, ch]
  · exact h.agrees.each
  · exact h.agrees.once
  · exact h.agrees.free
  · exact h.agrees.gap
  · exact h.agrees.offline
  · exact h.agrees.retiring
  · exact fun e mem => h.agrees.attention e (less e mem)

end Sys2Proof.Machine
end

section
/-! PROOFS. What the deadlines' operations, an enqueue request and the taking of a row off its channels leave of the
agreement (O59). -/

namespace Sys2Proof.Machine

set_option Elab.async false

/-! ### Deadlines started and stopped -/

theorem State.withdraw_presents (s : State) (r : RowId) (k : DeadlineKind) (e : DueEntry) :
    (s.withdraw r k).presents e ↔ e ≠ ⟨r, k⟩ ∧ s.presents e := by
  unfold State.presents
  rw [State.withdraw_presented]
  cases s.iu.presented with
  | none => simp
  | some p =>
    obtain ⟨q, void⟩ := p
    by_cases own : q = ⟨r, k⟩
    · simp only [own, Option.map_some, if_true]
      constructor
      · intro h; simp at h
      · rintro ⟨ne, h⟩; simp at h; exact absurd h.1.symm ne
    · simp only [Option.map_some, own, if_false]
      constructor
      · intro h; simp at h; exact ⟨h.1 ▸ own, by simp [h]⟩
      · exact fun h => h.2

/-- One deadline is withdrawn, and not DUE after it; the others stay as they are. -/
theorem State.DueBut.withdrawn {s t : State} {x y : Slack} (h : s.DueBut x) {r : RowId} {k : DeadlineKind}
    (iu : t.iu = (s.withdraw r k).iu) (own : t.dueAt ⟨r, k⟩ = false)
    (others : ∀ e, e ≠ ⟨r, k⟩ → t.dueAt e = s.dueAt e)
    (gone : y.gone = x.gone ∨ x.gone = some ⟨r, k⟩ ∧ y.gone = none) (unoffered : y.unoffered = x.unoffered) :
    t.DueBut y := by
  have presents (e : DueEntry) : t.presents e ↔ e ≠ ⟨r, k⟩ ∧ s.presents e := by
    rw [← State.withdraw_presents, State.presents, State.presents, iu]
  have listed (e : DueEntry) : e ∈ t.iu.dueList ↔ e ≠ ⟨r, k⟩ ∧ e ∈ s.iu.dueList := by
    rw [iu]; simp [and_comm]
  constructor
  · rw [iu]
    exact h.once.filter _
  · intro e ne
    rw [listed, presents]
    by_cases same : e = ⟨r, k⟩
    · subst same; simp [own]
    · have shown : x.gone ≠ some e := by
        obtain eq | ⟨eq, _⟩ := gone
        · exact eq ▸ ne
        · rw [eq]; exact fun h => same (Option.some.inj h).symm
      rw [others e same, h.named e shown]
      simp [same]
  · intro e eq
    obtain gone | ⟨_, none⟩ := gone
    · obtain ⟨out, hidden⟩ := h.lost e (gone ▸ eq)
      exact ⟨fun mem => out ((listed e).1 mem).2, fun shown => hidden ((presents e).1 shown).2⟩
    · rw [none] at eq; cases eq
  · exact fun e shown mem => h.apart e ((presents e).1 shown).2 ((listed e).1 mem).2
  · intro offered none
    rw [iu] at none ⊢
    simp only [State.withdraw_presented, Option.map_eq_none_iff] at none
    simp [h.empty (unoffered ▸ offered) none]

theorem startedDeadline_isDue (n : Nat) : (startedDeadline n).isDue = false := by
  unfold startedDeadline
  split <;> rfl

theorem Row.withDeadline_like {u : Row} (used : u.state ≠ .free) (k : DeadlineKind) (d : Deadline) :
    u.Like (u.withDeadline k d) := by
  cases k <;> exact ⟨fun _ => ⟨rfl, id⟩, id, fun e => absurd (e ▸ rfl) used⟩

theorem Row.withDeadline_sameSends (u : Row) (k : DeadlineKind) (d : Deadline) : u.SameSends (u.withDeadline k d) := by
  cases k <;> exact ⟨fun _ => rfl, rfl, .inl, .inl⟩

/-- A deadline of a row in use withdrawn and set to a value that is not DUE. -/
theorem State.Coherent.retimed {s : State} {x : Slack} (h : s.Coherent x) {r : RowId} (used : (s.row r).state ≠ .free)
    {k : DeadlineKind} {f : Row → Deadline} (still : (f (s.row r)).isDue = false) :
    ((s.withdraw r k).updRow r fun row => row.withDeadline k (f row)).Coherent x := by
  refine ⟨h.agrees.rows rfl rfl (State.forall_updRow (s := s.withdraw r k) (fun u => (Row.Alike.refl u).toLike) ?_)
    (State.forall_updRow (s := s.withdraw r k) Row.SameSends.refl ?_), h.due.withdrawn rfl ?_ ?_ (.inl rfl) rfl⟩
  · exact Row.withDeadline_like used k _
  · exact Row.withDeadline_sameSends _ k _
  · simp [State.dueAt, still]
  · intro e ne
    unfold State.dueAt
    by_cases row : e.row = r
    · have kind : k ≠ e.kind := fun eq => ne (by cases e; simp_all)
      rw [row, State.row_updRow_self, Row.deadline_withDeadline_ne _ _ kind]
      rfl
    · rw [State.row_updRow_ne _ _ (Ne.symm row)]
      rfl

theorem State.Coherent.startDeadline {s : State} {x : Slack} (h : s.Coherent x) {r : RowId}
    (used : (s.row r).state ≠ .free) (k : DeadlineKind) : (s.startDeadline r k).Coherent x :=
  h.retimed used (f := fun row => startedDeadline (row.deadlineLength k)) (startedDeadline_isDue _)

theorem State.Coherent.stopDeadline {s : State} {x : Slack} (h : s.Coherent x) {r : RowId}
    (used : (s.row r).state ≠ .free) (k : DeadlineKind) : (s.stopDeadline r k).Coherent x :=
  h.retimed used (f := fun _ => .stopped) rfl

/-- A deadline that is neither DUE nor named is no exception. -/
theorem State.Coherent.settled {s : State} {x : Slack} (h : s.Coherent x) {e : DueEntry} (gone : x.gone = some e)
    (still : s.dueAt e = false) : s.Coherent { x with gone := none } where
  agrees := { h.agrees with }
  due :=
    { h.due with
      lost := nofun
      named := by
        intro d _
        by_cases same : e = d
        · subst same
          obtain ⟨out, hidden⟩ := h.due.lost e gone
          simp [still, out, hidden]
        · exact h.due.named d (by rw [gone]; exact fun eq => same (Option.some.inj eq)) }

theorem State.Coherent.restarted {s : State} {x : Slack} (h : s.Coherent x) {r : RowId}
    (used : (s.row r).state ≠ .free) {k : DeadlineKind} (gone : x.gone = some ⟨r, k⟩) :
    (s.startDeadline r k).Coherent { x with gone := none } :=
  (h.startDeadline used k).settled gone (by simp [State.dueAt, startedDeadline_isDue])

theorem Steady.state {s t : State} (h : Steady s t) (r : RowId) : (t.row r).state = (s.row r).state :=
  (congrArg Row.state (h.cores.rows r) :)

theorem State.startDeadline_state (s : State) (r p : RowId) (k : DeadlineKind) :
    ((s.startDeadline r k).row p).state = (s.row p).state :=
  (Steady.startDeadline s r k).state p

theorem State.stopDeadline_state (s : State) (r p : RowId) (k : DeadlineKind) :
    ((s.stopDeadline r k).row p).state = (s.row p).state :=
  (Steady.stopDeadline s r k).state p

theorem State.Coherent.stopDeadlines {s : State} {x : Slack} (h : s.Coherent x) {r : RowId}
    (used : (s.row r).state ≠ .free) : (s.stopDeadlines r).Coherent x := by
  have first := h.stopDeadline used .freshness
  have second := first.stopDeadline (r := r) (by rwa [State.stopDeadline_state]) .refresh
  exact second.stopDeadline (r := r) (by rwa [State.stopDeadline_state, State.stopDeadline_state]) .gap

/-! ### One row on one channel -/

/-- A row's send side changes on one channel at most, and its held mask there at most. -/
structure Row.ElsewhereSame (u v : Row) (c : Channel) : Prop where
  sends : ∀ d, c ≠ d → v.sendStateOn d = u.sendStateOn d
  held : ∀ d, c ≠ d → inMask v.heldMask d = inMask u.heldMask d
  gap : (u.gapRunning = false → u.heldMask = 0) → v.gapRunning = false → v.heldMask = 0

/-- A channel's lists and in-flight place change for one row at most, and it does not lose its removal. -/
structure ChannelEngine.OthersSame (ce u : ChannelEngine) (r : RowId) : Prop where
  listed : ∀ q, r ≠ q → ∀ k, q ∈ u.lists.get k ↔ q ∈ ce.lists.get k
  once : (∀ k, (ce.lists.get k).Nodup) → ∀ k, (u.lists.get k).Nodup
  flying : ∀ q, r ≠ q → ((∃ f, u.inFlight = some f ∧ f.row = q) ↔ ∃ f, ce.inFlight = some f ∧ f.row = q)
  owed : u.state = .offline → .removal ∉ u.requests → ce.state = .offline ∧ .removal ∉ ce.requests

theorem ChannelEngine.OthersSame.refl (ce : ChannelEngine) (r : RowId) : ce.OthersSame ce r :=
  ⟨fun _ _ _ => .rfl, id, fun _ _ => .rfl, fun off none => ⟨off, none⟩⟩

theorem AgreeOn.elsewhere {u v : Row} {r : RowId} {ce : ChannelEngine} {c d : Channel} (h : AgreeOn u r ce d)
    (like : u.Like v) (same : u.ElsewhereSame v c) (ne : c ≠ d) : AgreeOn v r ce d where
  listed k := by
    rw [same.sends d ne, h.listed k]
    exact and_congr_right fun pending => by rw [(like.queued ⟨d, .inl pending⟩).1]
  flying := by rw [same.sends d ne]; exact h.flying
  held := by rw [same.sends d ne, same.held d ne]; exact h.held
  serving := by rw [same.sends d ne]; exact fun on => (like.queued ⟨d, on⟩).2 (h.serving on)

theorem AgreeOn.others {u : Row} {r q : RowId} {ce v : ChannelEngine} {c : Channel} (h : AgreeOn u q ce c)
    (same : ce.OthersSame v r) (ne : r ≠ q) : AgreeOn u q v c where
  listed k := by rw [same.listed q ne]; exact h.listed k
  flying := by rw [same.flying q ne]; exact h.flying
  held := h.held
  serving := h.serving

/-- A row and a channel change together, each only as far as it concerns the other. -/
theorem State.Coherent.place {s t : State} {x : Slack} (h : s.Coherent x) {r : RowId} {c : Channel} {v : Row}
    {u : ChannelEngine} (rows : ∀ q, t.row q = if r = q then v else s.row q)
    (channels : ∀ d, t.ch d = if c = d then u else s.ch d) (attention : t.attention = s.attention) (iu : t.iu = s.iu)
    (alike : (s.row r).Alike v) (elsewhere : (s.row r).ElsewhereSame v c) (others : (s.ch c).OthersSame u r)
    (agrees : AgreeOn v r u c)
    (idle : x.owing ≠ some c → u.state = .offline → .removal ∉ u.requests → v.sendStateOn c = .idle)
    (retiring : x.late ≠ some r → v.state = .retiring →
      (s.row r).state = .retiring ∧ ((s.row r).sendStateOn c = .inFlight → v.sendStateOn c = .inFlight)) :
    t.Coherent x := by
  have own : t.row r = v := by simp [rows]
  have other {q : RowId} (ne : r ≠ q) : t.row q = s.row q := by simp [rows, ne]
  have ownCh : t.ch c = u := by simp [channels]
  have otherCh {d : Channel} (ne : c ≠ d) : t.ch d = s.ch d := by simp [channels, ne]
  have like (q : RowId) : (s.row q).Alike (t.row q) := by
    by_cases ne : r = q
    · subst ne; rw [own]; exact alike
    · rw [other ne]; exact .refl _
  refine ⟨?_, h.due.congr iu fun e => (like e.row).due e.kind⟩
  constructor
  · intro q d
    by_cases row : r = q <;> by_cases channel : c = d
    · subst row channel; rw [own, ownCh]; exact agrees
    · subst row; rw [own, otherCh channel]; exact (h.agrees.each r d).elsewhere alike.toLike elsewhere channel
    · subst channel; rw [other row, ownCh]; exact (h.agrees.each q c).others others row
    · rw [other row, otherCh channel]; exact h.agrees.each q d
  · intro d k
    by_cases channel : c = d
    · subst channel; rw [ownCh]; exact others.once (h.agrees.once c) k
    · rw [otherCh channel]; exact h.agrees.once d k
  · intro q free
    by_cases old : (s.row q).state = .free
    · exact (like q).free (h.agrees.free q old) free
    · exact absurd free ((like q).used old)
  · intro q
    by_cases row : r = q
    · subst row; rw [own]; exact elsewhere.gap (h.agrees.gap r)
    · rw [other row]; exact h.agrees.gap q
  · intro d owing off none q
    by_cases channel : c = d
    · subst channel
      rw [ownCh] at off none
      by_cases row : r = q
      · subst row; rw [own]; exact idle owing off none
      · obtain ⟨off, none⟩ := others.owed off none
        rw [other row]
        exact h.agrees.offline c owing off none q
    · rw [otherCh channel] at off none
      have before := h.agrees.offline d owing off none q
      by_cases row : r = q
      · subst row; rw [own, elsewhere.sends d channel]; exact before
      · rw [other row]; exact before
  · intro q late
    by_cases row : r = q
    · subst row
      rw [own]
      intro state
      obtain ⟨was, flies⟩ := retiring late state
      obtain ⟨d, flying⟩ := h.agrees.retiring r late was
      by_cases channel : c = d
      · subst channel; exact ⟨c, flies flying⟩
      · exact ⟨d, (elsewhere.sends d channel).trans flying⟩
    · rw [other row]; exact h.agrees.retiring q late
  · rw [attention]
    exact fun e mem => (like e.row).used (h.agrees.attention e mem)

theorem Row.sendStateOn_updSide (row : Row) (c d : Channel) (f : Side → Side) :
    (row.updSide c f).sendStateOn d = if c = d then (f (row.side.get c)).sendState else row.sendStateOn d := by
  split
  · next e => subst e; simp [Row.sendStateOn]
  · next ne => simp [Row.sendStateOn, ne]

/-- A change of a side is none elsewhere. -/
theorem Row.elsewhereSame_updSide (u : Row) (c : Channel) (f : Side → Side) : u.ElsewhereSame (u.updSide c f) c where
  sends d ne := by rw [Row.sendStateOn_updSide, if_neg ne]
  held _ _ := rfl
  gap := id

theorem Row.updSide_alike {u : Row} (used : u.state ≠ .free) (c : Channel) (f : Side → Side) : u.Alike
    (u.updSide c f) :=
  .of_eq used rfl rfl rfl rfl rfl

/-- A side changes, but not its send state. -/
theorem State.Coherent.updSide {s : State} {x : Slack} (h : s.Coherent x) {r : RowId} (used : (s.row r).state ≠ .free)
    (c : Channel) {f : Side → Side} (sends : ∀ d, (f d).sendState = d.sendState) :
    (s.updRow r fun row => row.updSide c f).Coherent x := by
  refine h.updRow (Row.updSide_alike used c f) ⟨fun d => ?_, rfl, .inl, .inl⟩
  rw [Row.sendStateOn_updSide]
  split
  · next e => subst e; exact sends _
  · rfl

end Sys2Proof.Machine
end

section
/-! PROOFS. Enqueue requests, and rows taken off their channels, within the agreement (O59). -/

namespace Sys2Proof.Machine

set_option Elab.async false

namespace ChannelEngine

variable {ce u v : ChannelEngine} {r : RowId}

theorem OthersSame.kin (o : ce.OthersSame u r) (k : u.Kin v) : ce.OthersSame v r where
  listed := by rw [k.lists]; exact o.listed
  once := by rw [k.lists]; exact o.once
  flying q ne := by
    rw [← o.flying q ne]
    simp only [← Option.map_eq_some_iff (f := fun f : InFlight => f.row), k.flying]
  owed off none := by
    obtain ⟨off, none⟩ := k.owed off none
    exact o.owed off none

/-- A row joins a class list at its tail or its head. -/
theorem OthersSame.joined (k : Fin 4) {l : List RowId} (perm : l.Perm (r :: ce.lists.get k))
    (new : r ∉ ce.lists.get k) : ce.OthersSame { ce with lists := ce.lists.set k l } r where
  listed q ne j := by
    simp only [Quad.get_set]
    split
    · next e =>
      subst e
      simp [perm.mem_iff, Ne.symm ne]
    · rfl
  once h j := by
    simp only [Quad.get_set]
    split
    · exact perm.nodup_iff.2 (List.nodup_cons.2 ⟨new, h k⟩)
    · exact h j
  flying _ _ := .rfl
  owed off none := ⟨off, none⟩

theorem OthersSame.dropRow (ce : ChannelEngine) (r : RowId) : ce.OthersSame (ce.dropRow r) r where
  listed q ne k := by simp [ChannelEngine.dropRow, Ne.symm ne]
  once h k := by simpa [ChannelEngine.dropRow] using (h k).filter _
  flying _ _ := .rfl
  owed off none := ⟨off, none⟩

/-- The row in flight lands. -/
theorem OthersSame.landed {f : InFlight} (flying : ce.inFlight = some f) :
    ce.OthersSame { ce with inFlight := none } f.row where
  listed _ _ _ := .rfl
  once h := h
  flying q ne := by simp [flying, ne]
  owed off none := ⟨off, none⟩

theorem OthersSame.trans (a : ce.OthersSame u r) (b : u.OthersSame v r) : ce.OthersSame v r where
  listed q ne k := (b.listed q ne k).trans (a.listed q ne k)
  once h := b.once (a.once h)
  flying q ne := (b.flying q ne).trans (a.flying q ne)
  owed off none := by
    obtain ⟨off, none⟩ := b.owed off none
    exact a.owed off none

theorem OthersSame.startAttempt {k : Fin 4} {f : InFlight} (quiet : ce.inFlight = none)
    (first : ce.firstPending = some (k, f.row)) : ce.OthersSame (ce.startAttempt k f) f.row := by
  obtain ⟨rest, list⟩ := get_of_firstPending first
  refine OthersSame.kin (u := { ce with lists := ce.lists.set k ((ce.lists.get k).drop 1), inFlight := some f }) ?_ ?_
  · refine ⟨fun q ne j => ?_, fun h j => ?_, fun q ne => ?_, fun off none => ⟨off, none⟩⟩
    · simp only [Quad.get_set]
      split
      · next e => subst e; simp [list, Ne.symm ne]
      · rfl
    · simp only [Quad.get_set]
      split
      · exact (h k).sublist (List.drop_sublist 1 _)
      · exact h j
    · simp [quiet, ne]
  · exact Kin.after (.begin _) rfl rfl rfl rfl

end ChannelEngine

/-! ### Enqueue requests -/

section
variable {s : State} {x : Slack} {r : RowId} {c : Channel}

theorem AgreeOn.not_listed {row : Row} {ce : ChannelEngine} (h : AgreeOn row r ce c) (idle :
    row.sendStateOn c ≠ .pending)
    (k : Fin 4) : r ∉ ce.lists.get k := fun mem => idle ((h.listed k).1 mem).1

theorem AgreeOn.not_flying {row : Row} {ce : ChannelEngine} (h : AgreeOn row r ce c)
    (landed : row.sendStateOn c ≠ .inFlight) : ¬ ∃ f, ce.inFlight = some f ∧ f.row = r := mt h.flying.1 landed

theorem AgreeOn.not_held {row : Row} {ce : ChannelEngine} (h : AgreeOn row r ce c) (free : row.sendStateOn c ≠ .held) :
    ¬ inMask row.heldMask c = true := mt h.held.1 free

section
variable {row : Row} {ce : ChannelEngine}

theorem AgreeOn.of_idle (idle : row.sendStateOn c = .idle) (listed : ∀ k, r ∉ ce.lists.get k)
    (flying : ¬ ∃ f, ce.inFlight = some f ∧ f.row = r) (held : ¬ inMask row.heldMask c = true) :
      AgreeOn row r ce c where
  listed k := by simp [idle, listed k]
  flying := by simpa [idle] using flying
  held := by simpa [idle] using held
  serving := by simp [idle]

theorem AgreeOn.of_held (on : row.sendStateOn c = .held) (listed : ∀ k, r ∉ ce.lists.get k)
    (flying : ¬ ∃ f, ce.inFlight = some f ∧ f.row = r) (held : inMask row.heldMask c = true)
    (serves : row.inService = true) : AgreeOn row r ce c where
  listed k := by simp [on, listed k]
  flying := by simpa [on] using flying
  held := by simp [on, held]
  serving _ := serves

theorem AgreeOn.of_pending (pending : row.sendStateOn c = .pending) (listed : ∀ k, r ∈ ce.lists.get k ↔ k = row.cls)
    (flying : ¬ ∃ f, ce.inFlight = some f ∧ f.row = r) (held : ¬ inMask row.heldMask c = true)
    (serves : row.inService = true) : AgreeOn row r ce c where
  listed k := by simp [pending, listed k]
  flying := by simpa [pending] using flying
  held := by simpa [pending] using held
  serving _ := serves

theorem AgreeOn.of_flying (on : row.sendStateOn c = .inFlight) (listed : ∀ k, r ∉ ce.lists.get k)
    (flying : ∃ f, ce.inFlight = some f ∧ f.row = r) (held : ¬ inMask row.heldMask c = true) : AgreeOn row r ce c where
  listed k := by simp [on, listed k]
  flying := by simpa [on] using flying
  held := by simpa [on] using held
  serving := by simp [on]

end

theorem Row.used_of_inService {row : Row} (h : row.inService = true) : row.state ≠ .free := by
  intro free
  simp [Row.inService, free] at h

theorem Row.not_retiring_of_inService {row : Row} (h : row.inService = true) : row.state ≠ .retiring := by
  intro retiring
  simp [Row.inService, retiring] at h

theorem inMask_erase_maskOf (m : ChannelMask) (c d : Channel) :
    inMask (maskErase m c) d = true ↔ inMask m d = true ∧ c ≠ d := by
  revert m c d; decide

/-- `State.Coherent.place` for a change of a row and then of a channel. -/
theorem State.Coherent.placeBoth (h : s.Coherent x) {f : Row → Row} {g : ChannelEngine → ChannelEngine}
    (alike : (s.row r).Alike (f (s.row r))) (elsewhere : (s.row r).ElsewhereSame (f (s.row r)) c)
    (others : (s.ch c).OthersSame (g (s.ch c)) r) (agrees : AgreeOn (f (s.row r)) r (g (s.ch c)) c)
    (idle : x.owing ≠ some c → (g (s.ch c)).state = .offline → .removal ∉ (g (s.ch c)).requests →
      (f (s.row r)).sendStateOn c = .idle)
    (retiring : x.late ≠ some r → (f (s.row r)).state = .retiring →
      (s.row r).state = .retiring ∧ ((s.row r).sendStateOn c = .inFlight → (f (s.row r)).sendStateOn c = .inFlight)) :
    ((s.updRow r f).updCh c g).Coherent x :=
  h.place (fun q => State.row_updRow s r q f)
    (fun d => State.ch_updCh _ c d g) rfl rfl alike elsewhere others agrees idle
    retiring

/-- `State.Coherent.place` for a change of a row alone. -/
theorem State.Coherent.placeRow (h : s.Coherent x) (c : Channel) {f : Row → Row}
    (alike : (s.row r).Alike (f (s.row r))) (elsewhere : (s.row r).ElsewhereSame (f (s.row r)) c)
    (agrees : AgreeOn (f (s.row r)) r (s.ch c) c)
    (idle : x.owing ≠ some c → (s.ch c).state = .offline → .removal ∉ (s.ch c).requests →
      (f (s.row r)).sendStateOn c = .idle)
    (retiring : x.late ≠ some r → (f (s.row r)).state = .retiring →
      (s.row r).state = .retiring ∧ ((s.row r).sendStateOn c = .inFlight → (f (s.row r)).sendStateOn c = .inFlight)) :
    (s.updRow r f).Coherent x :=
  h.place (fun q => State.row_updRow s r q f) (fun d => (ite_eq_right_iff.2 fun e => by rw [e]; rfl).symm) rfl rfl alike
    elsewhere (.refl _ r) agrees idle retiring

theorem State.Coherent.joinList (h : s.Coherent x) (serves : (s.row r).inService = true)
    (idle : (s.row r).sendStateOn c = .idle) (on : ¬ ((s.ch c).state = .offline ∨ .removal ∈ (s.ch c).requests)) :
    (s.joinList r c).Coherent x := by
  have each := h.agrees.each r c
  have new := each.not_listed (by simp [idle])
  refine h.placeBoth
    (Row.updSide_alike (Row.used_of_inService serves) _ _) (Row.elsewhereSame_updSide _ _ _)
    (.joined _ (List.perm_append_singleton _ _) (new _)) ?_ (fun _ off _ => absurd (.inl off) on)
    fun _ retiring => absurd retiring (Row.not_retiring_of_inService serves)
  have pending := Row.sendStateOn_updSide (s.row r) c c fun d => { d with sendState := .pending }
  refine .of_pending (pending.trans (if_pos rfl)) (fun k => ?_) (each.not_flying (by simp [idle]))
    (each.not_held (by simp [idle])) serves
  simp only [Quad.get_set]
  split
  · next e => simp [← e]
  · next ne => simpa [new k] using Ne.symm ne

/-- A channel in a held mask, and only there. -/
theorem State.Coherent.hold (h : s.Coherent x) (serves : (s.row r).inService = true)
    (running : (s.row r).gapRunning = true)
    (idle : (s.row r).sendStateOn c = .idle) (on : ¬ ((s.ch c).state = .offline ∨ .removal ∈ (s.ch c).requests)) :
    (s.hold r c).Coherent x := by
  have each := h.agrees.each r c
  have new := each.not_listed (by simp [idle])
  refine h.placeRow c
    (.of_eq (Row.used_of_inService serves) rfl rfl rfl rfl rfl)
    ⟨fun d ne => ?_, fun d ne => ?_, fun _ still => ?_⟩ ?_ (fun _ off _ => absurd (.inl off) on)
    fun _ retiring => absurd retiring (Row.not_retiring_of_inService serves)
  · exact (Row.sendStateOn_updSide (s.row r) c d fun d => { d with sendState := .held }).trans (if_neg ne)
  · have := inMask_or_maskOf (s.row r).heldMask c d
    simp_all
  · exact absurd (running.symm.trans still) (by decide)
  have held : Row.sendStateOn { (s.row r).updSide c (fun d => { d with sendState := .held }) with
      heldMask := (s.row r).heldMask ||| maskOf c } c = .held :=
    (Row.sendStateOn_updSide (s.row r) c c fun d => { d with sendState := .held }).trans (if_pos rfl)
  refine .of_held held new (each.not_flying (by simp [idle])) ?_ serves
  simp [inMask_or_maskOf]

theorem State.Coherent.setLastResult (h : s.Coherent x) (used : (s.row r).state ≠ .free) (y : LastResult) :
    (s.setLastResult r c y).Coherent x := h.updSide used c fun _ => rfl

theorem State.Coherent.fullDrop (h : s.Coherent x) (used : (s.row r).state ≠ .free) : (s.fullDrop r c).Coherent x := by
  have told := (h.setLastResult used (c := c) .droppedFull).record (r := r)
    (by rwa [State.setLastResult, State.row_updRow_self]) .sendDropped
  exact told.updCh (.of_eq rfl rfl rfl rfl)

theorem State.Coherent.enqueueOn (h : s.Coherent x) (serves : (s.row r).inService = true) (src : Source) (c : Channel) :
    (s.enqueueOn src r (s.row r).gapRunning c).1.Coherent x := by
  have used := Row.used_of_inService serves
  fun_cases State.enqueueOn s src r (s.row r).gapRunning c
  case case1 => exact h.setLastResult used _
  case case2 => exact h
  case case3 => exact h
  case case4 => exact h
  case case5 => exact h.updSide used c fun _ => rfl
  case case6 => exact h
  case case7 on _ idle running =>
    exact h.hold serves running idle (mt (s.ch c).refusesRequests_iff.2 on)
  case case8 => exact h.fullDrop used
  case case9 on _ idle _ _ => exact h.joinList serves idle (mt (s.ch c).refusesRequests_iff.2 on)

theorem State.enqueueOn_gapRunning (s : State) (src : Source) (r : RowId) (gap : Bool) (c : Channel) :
    (((s.enqueueOn src r gap c).1).row r).gapRunning = (s.row r).gapRunning := by
  rw [State.enqueueOn_fst, State.applyResult_row_self]
  rfl

theorem State.Coherent.fold_enqueueNext {src : Source} {mask : ChannelMask} {gap : Bool} (l : List Channel)
    (acc : State × Quad ChannelOutcome) (h : acc.1.Coherent x) (serves : (acc.1.row r).inService = true)
    (same : (acc.1.row r).gapRunning = gap) :
    ((l.foldl (State.enqueueNext src r gap mask) acc).1).Coherent x := by
  induction l generalizing acc with
  | nil => exact h
  | cons c l ih =>
    by_cases named : inMask mask c = true
    · have next : (State.enqueueNext src r gap mask acc c).1 = (acc.1.enqueueOn src r gap c).1 := by
        simp [State.enqueueNext, named]
      refine ih _ ?_ ?_ ?_
      · rw [next, ← same]
        exact h.enqueueOn serves src c
      · rw [Row.inService_of_core ((Steady.enqueueNext src r gap mask acc c).cores.rows r)]
        exact serves
      · rw [next, State.enqueueOn_gapRunning, same]
    · have next : State.enqueueNext src r gap mask acc c = acc := by simp [State.enqueueNext, named]
      rw [List.foldl_cons, next]
      exact ih acc h serves same

theorem State.Coherent.startGap (h : s.Coherent x) (used : (s.row r).state ≠ .free) : (s.startGap r).Coherent x := by
  unfold State.startGap
  split
  · exact h
  · have running : (s.updRow r fun row => { row with gapRunning := true }).Coherent x :=
      h.updRow (.of_eq used rfl rfl rfl rfl rfl) ⟨fun _ => rfl, rfl, fun still => absurd still (by simp), .inl⟩
    exact running.startDeadline (by simpa using used) .gap

theorem Row.startGap_state (row : Row) : row.startGap.state = row.state := by
  unfold Row.startGap
  split <;> rfl

theorem State.Coherent.afterQueuing (h : s.Coherent x) (used : (s.row r).state ≠ .free) :
    (s.afterQueuing r).Coherent x := by
  have gap := h.startGap used
  rw [State.afterQueuing_eq, State.startRefresh]
  split
  · exact gap.startDeadline (by rwa [State.startGap_row_self, Row.startGap_state]) .refresh
  · exact gap

theorem State.Coherent.enqueue (h : s.Coherent x) (src : Source) (r : RowId) (mask : ChannelMask) :
    (s.enqueue src r mask).1.Coherent x := by
  unfold State.enqueue
  split
  · next serves =>
    have done := State.Coherent.fold_enqueueNext (src := src) (mask := mask) allChannels (s,
        Quad.all .notNamed) h serves rfl
    have steady := Steady.foldl (fun acc : State × Quad ChannelOutcome => acc.1)
      (fun acc c => Steady.enqueueNext src r (s.row r).gapRunning mask acc c) allChannels (s, Quad.all .notNamed)
    dsimp only
    split
    · refine done.afterQueuing (Row.used_of_inService ?_)
      rw [Row.inService_of_core (steady.cores.rows r)]
      exact serves
    · exact done
  · exact h

/-! ### Rows taken off their channels -/

theorem State.Coherent.removePending (h : s.Coherent x) (used : (s.row r).state ≠ .free)
    (pending : (s.row r).sendStateOn c = .pending) : (s.removePending r c).Coherent x := by
  have each := h.agrees.each r c
  have idle := Row.sendStateOn_updSide (s.row r) c c fun d =>
    { d with sendState := .idle, attemptCount := 0, lastResult := .cancelled }
  rw [if_pos rfl] at idle
  refine h.placeBoth (Row.updSide_alike used _ _) (Row.elsewhereSame_updSide _ _ _) (.dropRow _ _) ?_
    (fun _ _ _ => idle) fun _ retiring => ⟨retiring, by simp [pending]⟩
  exact .of_idle idle (fun k => by simp [ChannelEngine.dropRow]) (each.not_flying (by simp [pending]))
    (each.not_held (by simp [pending]))

theorem State.Coherent.removeHeld (h : s.Coherent x) (used : (s.row r).state ≠ .free)
    (held : (s.row r).sendStateOn c = .held) : (s.removeHeld r c).Coherent x := by
  have each := h.agrees.each r c
  have idle : Row.sendStateOn { (s.row r).updSide c (fun d => { d with sendState := .idle, lastResult :=
      .cancelled }) with
      heldMask := maskErase (s.row r).heldMask c } c = .idle :=
    (Row.sendStateOn_updSide (s.row r) c c fun d => { d with sendState := .idle, lastResult := .cancelled }).trans
      (if_pos rfl)
  refine h.placeRow c
    (.of_eq used rfl rfl rfl rfl rfl)
    ⟨fun d ne => ?_, fun d ne => ?_, fun empty still => ?_⟩ ?_ (fun _ _ _ => idle)
    fun _ retiring => ⟨retiring, by simp [held]⟩
  · exact (Row.sendStateOn_updSide (s.row r) c d fun d => { d with sendState := .idle, lastResult := .cancelled }).trans
      (if_neg ne)
  · have := inMask_erase_maskOf (s.row r).heldMask c d
    simp_all
  · have := empty still
    simp [maskErase, this]
  refine .of_idle idle (each.not_listed (by simp [held])) (each.not_flying (by simp [held])) fun still => ?_
  exact ((inMask_erase_maskOf (s.row r).heldMask c c).1 still).2 rfl

theorem State.Coherent.removeOn (h : s.Coherent x) (used : (s.row r).state ≠ .free) (c : Channel) :
    (s.removeOn r c).Coherent x := by
  unfold State.removeOn
  split
  · next pending => exact h.removePending used pending
  · next held => exact h.removeHeld used held
  · exact h

theorem State.Coherent.cancelOn (h : s.Coherent x) (used : (s.row r).state ≠ .free) (c : Channel) :
    (s.cancelOn r c).Coherent x := by
  unfold State.cancelOn
  split
  · next pending => exact h.removePending used pending
  · next held => exact h.removeHeld used held
  · exact h
  · exact h.updSide used c fun _ => rfl

end

end Sys2Proof.Machine
end

section
/-! PROOFS. Rows taken out of service, freed, released and declared, and outcomes of attempts, within the agreement
(O59). -/

namespace Sys2Proof.Machine

set_option Elab.async false

/-! ### Rows taken out of service -/

/-- A row's side for a channel once the row is off that channel, if it was PENDING or HELD there (R19, R23). -/
def Side.withdrawn (d : Side) : Side :=
  match d.sendState with
  | .pending => { d with sendState := .idle, attemptCount := 0, lastResult := .cancelled }
  | .held => { d with sendState := .idle, lastResult := .cancelled }
  | _ => d

theorem Side.withdrawn_twice (d : Side) : d.withdrawn.withdrawn = d.withdrawn := by
  obtain ⟨send, _, _, _, _⟩ := d
  cases send <;> rfl

theorem Side.withdrawn_sendState (d : Side) :
    d.withdrawn.sendState = if d.sendState = .inFlight then .inFlight else .idle := by
  obtain ⟨send, _, _, _, _⟩ := d
  cases send <;> rfl

section
variable {s t : State} {x : Slack} {r : RowId} {c : Channel}

/-- A row off a channel, but for the held mask. -/
theorem State.removeOn_row_self (s : State) (r : RowId) (c : Channel) :
    { (s.removeOn r c).row r with heldMask := 0 } =
      { (s.row r).updSide c Side.withdrawn with heldMask := (0 : ChannelMask) } := by
  unfold State.removeOn Side.withdrawn
  split
  · next pending => simp_all [State.removePending, Row.updSide, Row.sendStateOn]
  · next held => simp_all [State.removeHeld, Row.updSide, Row.sendStateOn]
  · next other => 
    cases on : (s.row r).sendStateOn c <;> simp_all [Row.updSide, Row.sendStateOn]

theorem State.removeOn_row_ne (s : State) {r q : RowId} (ne : r ≠ q) (c : Channel) :
    (s.removeOn r c).row q = s.row q := by
  unfold State.removeOn
  split <;> simp [State.removePending, State.removeHeld, ne]

/-- The row off the channels of a list, but for the held mask. -/
theorem State.fold_removeOn_row_self (l : List Channel) (s : State) (r : RowId) :
    { (l.foldl (fun s c => s.removeOn r c) s).row r with heldMask := 0 } =
      { s.row r with
        heldMask := (0 : ChannelMask)
        side := Quad.tabulate fun c => if c ∈ l then ((s.row r).side.get c).withdrawn else (s.row r).side.get c } := by
  induction l generalizing s with
  | nil =>
    have same : (Quad.tabulate fun c => (s.row r).side.get c) = (s.row r).side := Quad.ext_get (by simp)
    simp [same]
  | cons c l ih =>
    have one := s.removeOn_row_self r c
    have side : ((s.removeOn r c).row r).side = ((s.row r).updSide c Side.withdrawn).side :=
      (congrArg Row.side one :)
    have rest := ih (s.removeOn r c)
    rw [List.foldl_cons, rest, side]
    have sides : (Quad.tabulate fun d => if d ∈ l then (((s.row r).updSide c Side.withdrawn).side.get d).withdrawn
          else ((s.row r).updSide c Side.withdrawn).side.get d) =
        Quad.tabulate fun d => if d ∈ c :: l then ((s.row r).side.get d).withdrawn else (s.row r).side.get d := by
      refine Quad.ext_get fun d => ?_
      simp only [Quad.get_tabulate, List.mem_cons]
      by_cases own : c = d
      · subst own
        simp [Side.withdrawn_twice]
      · simp [own, Ne.symm own]
    rw [sides]
    have fields := congrArg (fun row : Row => { row with side := Quad.tabulate fun d =>
      if d ∈ c :: l then ((s.row r).side.get d).withdrawn else (s.row r).side.get d }) one
    exact fields

/-- A row out of service: off every channel where it was PENDING or HELD, no gap, no deadline (R19, R23). -/
def Row.outOfService (row : Row) : Row :=
  { row with
    side := row.side.map Side.withdrawn, heldMask := 0, gapRunning := false
    freshness := .stopped, refresh := .stopped, gap := .stopped }

theorem State.takeOutOfService_row_self (s : State) (r : RowId) :
    (s.takeOutOfService r).row r = (s.row r).outOfService := by
  have fold := s.fold_removeOn_row_self allChannels r
  have sides : (Quad.tabulate fun c => if c ∈ allChannels then ((s.row r).side.get c).withdrawn
      else (s.row r).side.get c) = (s.row r).side.map Side.withdrawn :=
    Quad.ext_get fun d => by simp [mem_allChannels d]
  rw [sides] at fold
  rw [State.takeOutOfService, State.stopDeadlines_row_self, State.row_updRow_self]
  exact (congrArg (fun row : Row => { row with
    gapRunning := false, freshness := .stopped, refresh := .stopped, gap := .stopped }) fold :)

theorem State.takeOutOfService_row_ne (s : State) {r q : RowId} (ne : r ≠ q) :
    (s.takeOutOfService r).row q = s.row q := by
  rw [State.takeOutOfService, State.stopDeadlines_row_ne _ ne, State.row_updRow_ne _ _ ne]
  generalize allChannels = l
  induction l generalizing s with
  | nil => rfl
  | cons c l ih => rw [List.foldl_cons, ih, State.removeOn_row_ne _ ne]

theorem Row.outOfService_sends (row : Row) (c : Channel) :
    row.outOfService.sendStateOn c = if row.sendStateOn c = .inFlight then .inFlight else .idle := by
  rw [Row.sendStateOn, Row.outOfService, Quad.get_map, Side.withdrawn_sendState]
  rfl

theorem State.Coherent.fold_removeOn (l : List Channel) {s : State} (h : s.Coherent x) (used :
    (s.row r).state ≠ .free) :
    (l.foldl (fun s c => s.removeOn r c) s).Coherent x := by
  induction l generalizing s with
  | nil => exact h
  | cons c l ih =>
    exact ih (h.removeOn used c) (by rwa [(Steady.removeOn s r c).state])

theorem State.Coherent.takeOutOfService (h : s.Coherent x) (used : (s.row r).state ≠ .free) :
    (s.takeOutOfService r).Coherent x := by
  unfold State.takeOutOfService
  have removed := State.Coherent.fold_removeOn allChannels h used
  have state := (Steady.foldState (fun s c => Steady.removeOn s r c) allChannels s).state r
  have sends := s.fold_removeOn_row_self allChannels r
  generalize allChannels.foldl (fun s c => s.removeOn r c) s = u at removed state sends
  have still (c : Channel) : (u.row r).sendStateOn c ≠ .held := by
    have side : (u.row r).side = _ := (congrArg Row.side sends :)
    have own := Side.withdrawn_sendState ((s.row r).side.get c)
    simp only [Row.sendStateOn, side, Quad.get_tabulate, mem_allChannels c, if_true, own]
    split <;> decide
  have empty : (u.row r).heldMask = 0 := by
    refine BitVec.eq_of_getLsbD_eq fun i small => ?_
    have off := (removed.agrees.each r ⟨i, small⟩).not_held (still _)
    simpa [inMask] using off
  have used : (u.row r).state ≠ .free := by rw [state]; exact used
  have stopped : (u.updRow r fun row => { row with heldMask := 0, gapRunning := false }).Coherent x :=
    removed.updRow (.of_eq used rfl rfl rfl rfl rfl) ⟨fun _ => rfl, empty.symm, fun _ => .inr rfl, .inl⟩
  exact stopped.stopDeadlines (by simpa using used)

end

end Sys2Proof.Machine
end

section
/-! PROOFS. Rows freed, declared and released, and outcomes of attempts, within the agreement (O59). -/

namespace Sys2Proof.Machine

set_option Elab.async false

section
variable {s t : State} {x : Slack} {r : RowId} {c : Channel}

/-- One row is replaced by a value that agrees with every channel, and the attention list loses entries at most. -/
theorem State.AgreesBut.replace (h : s.AgreesBut x) {v : Row} {y : Slack}
    (rows : ∀ q, t.row q = if r = q then v else s.row q) (channels : t.channels = s.channels)
    (attention : ∀ e ∈ t.attention, e ∈ s.attention ∧ (v.state = .free → r ≠ e.row))
    (agrees : ∀ c, AgreeOn v r (s.ch c) c) (free : v.state = .free → v = Row.free)
    (gap : v.gapRunning = false → v.heldMask = 0)
    (owing : y.owing = x.owing)
    (idle : ∀ c, (s.row r).sendStateOn c = .idle → v.sendStateOn c = .idle)
    (late : ∀ q, r ≠ q → y.late ≠ some q → x.late ≠ some q)
    (retiring : y.late ≠ some r → v.state = .retiring → ∃ c, v.sendStateOn c = .inFlight) : t.AgreesBut y := by
  have ch (c : Channel) : t.ch c = s.ch c := congrArg (fun q : Quad ChannelEngine => q.get c) channels
  constructor
  all_goals try simp only [ch, rows, owing]
  · intro q c
    split
    · next e => subst e; exact agrees c
    · exact h.each q c
  · exact h.once
  · intro q
    split
    · exact free
    · exact h.free q
  · intro q
    split
    · exact gap
    · exact h.gap q
  · intro c ne off none q
    have before := h.offline c ne off none q
    split
    · next e => subst e; exact idle c before
    · exact before
  · intro q ne
    split
    · next e => subst e; exact retiring ne
    · next other => exact h.retiring q (late q other ne)
  · intro e mem
    obtain ⟨was, own⟩ := attention e mem
    split
    · next same => exact fun free => own free same
    · exact h.attention e was

theorem AgreeOn.of_idle_row {row v : Row} {ce : ChannelEngine} (h : AgreeOn row r ce c) (idle :
    row.sendStateOn c = .idle)
    (now : v.sendStateOn c = .idle) (held : ¬ inMask v.heldMask c = true) : AgreeOn v r ce c :=
  .of_idle now (h.not_listed (by simp [idle])) (h.not_flying (by simp [idle])) held

/-- A row in use that is on no channel becomes FREE. -/
theorem State.Coherent.freeRow (h : s.Coherent x) (used : (s.row r).state ≠ .free)
    (idle : ∀ c, (s.row r).sendStateOn c = .idle) (late : ∀ q, x.late = some q → q = r) :
    (s.freeRow r).Coherent { x with late := none } := by
  have stopped := h.stopDeadlines used
  refine ⟨h.agrees.replace (r := r) (v := Row.free) (fun q => ?_) rfl (fun e mem => ?_) (fun c => ?_) (fun _ => rfl)
    (fun _ => rfl) rfl (fun c _ => Row.free_sendStateOn c) (fun q ne _ => ?_) (fun _ => nofun),
    State.DueBut.congr (s := s.stopDeadlines r) { stopped.due with } rfl fun e => ?_⟩
  · split
    · next e => subst e; exact State.freeRow_row_self s r
    · next ne => exact State.freeRow_row_ne s ne
  · rw [State.freeRow_attention] at mem
    simp only [List.mem_filter, decide_eq_true_eq] at mem
    exact ⟨mem.1, fun _ => Ne.symm mem.2⟩
  · exact (h.agrees.each r c).of_idle_row (idle c) (Row.free_sendStateOn c) (by simp [Row.free, inMask])
  · exact fun same => ne (late q same).symm
  · unfold State.dueAt
    by_cases own : r = e.row
    · rw [← own, State.freeRow_row_self, State.stopDeadlines_row_self]
      cases e.kind <;> rfl
    · rw [State.freeRow_row_ne s own, State.stopDeadlines_row_ne s own]

/-- A row at its free values is taken into use. -/
theorem State.Coherent.occupy (h : s.Coherent x) (free : s.row r = Row.free) {v : Row} (used : v.state ≠ .free)
    (fresh : v.side = Row.free.side ∧ v.heldMask = 0) (staying : v.state ≠ .retiring)
    (still : v.freshness = .stopped ∧ v.refresh = .stopped ∧ v.gap = .stopped) :
    (s.updRow r fun _ => v).Coherent x := by
  obtain ⟨side, held⟩ := fresh
  obtain ⟨freshness, refresh, gap⟩ := still
  have idle (c : Channel) : v.sendStateOn c = .idle := by
    rw [Row.sendStateOn, side]
    exact Row.free_sendStateOn c
  have before (c : Channel) : (s.row r).sendStateOn c = .idle := by rw [free]; exact Row.free_sendStateOn c
  refine ⟨h.agrees.replace (State.row_updRow s r · _) rfl (fun e mem => ⟨mem, fun free => absurd free used⟩)
    (fun c => ?_)
    (fun free => absurd free used) (fun _ => held) rfl (fun c _ => idle c) (fun _ _ => id)
    (fun _ retiring => absurd retiring staying), h.due.congr rfl fun e => ?_⟩
  · exact (h.agrees.each r c).of_idle_row (before c) (idle c) (by simp [held, inMask])
  · unfold State.dueAt
    by_cases own : r = e.row
    · rw [← own, State.row_updRow_self, free]
      cases e.kind <;> simp [Row.deadline, freshness, refresh, gap, Row.free]
    · rw [State.row_updRow_ne _ _ own]

theorem Row.release_sends (row : Row) (c : Channel) :
    row.release.sendStateOn c = if inMask row.heldMask c then .idle else row.sendStateOn c := by
  simp only [Row.release, Row.sendStateOn, Quad.get_tabulate]
  split <;> rfl

/-- The held channels of a row released, as its gap has ended. -/
theorem State.Coherent.release (h : s.Coherent x) (used : (s.row r).state ≠ .free) (gone : x.gone = some ⟨r, .gap⟩) :
    (s.updRow r Row.release).Coherent { x with gone := none } := by
  have released : (s.updRow r Row.release).Coherent x := by
    refine ⟨h.agrees.replace (State.row_updRow s r · _) rfl (fun e mem => ⟨mem, fun free => absurd free used⟩)
      (fun c => ?_) (fun free => absurd free used) (fun _ => rfl) rfl (fun c idle => ?_) (fun _ _ => id)
      (fun late retiring => ?_), ?_⟩
    · have each := h.agrees.each r c
      have sends := (s.row r).release_sends c
      have held : ¬ inMask (s.row r).release.heldMask c = true := by simp [Row.release, inMask]
      by_cases own : inMask (s.row r).heldMask c = true
      · rw [if_pos own] at sends
        have was := each.held.1 own
        exact .of_idle sends (each.not_listed (by simp [was])) (each.not_flying (by simp [was])) held
      · rw [if_neg own] at sends
        have was := mt each.held.2 own
        exact
          { listed := by rw [sends]; exact each.listed
            flying := by rw [sends]; exact each.flying
            held := by rw [sends]; exact ⟨fun on => absurd on held, fun on => absurd on was⟩
            serving := by rw [sends]; exact each.serving }
    · rw [Row.release_sends]
      split
      · rfl
      · exact idle
    · obtain ⟨c, flying⟩ := h.agrees.retiring r late retiring
      have off := (h.agrees.each r c).not_held (by simp [flying])
      exact ⟨c, by rw [Row.release_sends, if_neg off, flying]⟩
    · have due := h.due
      refine { once := due.once, lost := due.lost, apart := due.apart, empty := due.empty, named := fun e ne => ?_ }
      have other : r ≠ e.row ∨ e.kind ≠ .gap := by
        rw [gone] at ne
        obtain ⟨q, k⟩ := e
        by_cases row : r = q
        · exact .inr fun kind => ne (by simp_all)
        · exact .inl row
      have same : (s.updRow r Row.release).dueAt e = s.dueAt e := by
        unfold State.dueAt
        by_cases own : r = e.row
        · rw [← own, State.row_updRow_self]
          obtain ⟨q, k⟩ := e
          cases k with
          | freshness => rfl
          | refresh => rfl
          | gap => simp_all
        · rw [State.row_updRow_ne _ _ own]
      rw [same]
      exact due.named e ne
  exact released.settled gone (by simp [State.dueAt, Row.release, Row.deadline, Deadline.isDue])

/-! ### Outcomes of attempts -/

theorem State.Coherent.report (h : s.Coherent x) (r : RowId) (c : Channel) (o : AttemptOutcome) :
    (s.report r c o).Coherent x := by
  obtain ⟨cu, same⟩ := State.report_frame s r c o
  rw [same]
  exact h.of_eq rfl rfl rfl rfl

/-- A RETIRING row that is in flight nowhere is on no channel. -/
theorem State.Coherent.retiring_idle (h : s.Coherent x) (retiring : (s.row r).state = .retiring)
    (landed : ¬ (s.row r).inFlightAnywhere = true) (c : Channel) : (s.row r).sendStateOn c = .idle := by
  have out : ¬ (s.row r).inService = true := by simp [Row.inService, retiring]
  refine SendState.eq_idle (fun on => out ((h.agrees.each r c).serving (.inl on))) (fun on => ?_)
    fun on => out ((h.agrees.each r c).serving (.inr on))
  exact landed ((inFlightAnywhere_iff _).2 ⟨c, on⟩)

/-- The row that may have landed last is freed, if it is RETIRING. -/
theorem State.Coherent.drainRetiring (h : s.Coherent x) (late : ∀ q, x.late = some q → q = r) :
    (s.drainRetiring r).Coherent { x with late := none } := by
  unfold State.drainRetiring
  split
  · next e =>
    obtain ⟨retiring, landed⟩ := e
    exact h.freeRow (by simp [retiring]) (h.retiring_idle retiring landed) late
  · next e =>
    refine ⟨{ h.agrees with retiring := fun q _ retiring => ?_ }, { h.due with }⟩
    by_cases own : x.late = some q
    · have same := late q own
      subst same
      by_contra none
      exact e ⟨retiring, mt (inFlightAnywhere_iff _).1 none⟩
    · exact h.agrees.retiring q own retiring

theorem State.updCh_updRow_comm (s : State) (c : Channel) (g : ChannelEngine → ChannelEngine) (r : RowId)
    (f : Row → Row) : (s.updCh c g).updRow r f = (s.updRow r f).updCh c g := rfl

theorem State.updCh_updCh (s : State) (c : Channel) (f g : ChannelEngine → ChannelEngine) :
    (s.updCh c f).updCh c g = s.updCh c fun ce => g (f ce) := by
  simp only [State.updCh, State.ch, Quad.get_set_self, Quad.set_set]

/-- The row in flight returns to the head of its class list. -/
theorem State.Coherent.returned (h : s.Coherent x) {f : InFlight} (flying : (s.ch c).inFlight = some f)
    (serves : (s.row f.row).inService = true) :
    ((s.updCh c fun ce => { ce with inFlight := none }).returnRow f.row c).Coherent x := by
  have each := h.agrees.each f.row c
  have was : (s.row f.row).sendStateOn c = .inFlight := each.flying.1 ⟨f, flying, rfl⟩
  have new := each.not_listed (by simp [was])
  have pending := Row.sendStateOn_updSide (s.row f.row) c c fun d =>
    { d with sendState := .pending, renewed := false, cancelRequested := false }
  rw [if_pos rfl] at pending
  rw [State.returnRow, State.updCh_updRow_comm, State.updCh_updCh]
  have landed := ChannelEngine.OthersSame.landed flying
  refine h.placeBoth (r := f.row) (Row.updSide_alike (Row.used_of_inService serves) _ _)
    (Row.elsewhereSame_updSide _ _ _)
    (landed.trans (.joined (s.row f.row).cls (List.Perm.refl _) (new _))) (.of_pending pending (fun k => ?_) (by simp)
      (each.not_held (by simp [was])) serves) (fun owing off none => ?_)
    fun _ retiring => absurd retiring (Row.not_retiring_of_inService serves)
  · have fresh := new k
    simp only [Quad.get_set, State.row_updCh]
    split
    · next e => simp [← e]
    · next ne => simpa [fresh] using Ne.symm ne
  · have idle := h.agrees.offline c owing off none f.row
    simp [was] at idle

/-- The row in flight lands, and its send ends. -/
theorem State.Coherent.ended (h : s.Coherent x) {f : InFlight} (flying : (s.ch c).inFlight = some f)
    (late : ∀ q, x.late = some q → q = f.row) (o : AttemptOutcome) (cancel : Bool) :
    ((s.updCh c fun ce => { ce with inFlight := none }).endSend f.row c o cancel).Coherent
      { x with late := some f.row } := by
  have each := h.agrees.each f.row c
  have was : (s.row f.row).sendStateOn c = .inFlight := each.flying.1 ⟨f, flying, rfl⟩
  have used : (s.row f.row).state ≠ .free := fun free => by
    rw [h.agrees.free _ free, Row.free_sendStateOn] at was
    cases was
  have idle := Row.sendStateOn_updSide (s.row f.row) c c fun d =>
    { d with
      sendState := .idle, renewed := false, cancelRequested := false, attemptCount := 0
      lastResult := resultOf o cancel }
  rw [if_pos rfl] at idle
  have wide : s.Coherent { x with late := some f.row } :=
    h.widen rfl (fun q same => by rw [late q same]) (fun _ => id) id
  rw [State.endSend, State.updCh_updRow_comm]
  have landed := wide.placeBoth (r := f.row) (c := c) (f := fun row => row.updSide c fun d => { d with
        sendState := .idle, renewed := false, cancelRequested := false, attemptCount := 0
        lastResult := resultOf o cancel })
      (g := fun ce => { ce with inFlight := none }) (Row.updSide_alike used _ _) (Row.elsewhereSame_updSide _ _ _)
    (.landed flying) (.of_idle idle (each.not_listed (by simp [was])) (by simp) (each.not_held (by simp [was])))
    (fun _ _ _ => idle) fun ne => absurd rfl ne
  have state : (((s.updRow f.row fun row => row.updSide c fun d => { d with
        sendState := .idle, renewed := false, cancelRequested := false, attemptCount := 0
        lastResult := resultOf o cancel }).updCh c fun ce => { ce with inFlight :=
          none }).row f.row).state ≠ .free := by
    simpa using used
  revert landed state
  generalize (s.updRow f.row _).updCh c _ = u
  intro landed state
  have failed : (if cancel then u else (u.record f.row .sendFailed).updCh c ChannelEngine.countFailedAttempt).Coherent
      { x with late := some f.row } := by
    split
    · exact landed
    · exact (landed.record state _).updCh (.of_eq rfl rfl rfl rfl)
  cases o
  · exact landed.record state _
  · exact landed.record state _
  · exact failed
  · exact failed
  · exact landed

theorem State.Coherent.applyOutcome (h : s.Coherent x) (none : x.late = none) (c : Channel) (o : AttemptOutcome) :
    (s.applyOutcome c o).Coherent x := by
  unfold State.applyOutcome
  split
  · exact h
  · next f flying =>
    have ended : (if retried o (s.row f.row) ((s.row f.row).side.get c) (s.ch c).retryLimit
        then (s.updCh c fun ce => { ce with inFlight := Option.none }).returnRow f.row c
        else (s.updCh c fun ce => { ce with inFlight := Option.none }).endSend f.row c o
          ((s.row f.row).side.get c).cancelRequested).Coherent { x with late := some f.row } := by
      split
      · next again =>
        have serves : (s.row f.row).inService = true := by
          simp only [retried, Bool.and_eq_true] at again
          exact again.2
        exact (h.returned flying serves).widen rfl (by simp [none]) (fun _ => id) id
      · exact h.ended flying (by simp [none]) o _
    have back {u : State} (h : u.Coherent { x with late := some f.row }) :
        ((u.report f.row c o).drainRetiring f.row).Coherent x := by
      have drained := (h.report f.row c o).drainRetiring (r := f.row) (fun q same => (Option.some.inj same).symm)
      rwa [show ({ ({ x with late := some f.row } : Slack) with late := Option.none } : Slack) = x by
        obtain ⟨_, _, _, _⟩ := x; subst none; rfl] at drained
    dsimp only
    apply back
    split
    · exact ended.enqueue _ _ _
    · exact ended

end

end Sys2Proof.Machine
end

section
/-! PROOFS. The interval unit, and the transactions of arrivals, attempts and expiries, within the agreement (O59). -/

namespace Sys2Proof.Machine

set_option Elab.async false

section
variable {s t : State} {x : Slack} {r : RowId} {c : Channel}

/-! ### The due list -/

theorem State.presents_of_none {e : DueEntry} (h : s.iu.presented = none) : ¬ s.presents e := by
  simp [State.presents, h]

theorem State.Coherent.presentDue (h : s.Coherent x) : s.presentDue.Coherent { x with unoffered := false } := by
  unfold State.presentDue
  split
  · next e rest quiet list =>
    have hidden (d : DueEntry) : ¬ s.presents d := State.presents_of_none quiet
    have nodup := h.due.once
    rw [list] at nodup
    refine ⟨{ h.agrees with }, ⟨(List.nodup_cons.1 nodup).2, fun d ne => ?_, fun d gone => ?_, fun d shown => ?_,
      nofun⟩⟩
    · have named := h.due.named d ne
      rw [list] at named
      refine named.trans ?_
      simp only [State.presents, List.mem_cons, Option.some.injEq, Presented.mk.injEq, and_true, quiet]
      simp only [reduceCtorEq, or_false]
      exact ⟨fun mem => mem.symm.imp_right Eq.symm, fun mem => mem.symm.imp_left Eq.symm⟩
    · obtain ⟨out, _⟩ := h.due.lost d gone
      rw [list, List.mem_cons, not_or] at out
      refine ⟨out.2, fun shown => out.1 ?_⟩
      simp only [State.presents, Option.some.injEq, Presented.mk.injEq, and_true] at shown
      exact shown.symm
    · simp only [State.presents, Option.some.injEq, Presented.mk.injEq, and_true] at shown
      exact shown ▸ (List.nodup_cons.1 nodup).1
  · next other =>
    refine ⟨{ h.agrees with }, { h.due with empty := fun _ quiet => ?_ }⟩
    cases list : s.iu.dueList with
    | nil => rfl
    | cons e rest => exact absurd list (other e rest quiet)

/-- The expiry presented leaves the table controller; its deadline, unless void, is DUE with no name. -/
theorem State.Coherent.clearPresented (h : s.Coherent {}) {p : Presented} (presented : s.iu.presented = some p) :
    s.clearPresented.Coherent { gone := if p.void then none else some p.entry, unoffered := true } := by
  refine ⟨{ h.agrees with }, ⟨h.due.once, fun e ne => ?_, fun e gone => ?_, nofun, nofun⟩⟩
  · have named := h.due.named e nofun
    have hidden : ¬ s.presents e := by
      intro shown
      rw [State.presents, presented, Option.some.injEq] at shown
      subst shown
      simp at ne
    have nothing : ¬ s.clearPresented.presents e := State.presents_of_none rfl
    exact named.trans (by rw [or_iff_left hidden, or_iff_left nothing]; rfl)
  · refine ⟨?_, State.presents_of_none rfl⟩
    split at gone
    · cases gone
    · next valid =>
      refine h.due.apart e ?_
      obtain ⟨entry, void⟩ := p
      simp only [Option.some.injEq, Bool.not_eq_true] at gone valid
      rw [State.presents, presented, gone, valid]

theorem Deadline.fallDue_of_last {d : Deadline} (h : d.atLastTick = true) :
    d.isDue = false ∧ d.fallDue.isDue = true := by
  unfold Deadline.atLastTick at h
  split at h
  · exact ⟨rfl, rfl⟩
  · cases h

theorem State.used_of_deadline (h : s.Coherent x) {k : DeadlineKind} {d : Deadline} (running : (s.row r).deadline k = d)
    (ne : d ≠ .stopped) : (s.row r).state ≠ .free := by
  intro free
  rw [h.agrees.free r free] at running
  cases k <;> exact ne running.symm

theorem State.makeDue_row (s : State) (e : DueEntry) (r : RowId) :
    (s.makeDue e).row r =
      (s.updRow e.row fun row => row.withDeadline e.kind (row.deadline e.kind).fallDue).row r := rfl

theorem State.makeDue_deadline_ne (s : State) {e d : DueEntry} (ne : e ≠ d) :
    ((s.makeDue e).row d.row).deadline d.kind = (s.row d.row).deadline d.kind := by
  rw [State.makeDue_row]
  by_cases row : e.row = d.row
  · have kind : e.kind ≠ d.kind := fun eq => ne (by cases e; cases d; simp_all)
    rw [← row, State.row_updRow_self, Row.deadline_withDeadline_ne _ _ kind]
  · rw [State.row_updRow_ne _ _ row]

/-- A deadline at its last tick falls due and joins the due list. -/
theorem State.Coherent.makeDue (h : s.Coherent x) (gone : x.gone = none) {e : DueEntry}
    (last : ((s.row e.row).deadline e.kind).atLastTick = true) :
    (s.makeDue e).Coherent { x with unoffered := true } := by
  obtain ⟨before, after⟩ := Deadline.fallDue_of_last last
  have used := State.used_of_deadline (r := e.row) (k := e.kind) h rfl fun stopped => by simp [stopped,
      Deadline.atLastTick] at last
  have unnamed := h.due.named e (by simp [gone])
  rw [State.dueAt, before] at unnamed
  simp only [Bool.false_eq_true, false_iff, not_or] at unnamed
  obtain ⟨out, hidden⟩ := unnamed
  have agrees : (s.updRow e.row fun row => row.withDeadline e.kind (row.deadline e.kind).fallDue).AgreesBut x :=
    h.agrees.rows rfl rfl
      (State.forall_updRow (fun u => (Row.Alike.refl u).toLike) (Row.withDeadline_like used _ _))
      (State.forall_updRow Row.SameSends.refl (Row.withDeadline_sameSends _ _ _))
  refine ⟨{ agrees with }, ⟨?_, fun d _ => ?_, fun d eq => by simp [gone] at eq, fun d shown => ?_, nofun⟩⟩
  · exact List.nodup_append'.2 ⟨h.due.once, List.nodup_singleton e, by simpa using out⟩
  · have listed : d ∈ (s.makeDue e).iu.dueList ↔ d ∈ s.iu.dueList ∨ d = e := by simp [State.makeDue]
    rw [listed]
    by_cases own : d = e
    · subst own
      have now : (s.makeDue d).dueAt d = true := by
        rw [State.dueAt, State.makeDue_row]
        simpa using after
      simp [now]
    · have same : (s.makeDue e).dueAt d = s.dueAt d := by
        rw [State.dueAt, State.makeDue_deadline_ne s (Ne.symm own)]
        rfl
      rw [same, h.due.named d (by simp [gone])]
      simp only [own, or_false]
      exact .rfl
  · have was : s.presents d := shown
    have listed : d ∈ (s.makeDue e).iu.dueList ↔ d ∈ s.iu.dueList ∨ d = e := by simp [State.makeDue]
    rw [listed, not_or]
    exact ⟨h.due.apart d was, fun own => hidden (own ▸ was)⟩

theorem State.Coherent.fold_makeDue (l : List DueEntry) {s : State} (h : s.Coherent x) (gone : x.gone = none)
    (nodup : l.Nodup) (last : ∀ e ∈ l, ((s.row e.row).deadline e.kind).atLastTick = true) :
    (l.foldl State.makeDue s).Coherent { x with unoffered := true } := by
  induction l generalizing s x with
  | nil => exact h.widen rfl (fun _ => id) (fun _ => id) nofun
  | cons e l ih =>
    obtain ⟨out, nodup⟩ := List.nodup_cons.1 nodup
    refine ih (x := { x with unoffered := true }) (h.makeDue gone (last e List.mem_cons_self)) gone nodup
      fun d mem => ?_
    rw [State.makeDue_deadline_ne s (fun same : e = d => out (same ▸ mem))]
    exact last d (List.mem_cons_of_mem _ mem)

theorem State.mem_fallen (s : State) (e : DueEntry) :
    e ∈ s.fallen ↔ ((s.row e.row).deadline e.kind).atLastTick = true := by
  obtain ⟨r, k⟩ := e
  have kinds : k ∈ deadlineKinds := by cases k <;> decide
  simp [State.fallen, allRows, kinds]

theorem State.fallen_nodup (s : State) : s.fallen.Nodup := by
  unfold State.fallen
  refine List.nodup_flatMap.2 ⟨fun r _ => ?_, ?_⟩
  · refine List.Nodup.map (fun a b e => ?_) (List.Nodup.filter _ (by decide))
    cases e
    rfl
  · refine (List.nodup_finRange 256).imp fun ne => ?_
    intro e first second
    obtain ⟨_, _, one⟩ := List.mem_map.1 first
    obtain ⟨_, _, two⟩ := List.mem_map.1 second
    rw [← one] at two
    cases two
    exact ne rfl

theorem Deadline.advance_isDue (d : Deadline) : d.advance.isDue = d.isDue := by
  unfold Deadline.advance
  split <;> rfl

theorem Row.tick_alike (row : Row) : row.Alike row.tick where
  queued _ := ⟨rfl, id⟩
  used := id
  free e _ := by rw [e]; rfl
  due k := by cases k <;> exact Deadline.advance_isDue _

/-- The rows, the channels and the interval unit count a tick. -/
theorem State.Coherent.counted (h : s.Coherent x) (n : Nat) :
    ({ s.mapRows (fun _ row => row.tick) with
      channels := s.channels.map fun ce => ce.recoveryExpiry.recoveryTick
      iu := { s.iu with tickCount := n } } : State).Coherent x := by
  have rows : (s.mapRows fun _ row => row.tick).Coherent x :=
    h.rows rfl rfl rfl (fun r => by rw [State.row_mapRows]; exact Row.tick_alike _)
      fun r => by rw [State.row_mapRows]; exact ⟨fun _ => rfl, rfl, .inl, .inl⟩
  have channels : ({ s.mapRows (fun _ row => row.tick) with
      channels := s.channels.map fun ce => ce.recoveryExpiry.recoveryTick } : State).Coherent x := by
    refine rows.kin rfl rfl rfl fun c => ?_
    rw [State.ch_mapRows, State.ch, State.ch, Quad.get_map]
    exact (ChannelEngine.Kin.recoveryExpiry _).trans (.of_eq rfl rfl rfl rfl)
  exact ⟨{ channels.agrees with }, { channels.due with }⟩

theorem State.Coherent.tick (h : s.Coherent {}) : s.tick.Coherent {} :=
  (State.Coherent.fold_makeDue s.fallen h rfl s.fallen_nodup fun e mem => (s.mem_fallen e).1 mem).presentDue.counted _

end

end Sys2Proof.Machine
end

section
/-! PROOFS. The table transactions within the agreement (O59). -/

namespace Sys2Proof.Machine

set_option Elab.async false

section
variable {s t : State} {x : Slack} {r : RowId} {c : Channel}

/-! ### Arrivals -/

/-- The row a disposition names. -/
def Disposition.row : Disposition → Option RowId
  | .unclaimed => none
  | .dropped r | .rejectedLength r | .rejectedOrder r | .duplicate r | .accepted r => some r

theorem judgeFor_row (row : Row) (r : RowId) (p : Publish) : (judgeFor row r p).row = some r := by
  unfold judgeFor
  (repeat' split) <;> rfl

/-- A disposition that names a row names one in use. -/
theorem State.row_used_of_judged {p : Publish} (named : (s.judgePublish c p).row = some r) :
    (s.row r).state ≠ .free := by
  unfold State.judgePublish at named
  split at named
  · cases named
  · split at named
    · cases named
    · next q _ claimed =>
      rw [judgeFor_row] at named
      cases named
      exact fun free => claimed (.inl free)

theorem Row.accept_alike (row : Row) (c : Channel) (p : Publish) : row.Alike (row.accept c p) :=
  .of_serves rfl rfl rfl rfl rfl

theorem State.Coherent.acceptArrival (h : s.Coherent x) (c : Channel) (p : Publish) :
    (s.acceptArrival r c p).Coherent x := by
  have stored : (s.updRow r fun row => row.accept c p).Coherent x :=
    h.updRow (Row.accept_alike _ c p) ⟨fun _ => rfl, rfl, .inl, fun live => by cases live⟩
  have live : ((s.updRow r fun row => row.accept c p).row r).state ≠ .free := by
    rw [State.row_updRow_self]
    nofun
  have told : (if (s.row r).state = .stale then (s.updRow r fun row => row.accept c p).record r .restored
      else s.updRow r fun row => row.accept c p).Coherent x ∧
      ((if (s.row r).state = .stale then (s.updRow r fun row => row.accept c p).record r .restored
        else s.updRow r fun row => row.accept c p).row r).state ≠ .free := by
    split
    · exact ⟨stored.record live _, by simpa using live⟩
    · exact ⟨stored, live⟩
  obtain ⟨told, used⟩ := told
  unfold State.acceptArrival
  exact ((told.record used .newData).startDeadline (by simpa using used) .freshness).enqueue _ _ _

theorem State.Coherent.applyDisposition (h : s.Coherent x) (c : Channel) (p : Publish) {d : Disposition}
    (used : ∀ r, d.row = some r → (s.row r).state ≠ .free) :
    (s.applyDisposition c p d).Coherent x := by
  have counted (r : RowId) (used : (s.row r).state ≠ .free) : (s.updRow r Row.countReject).Coherent x :=
    h.updRow (.of_eq used rfl rfl rfl rfl rfl) ⟨fun _ => rfl, rfl, .inl, .inl⟩
  have rejected (r : RowId) (used : (s.row r).state ≠ .free) :
      ((s.updRow r Row.countReject).record r .rejected).Coherent x :=
    (counted r used).record (by rw [State.row_updRow_self]; exact used) _
  cases d with
  | unclaimed => exact h.updCh (.of_eq rfl rfl rfl rfl)
  | dropped r => exact counted r (used r rfl)
  | rejectedLength r => exact rejected r (used r rfl)
  | rejectedOrder r => exact rejected r (used r rfl)
  | duplicate r => exact h
  | accepted r => exact h.acceptArrival c p

theorem State.Coherent.publishTransaction (h : s.Coherent x) (c : Channel) (p : Publish) :
    (s.publishTransaction c p).Coherent x := by
  have popped : (s.updCh c ChannelEngine.popArrival).Coherent x := h.updCh (.of_eq rfl rfl rfl rfl)
  exact (popped.applyDisposition c p fun _ => State.row_used_of_judged).updCh (.decideReply _ p _)

theorem State.Coherent.recallTransaction (h : s.Coherent x) (c : Channel) (q : Recall) :
    (s.recallTransaction c q).Coherent x := by
  have popped : (s.updCh c ChannelEngine.popArrival).Coherent x := h.updCh (.of_eq rfl rfl rfl rfl)
  unfold State.recallTransaction
  dsimp only
  split
  · next r taken =>
    have used : (s.row r).state ≠ .free := by
      simp only [State.recallTaken] at taken
      split at taken
      · cases taken
      · split at taken
        · next live =>
          cases taken
          simp [live.2.2]
        · cases taken
    refine (popped.enqueue _ _ _).record ?_ _
    rw [(Steady.enqueue _ _ _ _).state]
    exact used
  · exact popped

/-! ### Attempts -/

theorem ChannelEngine.Kin.popRequest {ce : ChannelEngine} {q : SendRequest} {rest : List SendRequest}
    (head : ce.requests = q :: rest) (ne : q ≠ .removal) : ce.Kin ce.popRequest :=
  ⟨rfl, rfl, fun off none => ⟨off, by simpa [ChannelEngine.popRequest, head, ne.symm] using none⟩⟩

theorem State.Coherent.startAttempt (h : s.Coherent x) (may : (s.ch c).mayAttempt = true) {k : Fin 4}
    (first : (s.ch c).firstPending = some (k, r)) {f : InFlight} (row : f.row = r) :
    ((s.updRow r fun row => row.updSide c fun d =>
      { d with sendState := .inFlight, attemptCount := d.attemptCount + 1 }).updCh c fun ce =>
        ce.startAttempt k f).Coherent x := by
  subst row
  obtain ⟨state, quiet, _⟩ := ChannelEngine.mayAttempt_iff.1 may
  obtain ⟨rest, list⟩ := ChannelEngine.get_of_firstPending first
  have each := h.agrees.each f.row c
  obtain ⟨was, cls⟩ := (each.listed k).1 (by simp [list])
  have used : (s.row f.row).state ≠ .free := fun free => by
    rw [h.agrees.free _ free, Row.free_sendStateOn] at was
    cases was
  have flying := Row.sendStateOn_updSide (s.row f.row) c c fun d =>
    { d with sendState := .inFlight, attemptCount := d.attemptCount + 1 }
  rw [if_pos rfl] at flying
  have others := ChannelEngine.OthersSame.startAttempt quiet first
  have started : AgreeOn ((s.row f.row).updSide c fun d =>
      { d with sendState := .inFlight, attemptCount := d.attemptCount + 1 }) f.row
      { s.ch c with lists := (s.ch c).lists.set k (((s.ch c).lists.get k).drop 1), inFlight := some f } c := by
    refine .of_flying flying (fun j => ?_) ⟨f, rfl, rfl⟩ (each.not_held (by simp [was]))
    have nodup := h.agrees.once c k
    rw [list] at nodup
    simp only [Quad.get_set]
    split
    · simpa [list] using (List.nodup_cons.1 nodup).1
    · next ne => exact fun mem => ne (cls.trans ((each.listed j).1 mem).2.symm)
  refine h.placeBoth (Row.updSide_alike used _ _) (Row.elsewhereSame_updSide _ _ _) others
    (started.kin (.after (.begin _) rfl rfl rfl rfl)) (fun owing off none => ?_) fun _ retiring => ⟨retiring,
      by simp [was]⟩
  obtain ⟨off, _⟩ := others.owed off none
  rw [state] at off
  cases off

theorem State.Coherent.attemptStartTransaction (h : s.Coherent x) {rest : List SendRequest}
    (head : (s.ch c).requests = .attemptStart :: rest) : (s.attemptStartTransaction c).Coherent x := by
  have popped : (s.updCh c ChannelEngine.popRequest).Coherent x := h.updCh (.popRequest head nofun)
  have nothing := popped.updCh (ChannelEngine.Kin.nothingStarted ((s.updCh c ChannelEngine.popRequest).ch c))
  unfold State.attemptStartTransaction
  dsimp only
  split
  · next may =>
    split
    · next k r first =>
      refine popped.startAttempt may first ?_
      unfold snapshot
      split <;> rfl
    · exact nothing
  · exact nothing

theorem State.Coherent.outcomeTransaction (h : s.Coherent x) (late : x.late = none) {o : AttemptOutcome}
    {rest : List SendRequest} (head : (s.ch c).requests = .outcome o :: rest) :
    (s.outcomeTransaction c o).Coherent x := by
  have popped : (s.updCh c ChannelEngine.popRequest).Coherent x := h.updCh (.popRequest head nofun)
  exact (popped.applyOutcome late c o).updCh (.afterOutcome _ o)

/-! ### Removals -/

theorem ChannelEngine.listsContain_iff (ce : ChannelEngine) (r : RowId) :
    ce.listsContain r = true ↔ ∃ k, r ∈ ce.lists.get k := by
  simp [ChannelEngine.listsContain, Fin.exists_fin_succ, Quad.get, or_assoc]

/-- Whether a removal takes a row off the channel: it stands on a class list or in the held mask there (R77). -/
def Row.removable (row : Row) (c : Channel) (listed : Bool) : Bool := listed || inMask row.heldMask c

theorem Row.removeFrom_sends (row : Row) (c d : Channel) (listed : Bool) :
    (row.removeFrom c listed).sendStateOn d =
      if c = d ∧ row.removable c listed = true then .idle else row.sendStateOn d := by
  by_cases own : c = d
  · subst own
    cases listed <;> cases held : inMask row.heldMask c <;>
      simp [Row.removeFrom, Row.removable, held, Row.sendStateOn]
  · cases listed <;> cases held : inMask row.heldMask c <;>
      simp [Row.removeFrom, Row.removable, held, Row.sendStateOn, own]

theorem Row.removeFrom_held (row : Row) (c d : Channel) (listed : Bool) :
    inMask (row.removeFrom c listed).heldMask d = true ↔ inMask row.heldMask d = true ∧ c ≠ d := by
  by_cases held : inMask row.heldMask c = true
  · have mask : (row.removeFrom c listed).heldMask = maskErase row.heldMask c := by
      cases listed <;> simp [Row.removeFrom, held]
    rw [mask, inMask_erase_maskOf]
  · have mask : (row.removeFrom c listed).heldMask = row.heldMask := by
      cases listed <;> simp [Row.removeFrom, held]
    rw [mask, iff_self_and]
    intro on same
    subst same
    exact held on

theorem Row.removeFrom_none (row : Row) (c : Channel) (held : inMask row.heldMask c = false) :
    row.removeFrom c false = row := by
  simp [Row.removeFrom, held]

/-- The fields that a removal leaves alone. -/
theorem Row.removeFrom_frame (row : Row) (c : Channel) (listed : Bool) :
    (row.removeFrom c listed).gapRunning = row.gapRunning ∧ (row.removeFrom c listed).freshness = row.freshness ∧
      (row.removeFrom c listed).refresh = row.refresh ∧ (row.removeFrom c listed).gap = row.gap := by
  unfold Row.removeFrom
  dsimp only
  split <;> split <;> exact ⟨rfl, rfl, rfl, rfl⟩

/-- The state after a removal transaction has taken the rows off the channel's lists and out of the held masks. -/
def State.emptied (s : State) (c : Channel) : State :=
  ((s.updCh c ChannelEngine.popRequest).mapRows fun r row =>
    row.removeFrom c (((s.updCh c ChannelEngine.popRequest).ch c).listsContain r)).updCh c fun ce =>
      { ce with lists := Quad.all [] }

theorem State.emptied_row (s : State) (c : Channel) (r : RowId) :
    (s.emptied c).row r = (s.row r).removeFrom c ((s.ch c).listsContain r) := by
  simp [State.emptied, ChannelEngine.popRequest, ChannelEngine.listsContain]

theorem State.emptied_ch_self (s : State) (c : Channel) :
    (s.emptied c).ch c = { (s.ch c).popRequest with lists := Quad.all [] } := by
  simp [State.emptied]

theorem State.emptied_ch_ne (s : State) {c d : Channel} (ne : c ≠ d) : (s.emptied c).ch d = s.ch d := by
  simp [State.emptied, ne]

theorem State.Coherent.removable_iff (h : s.Coherent x) :
    (s.row r).removable c ((s.ch c).listsContain r) = true ↔
      (s.row r).sendStateOn c = .pending ∨ (s.row r).sendStateOn c = .held := by
  have each := h.agrees.each r c
  rw [Row.removable, Bool.or_eq_true, ChannelEngine.listsContain_iff, each.held]
  simp [each.listed]

theorem State.Coherent.emptied_sends (h : s.Coherent x) (c d : Channel) (r : RowId) :
    ((s.emptied c).row r).sendStateOn d =
      if c = d ∧ ((s.row r).sendStateOn c = .pending ∨ (s.row r).sendStateOn c = .held) then .idle
      else (s.row r).sendStateOn d := by
  rw [State.emptied_row, Row.removeFrom_sends]
  simp only [h.removable_iff]

theorem State.Coherent.emptied (h : s.Coherent {}) (c : Channel) : (s.emptied c).Coherent { owing := some c } := by
  have sends := h.emptied_sends c
  have state (r : RowId) : ((s.emptied c).row r).state = (s.row r).state := by
    rw [State.emptied_row]
    exact (congrArg Row.state (Row.core_removeFrom (s.row r) c _) :)
  have cls (r : RowId) : ((s.emptied c).row r).cls = (s.row r).cls := by
    rw [State.emptied_row]
    exact (congrArg Row.cls (Row.core_removeFrom (s.row r) c _) :)
  have serves (r : RowId) : ((s.emptied c).row r).inService = (s.row r).inService := by simp [Row.inService, state]
  have held (r : RowId) (d : Channel) : inMask ((s.emptied c).row r).heldMask d = true ↔
      inMask (s.row r).heldMask d = true ∧ c ≠ d := by
    rw [State.emptied_row]
    exact Row.removeFrom_held _ c d _
  refine ⟨⟨fun r d => ?_, fun d k => ?_, fun r free => ?_, fun r still => ?_, fun d ne off none r => ?_,
    fun r _ retiring => ?_,
    fun e mem => ?_⟩, State.DueBut.congr (s := s) { h.due with } rfl fun e => ?_⟩
  · have each := h.agrees.each r d
    have now := sends d r
    by_cases own : c = d
    · subst own
      rw [State.emptied_ch_self]
      have off : ¬ inMask ((s.emptied c).row r).heldMask c = true := fun on => ((held r c).1 on).2 rfl
      by_cases queued : (s.row r).sendStateOn c = .pending ∨ (s.row r).sendStateOn c = .held
      · rw [if_pos ⟨rfl, queued⟩] at now
        refine .of_idle now (by simp) (each.not_flying ?_) off
        rcases queued with e | e <;> simp [e]
      · rw [if_neg (by simp [queued])] at now
        rw [not_or] at queued
        exact
          { listed := by simp [now, queued.1]
            flying := by rw [now]; exact each.flying
            held := by simp [now, queued.2, off]
            serving := by simp [now, queued] }
    · rw [if_neg (fun e => own e.1)] at now
      rw [State.emptied_ch_ne s own]
      exact
        { listed := by rw [now, cls]; exact each.listed
          flying := by rw [now]; exact each.flying
          held := by rw [now, held, and_iff_left own]; exact each.held
          serving := by rw [now, serves]; exact each.serving }
  · by_cases own : c = d
    · subst own
      rw [State.emptied_ch_self]
      simp
    · rw [State.emptied_ch_ne s own]
      exact h.agrees.once d k
  · rw [state] at free
    have was := h.agrees.free r free
    have idle : (s.row r).sendStateOn c = .idle := by rw [was]; exact Row.free_sendStateOn c
    have unlisted : (s.ch c).listsContain r = false := by
      rw [Bool.eq_false_iff, Ne, ChannelEngine.listsContain_iff]
      rintro ⟨k, mem⟩
      exact (h.agrees.each r c).not_listed (by simp [idle]) k mem
    rw [State.emptied_row, unlisted, was]
    exact Row.removeFrom_none _ c (by simp [Row.free, inMask])
  · rw [State.emptied_row, (Row.removeFrom_frame _ c _).1] at still
    have empty := h.agrees.gap r still
    refine BitVec.eq_of_getLsbD_eq fun i small => ?_
    have off := held r ⟨i, small⟩
    simp only [empty, inMask] at off
    simpa using off
  · have own : c ≠ d := fun same => ne (by rw [same])
    rw [State.emptied_ch_ne s own] at off none
    rw [sends, if_neg (fun e => own e.1)]
    exact h.agrees.offline d nofun off none r
  · rw [state] at retiring
    obtain ⟨d, flying⟩ := h.agrees.retiring r nofun retiring
    refine ⟨d, ?_⟩
    rw [sends, if_neg, flying]
    rintro ⟨same, on⟩
    subst same
    simp [flying] at on
  · rw [state]
    exact h.agrees.attention e mem
  · unfold State.dueAt
    obtain ⟨_, freshness, refresh, gap⟩ := Row.removeFrom_frame (s.row e.row) c ((s.ch c).listsContain e.row)
    rw [State.emptied_row]
    cases e.kind <;> simp [Row.deadline, freshness, refresh, gap]

/-- An aborted attempt's send ends, its command is told, and a RETIRING row is freed. -/
theorem State.applyOutcome_aborted {f : InFlight} (flying : (s.ch c).inFlight = some f) :
    s.applyOutcome c .aborted =
      ((((s.updCh c fun ce => { ce with inFlight := none }).updRow f.row fun row => row.updSide c fun d =>
        { d with
          sendState := .idle, renewed := false, cancelRequested := false, attemptCount := 0
          lastResult := .channelOff }).report f.row c .aborted).drainRetiring f.row) := by
  simp [State.applyOutcome, flying, retried, State.endSend, State.recordEnd, resultOf]

theorem State.applyOutcome_none {o : AttemptOutcome} (quiet : (s.ch c).inFlight = none) : s.applyOutcome c o = s := by
  simp [State.applyOutcome, quiet]

theorem State.report_row (s : State) (r q : RowId) (c : Channel) (o : AttemptOutcome) :
    (s.report r c o).row q = s.row q := by
  obtain ⟨cu, h⟩ := State.report_frame s r c o
  rw [h]
  rfl

theorem State.report_ch (s : State) (r : RowId) (c d : Channel) (o : AttemptOutcome) :
    (s.report r c o).ch d = s.ch d := by
  obtain ⟨cu, h⟩ := State.report_frame s r c o
  rw [h]
  rfl

theorem State.drainRetiring_ch (s : State) (r : RowId) (c : Channel) : (s.drainRetiring r).ch c = s.ch c := by
  unfold State.drainRetiring
  split <;> rfl

theorem State.drainRetiring_row (s : State) (r q : RowId) :
    (s.drainRetiring r).row q = s.row q ∨ (s.drainRetiring r).row q = Row.free := by
  unfold State.drainRetiring
  split
  · by_cases own : r = q
    · subst own; exact .inr (State.freeRow_row_self s r)
    · exact .inl (State.freeRow_row_ne s own)
  · exact .inl rfl

theorem State.applyOutcome_aborted_ch (s : State) (c : Channel) :
    (s.applyOutcome c .aborted).ch c = { s.ch c with inFlight := none } := by
  cases flying : (s.ch c).inFlight with
  | none => rw [State.applyOutcome_none flying, ← flying]
  | some f => rw [State.applyOutcome_aborted flying, State.drainRetiring_ch, State.report_ch]; simp

/-- An aborted attempt leaves no row HELD that was not. -/
theorem State.applyOutcome_aborted_held (off : ∀ q, (s.row q).sendStateOn c ≠ .held) (q : RowId) :
    ((s.applyOutcome c .aborted).row q).sendStateOn c ≠ .held := by
  cases flying : (s.ch c).inFlight with
  | none => rw [State.applyOutcome_none flying]; exact off q
  | some f =>
    rw [State.applyOutcome_aborted flying]
    obtain e | e := State.drainRetiring_row (((s.updCh c fun ce => { ce with inFlight := none }).updRow f.row fun row =>
      row.updSide c fun d => { d with
        sendState := .idle, renewed := false, cancelRequested := false, attemptCount := 0
        lastResult := .channelOff }).report f.row c .aborted) f.row q
    · rw [e, State.report_row, State.row_updRow]
      split
      · rw [Row.sendStateOn_updSide, if_pos rfl]; nofun
      · exact off q
    · rw [e, Row.free_sendStateOn]; nofun

/-- A channel with nothing on its lists, in flight or HELD owes nothing. -/
theorem State.Coherent.paid (h : s.Coherent { owing := some c }) (lists : ∀ k, (s.ch c).lists.get k = [])
    (landed : (s.ch c).inFlight = none) (off : ∀ q, (s.row q).sendStateOn c ≠ .held) : s.Coherent {} := by
  refine ⟨{ h.agrees with offline := fun d _ out none q => ?_ }, { h.due with }⟩
  by_cases own : c = d
  · subst own
    have each := h.agrees.each q c
    refine SendState.eq_idle (fun on => ?_) (fun on => ?_) (off q)
    · have mem := (each.listed (s.row q).cls).2 ⟨on, rfl⟩
      simp [lists] at mem
    · obtain ⟨f, flying, _⟩ := each.flying.2 on
      simp [landed] at flying
  · exact h.agrees.offline d (by simpa using own) out none q

theorem State.Coherent.removalTransaction (h : s.Coherent {}) (c : Channel) : (s.removalTransaction c).Coherent {} := by
  have emptied := h.emptied c
  have held (q : RowId) : ((s.emptied c).row q).sendStateOn c ≠ .held := by
    rw [h.emptied_sends]
    split
    · decide
    · next not => exact fun on => not ⟨rfl, .inr on⟩
  have aborted := emptied.applyOutcome rfl c .aborted
  have ch := (s.emptied c).applyOutcome_aborted_ch c
  rw [State.emptied_ch_self] at ch
  have paid := aborted.paid (by rw [ch]; simp) (by rw [ch]) (State.applyOutcome_aborted_held held)
  exact paid.updCh (f := fun ce => ce.runAttempts.begin) ((ChannelEngine.Kin.runAttempts _).trans (.begin _))

/-! ### Expiries -/

theorem State.Coherent.goStale (h : s.Coherent x) (r : RowId) : (s.goStale r).Coherent x := by
  unfold State.goStale
  split
  · have stale : (s.updRow r fun row => { row with state := .stale }).Coherent x :=
      h.updRow (.of_serves rfl rfl rfl rfl rfl) ⟨fun _ => rfl, rfl, .inl, fun now => by cases now⟩
    exact stale.record (by rw [State.row_updRow_self]; nofun) _
  · exact h

theorem State.goStale_used (used : (s.row r).state ≠ .free) : ((s.goStale r).row r).state ≠ .free := by
  unfold State.goStale
  split
  · rw [State.record_row, State.row_updRow_self]; nofun
  · exact used

theorem State.Coherent.applyFreshness (h : s.Coherent x) (gone : x.gone = some ⟨r, .freshness⟩)
    (used : (s.row r).state ≠ .free) : (s.applyFreshness r).Coherent { x with gone := none } := by
  have restarted := (h.goStale r).restarted (State.goStale_used used) gone
  unfold State.applyFreshness
  dsimp only
  split
  · exact restarted.enqueue _ _ _
  · exact restarted

theorem State.Coherent.applyRefresh (h : s.Coherent x) (gone : x.gone = some ⟨r, .refresh⟩)
    (used : (s.row r).state ≠ .free) : (s.applyRefresh r).Coherent { x with gone := none } := by
  unfold State.applyRefresh
  split
  · exact (h.enqueue _ _ _).restarted (by rwa [(Steady.enqueue _ _ _ _).state]) gone
  · exact h.restarted used gone

theorem State.Coherent.applyGap (h : s.Coherent x) (gone : x.gone = some ⟨r, .gap⟩)
    (used : (s.row r).state ≠ .free) : (s.applyGap r).Coherent { x with gone := none } := by
  have released := h.release used gone
  unfold State.applyGap
  dsimp only
  split
  · exact released
  · exact released.enqueue _ _ _

theorem State.Coherent.expiryTransaction (h : s.Coherent {}) {k : DeadlineKind} {p : Presented}
    (presented : s.iu.presented = some p) (kind : p.entry.kind = k) {apply : State → RowId → State}
    (applied : ∀ (u : State) (y : Slack), u.Coherent y → y.gone = some p.entry → (u.row p.entry.row).state ≠ .free →
      (apply u p.entry.row).Coherent { y with gone := none }) :
    (s.expiryTransaction k p apply).Coherent {} := by
  have cleared := h.clearPresented presented
  unfold State.expiryTransaction
  dsimp only
  cases void : p.void with
  | true =>
    rw [void] at cleared
    exact cleared.presentDue
  | false =>
    rw [void] at cleared
    have shown : s.presents p.entry := by
      obtain ⟨entry, _⟩ := p
      cases void
      exact presented
    have due : ((s.row p.entry.row).deadline p.entry.kind).isDue = true := (h.due.named p.entry nofun).2 (.inr shown)
    have used := State.used_of_deadline h rfl fun stopped => by rw [stopped] at due; cases due
    have done := (applied _ _ cleared rfl used).presentDue
    have taken : (!false && ((s.clearPresented.row p.entry.row).deadline k).isDue) = true := by
      rw [← kind]
      exact due
    rw [if_pos taken]
    exact done

end

end Sys2Proof.Machine
end

section
/-! PROOFS. Every step keeps the agreement of rows, channels and due list (O59). -/

namespace Sys2Proof.Machine

set_option Elab.async false

section
variable {s t : State} {x : Slack} {r : RowId} {c : Channel}

/-! ### Commands -/

theorem State.Coherent.finish (h : s.Coherent x) (row : Byte) (words : List Word) : (s.finish row words).Coherent x :=
  h.of_eq rfl rfl rfl rfl

theorem State.Coherent.refuse (h : s.Coherent x) (code : ResultCode) : (s.refuse code).Coherent x :=
  h.of_eq rfl rfl rfl rfl

theorem State.Coherent.finishOrWait (h : s.Coherent x) (isCancel : Bool) (r : RowId) (awaited : ChannelMask)
    (outcomes : Quad ChannelOutcome) : (s.finishOrWait isCancel r awaited outcomes).Coherent x := by
  unfold State.finishOrWait
  split
  · exact h.finish _ _
  · exact h.of_eq rfl rfl rfl rfl

theorem State.Coherent.takeRow (h : s.Coherent x) (free : s.row r = Row.free) (d : DeclareParams) :
    (s.takeRow r d).Coherent x := by
  have used := declaredRow_used d
  have set : (s.updRow r fun _ => declaredRow d).Coherent x := by
    refine h.occupy free used ⟨rfl, rfl⟩ ?_ ⟨rfl, rfl, rfl⟩
    unfold declaredRow
    dsimp only
    split <;> decide
  have indexed : ({ s.updRow r fun _ => declaredRow d with
      topicIndex := (s.updRow r fun _ => declaredRow d).topicIndex ++ [(d.topic, r)] } : State).Coherent x :=
    set.of_eq rfl rfl rfl rfl
  have own : (({ s.updRow r fun _ => declaredRow d with
      topicIndex := (s.updRow r fun _ => declaredRow d).topicIndex ++ [(d.topic, r)] } :
        State).row r).state ≠ .free := by
    rw [show ({ s.updRow r fun _ => declaredRow d with
      topicIndex := (s.updRow r fun _ => declaredRow d).topicIndex ++ [(d.topic, r)] } : State).row r =
        (s.updRow r fun _ => declaredRow d).row r from rfl, State.row_updRow_self]
    exact used
  exact (indexed.startDeadline own .freshness).startDeadline (by rwa [State.startDeadline_state]) .refresh

theorem State.Coherent.declareTransaction (h : s.Coherent x) (p : Vector Word 16) :
    (s.declareTransaction p).Coherent x := by
  unfold State.declareTransaction
  dsimp only
  split
  · exact h.refuse _
  · split
    · exact h.refuse _
    · split
      · exact h.refuse _
      · next r found =>
        have free : (s.row r).state = .free := by simpa using State.firstRow_sat found
        exact (h.takeRow (h.agrees.free r free) _).finish _ _

theorem State.Coherent.amendDeadline (h : s.Coherent x) (used : (s.row r).state ≠ .free) (k : DeadlineKind)
    (changed : Bool) : (s.amendDeadline r k changed).Coherent x := by
  unfold State.amendDeadline
  split
  · exact h.startDeadline used k
  · exact h

theorem State.Coherent.amendTransaction (h : s.Coherent x) (p : Vector Word 16) :
    (s.amendTransaction p).Coherent x := by
  unfold State.amendTransaction
  split
  · exact h.refuse _
  · next r named =>
    have used := State.namedRow_inUse named
    dsimp only
    split
    · exact h.refuse _
    · split
      · exact h.refuse _
      · have amended : (s.updRow r fun _ => amendedRow (s.row r) p).Coherent x :=
          h.updRow (.of_eq used rfl rfl rfl rfl rfl) ⟨fun _ => rfl, rfl, .inl, .inl⟩
        have own : ((s.updRow r fun _ => amendedRow (s.row r) p).row r).state ≠ .free := by
          rw [State.row_updRow_self]
          exact used
        refine State.Coherent.finish ?_ _ _
        exact (amended.amendDeadline own _ _).amendDeadline (by rwa [(Steady.amendDeadline _ _ _ _).state]) _ _

theorem State.Coherent.fetchTransaction (h : s.Coherent x) (p : Vector Word 16) :
    (s.fetchTransaction p).Coherent x := by
  unfold State.fetchTransaction
  split
  · exact h.refuse _
  · next r named =>
    dsimp only
    split
    · exact (h.finish _ _).updRow (.of_eq (State.namedRow_inUse named) rfl rfl rfl rfl rfl)
        ⟨fun _ => rfl, rfl, .inl, .inl⟩
    · exact h.finish _ _

theorem State.Coherent.postTransaction (h : s.Coherent x) (p : Vector Word 16) : (s.postTransaction p).Coherent x := by
  unfold State.postTransaction
  split
  · exact h.refuse _
  · split
    · exact h.refuse _
    · split
      · exact h.refuse _
      · next r _ _ _ =>
        have stored : (s.updRow r fun row => row.post (imageBytes p 1)).Coherent x :=
          h.updRow (.of_serves rfl rfl rfl rfl rfl) ⟨fun _ => rfl, rfl, .inl, fun now => by cases now⟩
        exact (stored.enqueue _ _ _).finish _ _

theorem State.Coherent.sendTransaction (h : s.Coherent x) (p : Vector Word 16) : (s.sendTransaction p).Coherent x := by
  unfold State.sendTransaction
  split
  · exact h.refuse _
  · split
    · exact h.refuse _
    · split
      · exact h.refuse _
      · exact (h.enqueue _ _ _).finish _ _

theorem State.Coherent.recallCommandTransaction (h : s.Coherent x) (p : Vector Word 16) :
    (s.recallCommandTransaction p).Coherent x := by
  unfold State.recallCommandTransaction
  split
  · exact h.refuse _
  · split
    · exact h.refuse _
    · split
      · exact h.refuse _
      · exact (h.enqueue _ _ _).finish _ _

theorem State.Coherent.fold_cancelOn {mask : ChannelMask} (l : List Channel) {s : State} (h : s.Coherent x)
    (used : (s.row r).state ≠ .free) :
    (l.foldl (fun s c => if inMask mask c then s.cancelOn r c else s) s).Coherent x := by
  induction l generalizing s with
  | nil => exact h
  | cons c l ih =>
    rw [List.foldl_cons]
    split
    · exact ih (h.cancelOn used c) (by rwa [(Steady.cancelOn s r c).state])
    · exact ih h used

theorem State.Coherent.cancelTransaction (h : s.Coherent x) (p : Vector Word 16) :
    (s.cancelTransaction p).Coherent x := by
  unfold State.cancelTransaction
  split
  · exact h.refuse _
  · next r named =>
    exact (State.Coherent.fold_cancelOn allChannels h (State.namedRow_inUse named)).finishOrWait _ _ _ _

/-- A row out of service is PENDING or HELD nowhere, so its state may change to one that is out of service. -/
theorem State.Coherent.shelved (h : s.Coherent x) (used : (s.row r).state ≠ .free) {st : RowState} (inUse : st ≠ .free)
    (retiring : st = .retiring → ∃ c, (s.row r).sendStateOn c = .inFlight) :
    ((s.takeOutOfService r).updRow r fun row => { row with state := st }).Coherent x := by
  have out := h.takeOutOfService used
  have row := s.takeOutOfService_row_self r
  generalize s.takeOutOfService r = u at out row
  refine out.updRow ⟨⟨fun queued => ?_, fun _ => inUse, fun _ free => absurd free inUse⟩, fun k => by cases k <;> rfl⟩
    ⟨fun _ => rfl, rfl, .inl, fun now => .inr ?_⟩
  · obtain ⟨c, on⟩ := queued
    rw [row, Row.outOfService_sends] at on
    split at on <;> simp at on
  · obtain ⟨c, flying⟩ := retiring now
    have stays := (s.row r).outOfService_sends c
    rw [if_pos flying, ← row] at stays
    exact ⟨c, stays⟩

theorem State.Coherent.suspendTransaction (h : s.Coherent x) (p : Vector Word 16) :
    (s.suspendTransaction p).Coherent x := by
  unfold State.suspendTransaction
  split
  · exact h.refuse _
  · next r named =>
    dsimp only
    split
    · exact h.refuse _
    · exact (h.shelved (State.namedRow_inUse named) (st := .suspended) nofun nofun).finish _ _

theorem Row.inService_resumed (row : Row) : ({ row with state := resumedState row } : Row).inService = true := by
  unfold resumedState
  split
  · rfl
  · split <;> rfl

theorem State.Coherent.resumeTransaction (h : s.Coherent x) (p : Vector Word 16) :
    (s.resumeTransaction p).Coherent x := by
  unfold State.resumeTransaction
  split
  · exact h.refuse _
  · next r named =>
    dsimp only
    split
    · exact h.refuse _
    · have serves := (s.row r).inService_resumed
      have resumed : (s.updRow r fun row => { row with state := resumedState row }).Coherent x :=
        h.updRow (.of_serves serves rfl rfl rfl rfl)
          ⟨fun _ => rfl, rfl, .inl, fun now => absurd now (Row.not_retiring_of_inService serves)⟩
      refine State.Coherent.finish (resumed.startDeadline ?_ _) _ _
      rw [State.row_updRow_self]
      exact Row.used_of_inService serves

/-- The channels of a mask on which a row is in flight, channel by channel. -/
theorem Row.mem_inFlightMask (row : Row) (mask : ChannelMask) (c : Channel) :
    inMask (row.inFlightMask mask) c = true ↔ inMask mask c = true ∧ row.sendStateOn c = .inFlight := by
  have fold (l : List Channel) (m : ChannelMask) :
      inMask (l.foldl (fun m c => if inMask mask c ∧ row.sendStateOn c = .inFlight then m ||| maskOf c else m) m) c =
          true ↔
        inMask m c = true ∨ c ∈ l ∧ inMask mask c = true ∧ row.sendStateOn c = .inFlight := by
    induction l generalizing m with
    | nil => simp
    | cons d l ih =>
      rw [List.foldl_cons, ih]
      split
      · next on =>
        have step := inMask_or_maskOf m d c
        by_cases own : d = c
        · subst own
          simp_all
        · simp_all [Ne.symm own]
      · next off =>
        by_cases own : d = c
        · subst own
          simp [off]
        · simp [Ne.symm own]
  rw [Row.inFlightMask, fold]
  simp [mem_allChannels, inMask]

theorem inMask_full (c : Channel) : inMask 15 c = true := by revert c; decide

theorem eq_zero_of_inMask {m : ChannelMask} (h : ∀ c, ¬ inMask m c = true) : m = 0 := by
  revert m; decide

theorem State.Coherent.retireTransaction (h : s.Coherent {}) (p : Vector Word 16) :
    (s.retireTransaction p).Coherent {} := by
  unfold State.retireTransaction
  split
  · exact h.refuse _
  · next r named =>
    have used := State.namedRow_inUse named
    have out := h.takeOutOfService used
    have row := s.takeOutOfService_row_self r
    dsimp only
    split
    · exact h.refuse _
    · refine State.Coherent.finishOrWait ?_ _ _ _ _
      split
      · next none =>
        refine out.freeRow (by rw [row]; exact used) (fun c => ?_) nofun
        rw [row, Row.outOfService_sends, if_neg]
        intro flying
        have mem := ((s.row r).mem_inFlightMask 15 c).2 ⟨inMask_full c, flying⟩
        rw [none] at mem
        simp [inMask] at mem
      · next some =>
        refine h.shelved used (by decide) fun _ => ?_
        by_contra none
        refine some (eq_zero_of_inMask fun c on => none ⟨c, ?_⟩)
        exact (((s.row r).mem_inFlightMask 15 c).1 on).2

theorem State.Coherent.takeTransaction (h : s.Coherent x) : s.takeTransaction.Coherent x := by
  unfold State.takeTransaction
  split
  · next e rest list =>
    have less : ({ s with attention := rest } : State).Coherent x :=
      h.attentionLess rfl rfl rfl fun e mem => by rw [list]; exact List.mem_cons_of_mem _ mem
    exact less.finish _ _
  · exact h.refuse _

/-- Every row is FREE, and nothing is listed, noted or DUE. -/
theorem State.Coherent.cleared (h : s.Coherent {}) (off : ∀ c, (s.ch c).state = .offline ∧ .removal ∉ (s.ch c).requests)
    (rows : ∀ r, t.row r = Row.free) (channels : t.channels = s.channels) (attention : t.attention = [])
    (dueList : t.iu.dueList = []) (void : ∀ e, ¬ t.presents e) : t.Coherent {} := by
  have ch (c : Channel) : t.ch c = s.ch c := congrArg (fun q : Quad ChannelEngine => q.get c) channels
  have idle (r : RowId) (c : Channel) := h.agrees.offline c nofun (off c).1 (off c).2 r
  refine ⟨⟨fun r c => ?_, fun c k => ?_, fun r _ => rows r, fun r _ => by rw [rows]; rfl, fun c _ _ _ r => ?_,
    fun r _ now => ?_, fun e mem => ?_⟩, ⟨?_, fun e _ => ?_, nofun, fun e shown => absurd shown (void e),
      fun _ _ => dueList⟩⟩
  · rw [rows, ch]
    exact (h.agrees.each r c).of_idle_row (idle r c) (Row.free_sendStateOn c) (by simp [Row.free, inMask])
  · rw [ch]
    exact h.agrees.once c k
  · rw [rows]
    exact Row.free_sendStateOn c
  · rw [rows] at now
    cases now
  · rw [attention] at mem
    cases mem
  · rw [dueList]
    exact List.nodup_nil
  · have still : t.dueAt e = false := by
      unfold State.dueAt
      rw [rows]
      cases e.kind <;> rfl
    simp [still, dueList, void]

theorem State.channelsOnline_eq_false (h : s.channelsOnline = false) (c : Channel) :
    (s.ch c).state = .offline ∧ .removal ∉ (s.ch c).requests := by
  have off := List.any_eq_false.1 h c (mem_allChannels c)
  simpa [ChannelEngine.removalWaits, not_or] using off

theorem State.Coherent.clearTransaction (h : s.Coherent {}) : s.clearTransaction.Coherent {} := by
  unfold State.clearTransaction
  split
  · exact h.refuse _
  · next off =>
    refine h.cleared (State.channelsOnline_eq_false (by simpa using off)) row_replicate_free rfl rfl rfl
      fun e shown => ?_
    simp only [State.presents, State.finish_iu] at shown
    cases was : s.iu.presented <;> simp [was] at shown

theorem State.Coherent.commandTransaction (h : s.Coherent {}) (k : CommandKind) (p : Vector Word 16) :
    (s.commandTransaction k p).Coherent {} := by
  cases k
  case declare => exact h.declareTransaction p
  case amend => exact h.amendTransaction p
  case find =>
    simp only [State.commandTransaction, State.findTransaction]
    split
    · exact h.finish _ _
    · exact h.refuse _
  case list =>
    simp only [State.commandTransaction, State.listTransaction]
    split
    · exact h.finish _ _
    · exact h.refuse _
  case fetch => exact h.fetchTransaction p
  case post => exact h.postTransaction p
  case send => exact h.sendTransaction p
  case _ => exact h.recallCommandTransaction p
  case cancel => exact h.cancelTransaction p
  case suspend => exact h.suspendTransaction p
  case resume => exact h.resumeTransaction p
  case retire => exact h.retireTransaction p
  case take => exact h.takeTransaction
  case clearTable => exact h.clearTransaction

/-! ### The port -/

theorem State.reset_coherent : State.reset.Coherent {} := by
  have row (r : RowId) : State.reset.row r = Row.free := row_replicate_free r
  have ch (c : Channel) : State.reset.ch c = ChannelEngine.reset := Quad.get_all _ c
  refine ⟨⟨fun r c => ?_, fun c k => ?_, fun r _ => row r, fun r _ => by rw [row]; rfl, fun c _ _ _ r => ?_,
    fun r _ now => ?_, nofun⟩, ⟨List.nodup_nil, fun e _ => ?_, nofun, nofun, fun _ _ => rfl⟩⟩
  · rw [row, ch]
    refine .of_idle (Row.free_sendStateOn c) (fun k => ?_) (by simp [ChannelEngine.reset]) (by simp [Row.free, inMask])
    simp [ChannelEngine.reset]
  · rw [ch]
    simp [ChannelEngine.reset]
  · rw [row]
    exact Row.free_sendStateOn c
  · rw [row] at now
    cases now
  · have still : State.reset.dueAt e = false := by
      unfold State.dueAt
      rw [row]
      cases e.kind <;> rfl
    rw [still]
    simp [State.presents, State.reset]

theorem State.resetBlocks_coherent (s : State) (cause : ResetCause) (phase : PortPhase) :
    (s.resetBlocks cause phase).Coherent {} := State.reset_coherent.of_eq rfl rfl rfl rfl

theorem State.Coherent.writeConfig (h : s.Coherent x) (c : Channel) (w : ConfigWord) (data mask : Word) :
    (s.writeConfig c w data mask).Coherent x := by
  unfold State.writeConfig
  split
  · exact h.updCh (.storeConfig _ w _)
  · exact h.of_eq rfl rfl rfl rfl

theorem State.Coherent.writeChannel (h : s.Coherent x) (c : Channel) (addr : Nat) (data mask : Word) :
    (s.writeChannel c addr data mask).Coherent x := by
  unfold State.writeChannel
  split
  · exact h.updCh (.writeControl _ _)
  · exact h.writeConfig c _ _ _
  · exact h.writeConfig c _ _ _
  · exact h.writeConfig c _ _ _
  · exact h.writeConfig c _ _ _
  · exact h.updCh (.of_eq rfl rfl rfl rfl)
  · exact h

theorem State.Coherent.presenting {f : State → State} (h : (f s).Coherent x) : (s.presenting f).Coherent x :=
  h.of_eq rfl rfl rfl rfl

theorem State.Coherent.foldl {α : Type} {step : State → α → State} (keeps : ∀ s a, s.Coherent x → (step s a).Coherent x)
    (l : List α) {s : State} (h : s.Coherent x) : (l.foldl step s).Coherent x := by
  induction l generalizing s with
  | nil => exact h
  | cons a l ih => exact ih (keeps s a h)

theorem State.Coherent.writeCode (h : s.Coherent x) (code : Word) : (s.writeCode code).Coherent x := by
  unfold State.writeCode
  (repeat' split) <;> exact h.of_eq rfl rfl rfl rfl

theorem State.Coherent.writeWord (h : s.Coherent {}) (page : Option Page) (addr : Nat) (data mask : Word) :
    (s.writeWord page addr data mask).Coherent {} := by
  unfold State.writeWord
  split
  · exact h
  · unfold State.writeGlobal
    split
    · dsimp only
      split
      · exact s.resetBlocks_coherent _ _
      · exact h.of_eq rfl rfl rfl rfl
    · split
      · exact h.of_eq rfl rfl rfl rfl
      · split
        · exact State.Coherent.presenting (f := fun s => s.writeCode (formed s.cu.code data mask)) (h.writeCode _)
        · exact h.of_eq rfl rfl rfl rfl
  · split
    · exact (h.writeChannel _ addr data mask).presenting
    · exact h.of_eq rfl rfl rfl rfl
  · split
    · exact (State.Coherent.foldl (fun _ c h => h.writeChannel c addr data mask) allChannels h).presenting
    · exact h.of_eq rfl rfl rfl rfl

theorem State.Coherent.strayBits (h : s.Coherent x) : s.strayBits.Coherent x := by
  unfold State.strayBits
  split
  · exact h.of_eq rfl rfl rfl rfl
  · exact h

theorem State.Coherent.portWrite (h : s.Coherent {}) (addr : Byte) (data mask : Word) :
    (s.portWrite addr data mask).Coherent {} := by
  unfold State.portWrite
  split
  · exact (h.writeWord _ _ _ _).of_eq rfl rfl rfl rfl
  · exact (h.writeWord _ _ _ _).of_eq rfl rfl rfl rfl
  · exact h
  · exact h
  · exact h.strayBits

theorem State.Coherent.wordOn (h : s.Coherent x) (p : Page → Bool) {f : State → State} (k : (f s).Coherent x) :
    (s.wordOn p f).Coherent x := by
  unfold State.wordOn
  split
  · exact k
  · exact h

theorem State.Coherent.clearReported (h : s.Coherent x) (c : Channel) (reported : BitVec 9) :
    (s.clearReported c reported).Coherent x := h.updCh (.of_eq rfl rfl rfl rfl)

theorem State.Coherent.portRead (h : s.Coherent x) (addr : Byte) : (s.portRead addr).Coherent x := by
  have after (page : Page) : (s.afterWord page addr.toNat).Coherent x := by
    unfold State.afterWord
    split
    · exact h.clearReported _ _
    · exact h
  unfold State.portRead
  dsimp only
  split
  · exact h.of_eq rfl rfl rfl rfl
  · split
    · exact (after _).of_eq rfl rfl rfl rfl
    · exact h.of_eq rfl rfl rfl rfl
  · exact h
  · exact h
  · exact h
  · exact h.strayBits

theorem State.Coherent.portCompare (h : s.Coherent x) (addr : Byte) (expected mask : Word) :
    (s.portCompare addr expected mask).Coherent x := by
  unfold State.portCompare State.strayBits
  (repeat' split) <;> exact h.of_eq rfl rfl rfl rfl

theorem State.Coherent.takeEvents (h : s.Coherent x) : s.takeEvents.Coherent x := by
  unfold State.takeEvents State.strayBits
  (repeat' split) <;> exact h.of_eq rfl rfl rfl rfl

theorem State.Coherent.eventsShifted (h : s.Coherent x) : s.eventsShifted.Coherent x := by
  unfold State.eventsShifted
  split
  · exact (h.clearReported _ _).of_eq rfl rfl rfl rfl
  · exact h.strayBits

/-! ### Every command -/

theorem State.Coherent.transact (h : s.Coherent x) {q : Requester} {f : State → State}
    (k : ({ s with served := q, turn := none } : State).Coherent x → (f { s with served := q, turn :=
      none }).Coherent x) :
    (s.transact q f).Coherent x := by
  obtain e | ⟨_, e⟩ := s.transact_cases q f
  · rw [e]; exact h
  · rw [e]; exact (k (h.of_eq rfl rfl rfl rfl)).wakeAll

theorem State.Coherent.takeExpiry (h : s.Coherent {}) {k : DeadlineKind} {apply : State → RowId → State}
    (applied : ∀ (u : State) (y : Slack) (r : RowId), u.Coherent y → y.gone = some ⟨r, k⟩ → (u.row r).state ≠ .free →
      (apply u r).Coherent { y with gone := none }) : (s.takeExpiry k apply).Coherent {} := by
  unfold State.takeExpiry
  split
  · next p presented =>
    split
    · next kind =>
      refine h.transact fun taken => taken.expiryTransaction presented kind fun u y coherent gone used => ?_
      refine applied u y p.entry.row coherent ?_ used
      rw [gone, ← kind]
    · exact h
  · exact h

theorem State.Coherent.onChannel (h : s.Coherent x) (c : Channel) {f : ChannelEngine → ChannelEngine}
    (k : ∀ ce : ChannelEngine, ce.Kin (f ce)) : (s.onChannel c f).Coherent x := (h.updCh (k _)).presenting

theorem State.Coherent.onCh (h : s.Coherent x) (c : Channel) {f : ChannelEngine → ChannelEngine}
    (k : ∀ ce : ChannelEngine, ce.Kin (f ce)) : (s.updCh c f).Coherent x := h.updCh (k _)

theorem State.Coherent.hear (h : s.Coherent x) (c : Channel) (t : Telegram) : (s.hear c t).Coherent x :=
  h.onChannel c fun ce => .telegramEnds ce _

theorem State.Coherent.hearBytes (h : s.Coherent x) (c : Channel) (bytes : List Byte) :
    (s.hearBytes c bytes).Coherent x :=
  h.onChannel c fun ce => .telegramEnds ce _

theorem exec_coherent {i : Instr} {s t : State} (h : s.Coherent {}) (e : exec i s = .next t) : t.Coherent {} := by
  cases i
  case pinReset selLow => cases e; exact s.resetBlocks_coherent _ _
  case portStatusByte control => cases e; exact h.of_eq rfl rfl rfl rfl
  case endInsideTransaction bits =>
    simp only [exec, execEndInsideTransaction] at e
    split at e <;> cases e <;> exact h.of_eq rfl rfl rfl rfl
  case registerWrite addr data mask => cases e; exact h.portWrite addr data mask
  case compare addr expected mask => cases e; exact h.portCompare addr expected mask
  case eventRead part =>
    cases part <;> cases e
    · exact h.wordOn _ (h.portRead _)
    · exact h.wordOn _ h.takeEvents
    · exact h.eventsShifted
  case readAtAbsentAddress addr => cases e; exact h.portRead addr
  case softReset | attnEnable | eventEnableWrite | configWrite | channelEnable | channelDisable | restart | recover |
      clearCounters | declare | amend | find | list | fetch | post | send | _ | cancel | suspend | resume |
      retire | take | clearTable | unknownCommand => cases e; exact h.wordOn _ (h.portWrite _ _ _)
  case commandTransaction =>
    simp only [exec, execCommandTransaction] at e
    split at e <;> cases e
    · exact h.transact fun taken => taken.commandTransaction _ _
    · exact h
  case tick => cases e; exact h.tick.presenting
  case deadlineDue =>
    simp only [exec, execDeadlineDue] at e
    split at e <;> cases e
    · next d rest fallen =>
      have last := (s.mem_fallen d).1 (by rw [fallen]; exact List.mem_cons_self)
      exact (h.makeDue rfl last).presentDue.presenting
    · exact h
  case freshnessExpiry => cases e; exact h.takeExpiry fun u y r coherent gone used => coherent.applyFreshness gone used
  case refreshExpiry => cases e; exact h.takeExpiry fun u y r coherent gone used => coherent.applyRefresh gone used
  case inhibitGapExpiry => cases e; exact h.takeExpiry fun u y r coherent gone used => coherent.applyGap gone used
  case recoveryIntervalExpiry c => cases e; exact h.onCh c .recoveryExpiry
  case publishReceived c p => cases e; exact h.hear c _
  case recallReceived c q => cases e; exact h.hear c _
  case confirmReceived c q => cases e; exact h.hear c _
  case tokenReceived c source => cases e; exact h.hear c _
  case joinCallReceived c source => cases e; exact h.hear c _
  case joinReplyReceived c source => cases e; exact h.hear c _
  case unmatchedRingTelegram c kind source target => cases kind <;> cases e <;> exact h.hear c _
  case checkFailure c bytes => cases e; exact h.hearBytes c bytes
  case unknownKindTelegram c bytes => cases e; exact h.hearBytes c bytes
  case framingFault c kind => cases e; exact h.onChannel c (.framingFault · kind)
  case startBit c => cases e; exact h.onChannel c .startBit
  case endGap c => cases e; exact h.onChannel c .endGap
  case publishArrival c =>
    simp only [exec, execPublishArrival] at e
    split at e <;> cases e
    · exact h.transact fun taken => taken.publishTransaction c _
    · exact h
  case recallArrival c =>
    simp only [exec, execRecallArrival] at e
    split at e <;> cases e
    · exact h.transact fun taken => taken.recallTransaction c _
    · exact h
  case attemptStart c =>
    simp only [exec, execAttemptStart] at e
    split at e <;> cases e
    · next head => exact h.transact fun taken => taken.attemptStartTransaction head
    · exact h
  case attemptOutcome c =>
    simp only [exec, execAttemptOutcome] at e
    split at e <;> cases e
    · next head => exact h.transact fun taken => taken.outcomeTransaction rfl head
    · exact h
  case removalTransaction c =>
    simp only [exec, execRemovalTransaction] at e
    split at e <;> cases e
    · exact h.transact fun taken => taken.removalTransaction c
    · exact h
  case attemptEcho c readBack clean => cases e; exact h.onChannel c (.attemptEcho · readBack clean)
  case replyWindowExpiry c => cases e; exact h.onChannel c .replyWindowExpiry
  case passWindowExpiry c => cases e; exact h.onChannel c .passWindowExpiry
  case claimEcho c readBack clean => cases e; exact h.onChannel c (.claimEcho · readBack clean)
  case sendReply c => cases e; exact h.onCh c .sendReply
  case replyLatestStart c => cases e; exact h.onCh c .replyTooLate
  case replyEcho c readBack clean => cases e; exact h.onCh c (.replyEcho · readBack clean)
  case joinCallEcho c readBack clean => cases e; exact h.onCh c (.joinCallEcho · readBack clean)
  case passTokenEcho c readBack clean => cases e; exact h.onCh c (.passTokenEcho · readBack clean)
  case silenceTimerExpiry c => cases e; exact h.onCh c .silenceExpiry
  case claimTransmit c => cases e; exact h.onCh c .claimTransmit

/-- Settles O59: `exec_coherent`, for what `State.Coherent` says between the transactions. -/
theorem stepsKeepTheAgreement : Obligations.StepsKeepTheAgreement := by
  intro s t agrees due h
  have coherent := State.coherent_of_agrees agrees due
  cases queue : s.pending with
  | nil =>
    rw [step_nil queue] at h
    cases h
    exact coherent.done
  | cons c rest =>
    rw [step_cons queue] at h
    exact (exec_coherent (s := { s with pending := rest }) (coherent.of_eq rfl rfl rfl rfl) h).done

end

end Sys2Proof.Machine
end

section
/-! PROOFS. The step, the resets and the management port (O1, O2, O4 to O7, O9, O56). -/

namespace Sys2Proof.Machine

set_option Elab.async false

/-! ### The step and the resets -/

/-- Settles O1: the two equations of `step`. -/
theorem stepRunsTheFrontCommand : Obligations.StepRunsTheFrontCommand :=
  ⟨fun _ _ _ queue => step_cons queue, fun _ queue => step_nil queue⟩

theorem State.reset_row (r : RowId) : State.reset.row r = Row.free := row_replicate_free r

theorem State.reset_ch (c : Channel) : State.reset.ch c = ChannelEngine.reset := Quad.get_all _ c

/-- Settles O56: every channel is at its reset value, every row at its free values, every list is empty. -/
theorem resetMeetsTheInvariants : Obligations.ResetMeetsTheInvariants := by
  obtain ⟨agrees, due⟩ := State.reset_coherent.done
  refine ⟨⟨fun c => ?_, fun r => ?_⟩, ⟨List.nodup_nil, nofun⟩, ⟨List.nodup_nil, fun t r => ?_⟩, agrees, due⟩
  · rw [State.reset_ch]
    exact ChannelEngine.reset_ok
  · rw [State.reset_row]
    exact Row.ok_of_check (by decide)
  · rw [State.reset_row]
    simp [State.reset, Row.free]

theorem ChannelEngine.reset_fields :
    ChannelEngine.reset.lineRate = 500 ∧ ChannelEngine.reset.slotBits = 64 ∧ ChannelEngine.reset.own = 0 ∧
      ChannelEngine.reset.replyWindowSlots = 2 ∧ ChannelEngine.reset.passTimeoutSlots = 3 ∧
      ChannelEngine.reset.visitBudget = 4 ∧ ChannelEngine.reset.retryLimit = 3 ∧
      ChannelEngine.reset.errorRunLimit = 16 ∧ ChannelEngine.reset.joinInterval = 16 ∧
      ChannelEngine.reset.recoveryUnits = 100 ∧ ChannelEngine.reset.autoRecover = true := by decide

theorem State.reset_values : ResetValues State.reset := by
  obtain ⟨rate, slot, own, window, timeout, budget, retry, run, join, recovery, auto⟩ := ChannelEngine.reset_fields
  constructor
  case rows => exact State.reset_row
  case control => intro c; rw [State.reset_ch]; exact ⟨rfl, rfl, own, rate, slot, window, timeout, budget, retry,
    run, join,
    recovery, auto⟩
  case ring => intro c; rw [State.reset_ch]; exact ⟨rfl, rfl, rfl, rfl, rfl, rfl, rfl, rfl, rfl⟩
  case queues => intro c; rw [State.reset_ch]; exact ⟨rfl, rfl, rfl, rfl, rfl, rfl, rfl, rfl⟩
  case params => decide
  case results => decide
  case rotation => exact ⟨rfl, rfl⟩
  case command => exact ⟨rfl, rfl, rfl, rfl, rfl, rfl, rfl, rfl⟩
  case flags => exact ⟨rfl, rfl⟩
  all_goals rfl

/-- The values of a reset do not hang on the cause, the port's phase and the queue of commands. -/
theorem ResetValues.of_blocks {s : State} {port : Port} {cause : ResetCause} (h : ResetValues s)
    (flags : port.portError = false ∧ port.configRefused = false) (pending : List Instr) :
    ResetValues { s with resetCause := cause, port := port, pending := pending } :=
  { h with flags := flags }

theorem State.resetBlocks_values (s : State) (cause : ResetCause) (phase : PortPhase) :
    ResetValues (s.resetBlocks cause phase) := State.reset_values.of_blocks ⟨rfl, rfl⟩ _

/-- A word at GCTRL that carries the strobe resets the part. -/
theorem State.writeWord_softReset (s : State) (data : Word) {mask : Word} (strobe : bitAt mask 15 = true) :
    s.writeWord (some .global) 0x01 (data ||| 0x8000) mask = s.resetBlocks .soft .discarding := by
  have set : bitAt (formed (bitWord 0 s.attnEnable) (data ||| 0x8000) mask) 15 = true := by
    rw [bitAt_formed, if_pos strobe]
    simp [bitAt]
  simp only [State.writeWord, State.writeGlobal, if_true, set]

/-- SOFT_RESET in a transaction that writes to GCTRL: the reset, with what SDO carried. -/
theorem State.softReset_of_open {s : State} {op : PortOp} (writes : op.writes = true)
    (isOpen : s.wordOpen op (some .global) 0x01) (data mask : Word) :
    ∃ out, exec (.softReset data mask) s = .next ((s.resetBlocks .soft .discarding).portTo .discarding out) := by
  have taken (f : State → State) := State.wordOn_of_open isOpen (p := Page.isGlobal) rfl f
  have strobe : bitAt (mask ||| 0x8000) 15 = true := by simp [bitAt]
  have full : bitAt (BitVec.allOnes 16 : Word) 15 = true := by decide
  refine ⟨s.port.addressOut ++ if op = .write then [0, 0] else [0, 0, 0, 0], congrArg Host.Outcome.next
    ((taken _).trans ?_)⟩
  unfold State.portWrite
  rw [State.wordAt_of_open isOpen]
  cases op with
  | write =>
    simp only [show (0x01 : Byte).toNat = 0x01 from rfl, State.writeWord_softReset s data full]
    rfl
  | maskedWrite =>
    simp only [show (0x01 : Byte).toNat = 0x01 from rfl, State.writeWord_softReset s data strobe]
    rfl
  | read => cases writes
  | compare => cases writes

/-- Settles O2: both resets put every block at its reset value (`State.reset_values`). -/
theorem resetsLeaveResetValues : Obligations.ResetsLeaveResetValues := by
  refine ⟨fun s selLow => ⟨_, rfl, s.resetBlocks_values _ _, rfl, rfl, rfl⟩, fun s op data mask writes isOpen => ?_,
    State.reset_values, rfl, rfl⟩
  obtain ⟨out, done⟩ := State.softReset_of_open writes isOpen data mask
  exact ⟨_, done, State.reset_values.of_blocks ⟨rfl, rfl⟩ _, rfl, rfl, rfl⟩

/-! ### The status byte (R180) -/

/-- The three flags of the status byte that are sums of bits 7 to 3. -/
theorem statusBits (attn busy error refused overrun : Bool) :
    ∃ b : Byte, b = BitVec.ofNat 8 ((if attn then 128 else 0) + (if busy then 64 else 0) + (if error then 32 else 0) +
        (if refused then 16 else 0) + (if overrun then 8 else 0) + 5) ∧
      b.getLsbD 7 = attn ∧ b.getLsbD 6 = busy ∧ b.getLsbD 5 = error ∧ b.getLsbD 4 = refused ∧ b.getLsbD 3 = overrun ∧
      b.getLsbD 2 = true ∧ b.getLsbD 1 = false ∧ b.getLsbD 0 = true := by
  refine ⟨_, rfl, ?_⟩
  revert attn busy error refused overrun
  decide

theorem State.statusByte_bits (s : State) :
    s.statusByte.getLsbD 7 = s.attn ∧ s.statusByte.getLsbD 6 = decide (s.cu.phase = .busy) ∧
      s.statusByte.getLsbD 5 = s.port.portError ∧ s.statusByte.getLsbD 4 = s.port.configRefused ∧
      s.statusByte.getLsbD 3 = s.cu.overrun ∧ s.statusByte.getLsbD 2 = true ∧ s.statusByte.getLsbD 1 = false ∧
      s.statusByte.getLsbD 0 = true := by
  obtain ⟨b, e, bits⟩ := statusBits s.attn (decide
    (s.cu.phase = .busy)) s.port.portError s.port.configRefused s.cu.overrun
  have same : s.statusByte = b := by
    rw [e]
    simp [State.statusByte]
  rw [same]
  exact bits

theorem State.selRose_portError (s : State) :
    s.selRose.port.portError = true ↔ s.port.portError = true ∨ s.port.midWord := by
  unfold State.selRose Port.midWord
  cases s.port.phase <;> simp [State.setPortError]

theorem State.selRose_frame (s : State) : ∃ error, s.selRose = { s with port := { s.port with portError :=
    error } } := by
  unfold State.selRose
  split
  · exact ⟨true, rfl⟩
  · exact ⟨s.port.portError, rfl⟩

theorem State.selRose_attn (s : State) : s.selRose.attn = s.attn := by
  obtain ⟨error, h⟩ := s.selRose_frame
  rw [h]
  rfl

theorem controlOp_iff (control : Byte) :
    (controlOp control = .read ↔ control.toNat / 64 = 0) ∧ (controlOp control = .write ↔ control.toNat / 64 = 1) ∧
      (controlOp control = .maskedWrite ↔ control.toNat / 64 = 2) ∧
      (controlOp control = .compare ↔ control.toNat / 64 = 3) := by
  have low := control.isLt
  have small : control.toNat / 64 < 4 := by omega
  unfold controlOp
  interval_cases control.toNat / 64 <;> simp

theorem controlPage_iff (control : Byte) :
    (controlPage control = some .global ↔ control.toNat / 8 % 8 = 0) ∧
      (∀ c : Channel, controlPage control = some (.ch c) ↔ control.toNat / 8 % 8 = c.val + 1) ∧
      (controlPage control = some .allChannels ↔ control.toNat / 8 % 8 = 5) := by
  have small : control.toNat / 8 % 8 < 8 := Nat.mod_lt _ (by decide)
  unfold controlPage
  interval_cases control.toNat / 8 % 8 <;> simp [Fin.forall_fin_succ]

theorem effectivePage_iff (op : PortOp) (page : Option Page) :
    (effectivePage op page = some .global ↔ page = some .global) ∧
      (∀ c : Channel, effectivePage op page = some (.ch c) ↔ page = some (.ch c)) ∧
      (effectivePage op page = some .allChannels ↔ page = some .allChannels ∧ op.writes = true) := by
  cases page with
  | none => cases op <;> simp [effectivePage]
  | some page => cases op <;> cases page <;> simp [effectivePage, PortOp.writes]

/-- Settles O4: the byte's bits (`State.statusByte_bits`), the flag of a CHnEVENT word cut off
(`State.selRose_portError`), and the control byte's fields. -/
theorem statusByteReportsAndClears : Obligations.StatusByteReportsAndClears := by
  intro s control
  obtain ⟨b7, b6, b5, b4, b3, low⟩ := s.selRose.statusByte_bits
  obtain ⟨error, frame⟩ := s.selRose_frame
  have cu : s.selRose.cu = s.cu := by rw [frame]
  have refused : s.selRose.port.configRefused = s.port.configRefused := by rw [frame]
  obtain ⟨read, write, masked, compare⟩ := controlOp_iff control
  obtain ⟨global, channel, all⟩ := controlPage_iff control
  obtain ⟨global', channel', all'⟩ := effectivePage_iff (controlOp control) (controlPage control)
  refine ⟨_, rfl, rfl, ⟨s.selRose.statusByte, rfl, by rw [b7, s.selRose_attn], by rw [b6, cu],
    by rw [b5]; exact s.selRose_portError, by rw [b4, refused], by rw [b3, cu], low⟩, rfl, _, _, rfl, read, write,
      masked,
    compare, global'.trans global, fun c => (channel' c).trans (channel c), all'.trans (and_congr_left' all), ?_⟩
  rw [← s.selRose_portError]
  simp [Option.isNone_iff_eq_none]

/-! ### The end of a transaction (R179, R187) -/

theorem portBits_getElem? (b : Byte) {i : Nat} (h : i < 8) :
    (portBits b)[i]? = some (if b.getLsbD (7 - i) then .high else .low) := by
  interval_cases i <;> rfl

theorem flatMap_portBits_length (l : List Byte) : (l.flatMap portBits).length = 8 * l.length := by
  simp [List.length_flatMap, mul_comm]

theorem flatMap_portBits_getElem? {l : List Byte} {n i : Nat} {b : Byte} (byte : l[n]? = some b) (h : i < 8) :
    (l.flatMap portBits)[8 * n + i]? = some (if b.getLsbD (7 - i) then .high else .low) := by
  induction l generalizing n with
  | nil => simp at byte
  | cons x l ih =>
    rw [List.flatMap_cons]
    cases n with
    | zero =>
      simp only [List.getElem?_cons_zero, Option.some.injEq] at byte
      subst byte
      rw [List.getElem?_append_left (by simp; omega)]
      simpa using portBits_getElem? x h
    | succ n =>
      rw [List.getElem?_append_right (by simp; omega)]
      have rest : 8 * (n + 1) + i - (portBits x).length = 8 * n + i := by simp; omega
      rw [rest]
      exact ih (by simpa using byte)

/-- What SEL rising leaves, where the phase and the clocks say whether it ends inside a piece. -/
theorem exec_endInside {s : State} {bits : Nat} {inside : Bool} (h : endsInside s.port.phase bits = some inside) :
    exec (.endInsideTransaction bits) s = .next { s with port := s.port.ended bits inside } := by
  simp [exec, execEndInsideTransaction, h]

theorem exec_endInside_none {s : State} {bits : Nat} (h : endsInside s.port.phase bits = none) :
    exec (.endInsideTransaction bits) s = .next s := by
  simp [exec, execEndInsideTransaction, h]

/-- The port after SEL has risen, by the phase it stood in. -/
theorem Port.ended_shiftedOut (p : Port) (bits : Nat) (inside : Bool) :
    (p.ended bits inside).shiftedOut = if 8 ≤ bits ∧ p.lead ≠ [] then p.lead else p.shiftedOut := by
  rw [Port.ended, Port.addressOut_eq_lead]

end Sys2Proof.Machine
end

section
/-! PROOFS. The end of a transaction and the words of the port (O5 to O7, O9 to O11). -/

namespace Sys2Proof.Machine

set_option Elab.async false

/-! ### The end of a transaction (R179, R187) -/

theorem endsInside_addressNext (op : PortOp) (page : Option Page) (bits : Nat) :
    endsInside (.addressNext op page) bits =
      if bits < 8 + op.dataClocks then some (bits ≠ 0 && bits ≠ 8) else none := by
  cases op <;> rfl

/-- The port after SEL has risen: as it was, where so many clocks cannot have come; else ended. -/
def Port.risen (p : Port) (bits : Nat) : Port :=
  match endsInside p.phase bits with
  | some inside => p.ended bits inside
  | none => p

theorem exec_rise (s : State) (bits : Nat) :
    exec (.endInsideTransaction bits) s = .next { s with port := s.port.risen bits } := by
  unfold Port.risen
  cases h : endsInside s.port.phase bits with
  | some inside => exact exec_endInside h
  | none => exact exec_endInside_none h

section
variable {p : Port} {bits : Nat}

theorem Port.risen_of_some {inside : Bool} (h : endsInside p.phase bits = some inside) :
    p.risen bits = p.ended bits inside := by simp [Port.risen, h]

/-- SEL rises at a boundary. -/
theorem Port.risen_boundary (h : endsInside p.phase bits = some false) :
    (p.risen bits).phase = .deselected ∧ (p.risen bits).portError = p.portError := by
  rw [Port.risen_of_some h]
  exact ⟨rfl, Bool.or_false _⟩

/-- SEL rises inside a piece. -/
theorem Port.risen_inside (h : endsInside p.phase bits = some true) :
    (p.risen bits).phase = .deselected ∧ (p.risen bits).portError = true := by
  rw [Port.risen_of_some h]
  exact ⟨rfl, Bool.or_true _⟩

theorem Port.risen_frame (p : Port) (bits : Nat) :
    { p.risen bits with phase := p.phase, portError := p.portError, shiftedOut := p.shiftedOut } = p := by
  unfold Port.risen
  split <;> rfl

theorem Port.risen_kept (h : ¬ (8 ≤ bits ∧ p.lead ≠ [])) : (p.risen bits).shiftedOut = p.shiftedOut := by
  unfold Port.risen
  split
  · rw [Port.ended_shiftedOut, if_neg h]
  · rfl

end

/-- Settles O5: the levels of SDO are those of its bytes, and the end of a transaction is `Port.risen`, phase by
phase. -/
theorem endOfTransaction : Obligations.EndOfTransaction := by
  refine ⟨fun s => ⟨fun off => ?_, fun on => ?_⟩, fun s bits => ?_⟩
  · rw [State.pins_sdo, Port.sdo_deselected off]
  · refine ⟨_, (State.pins_sdo s).trans (if_pos (by simp [Port.selLow, on])), flatMap_portBits_length _, ?_⟩
    exact fun n i b byte small => flatMap_portBits_getElem? byte small
  · refine ⟨_, exec_rise s bits, rfl, Port.risen_frame _ _, fun phase => ⟨fun none => ?_, fun some few => ?_⟩,
      fun other => ?_, fun op page phase => ⟨fun few => ?_, fun address few => ?_, fun edge => ?_, fun within => ?_⟩,
      fun op page a phase => ⟨fun none => ?_, fun some few => ?_⟩, fun mid some few => ?_,
      fun phase => ⟨?_, fun none => ?_, fun some => ?_⟩, fun phase => ?_⟩
    · have ends : endsInside s.port.phase bits = .some false := by simp [phase, endsInside, none]
      have lead : s.port.lead = [] := by simp [Port.lead, phase]
      have same : s.port.risen bits = s.port := by
        rw [Port.risen_of_some ends, Port.ended, Port.addressOut_eq_lead, lead]
        simp [← phase]
      simp [same]
    · exact Port.risen_inside (by simp [phase, endsInside, few]; omega)
    · refine Port.risen_kept ?_
      unfold Port.lead
      cases phase : s.port.phase <;> simp
      exact (other _ _ phase).elim
    · exact Port.risen_kept fun h => by omega
    · have ends : endsInside s.port.phase bits = some (bits ≠ 0 && bits ≠ 8) := by
        rw [phase, endsInside_addressNext, if_pos few]
      have lead : s.port.lead = [0] := by simp [Port.lead, phase]
      simp only [Port.risen_of_some ends, Port.ended_shiftedOut, lead, address]
      rfl
    · refine Port.risen_boundary ?_
      rw [phase, endsInside_addressNext, if_pos (by cases op <;> simp [PortOp.dataClocks] <;> omega)]
      obtain e | e := edge <;> simp [e]
    · refine Port.risen_inside ?_
      rw [phase, endsInside_addressNext, if_pos (by cases op <;> simp [PortOp.dataClocks] at within ⊢ <;> omega)]
      simp
      omega
    · exact Port.risen_boundary (by simp [phase, endsInside, none])
    · exact Port.risen_inside (by simp [phase, endsInside, few]; omega)
    · obtain ⟨c, taken, phase⟩ := mid
      exact Port.risen_inside (by simp [phase, endsInside, few]; omega)
    · have ends : endsInside s.port.phase bits = .some (decide (bits ≠ 0)) := by simp [phase, endsInside]
      rw [Port.risen_of_some ends]
      rfl
    · exact (Port.risen_boundary (by simp [phase, endsInside, none])).2
    · exact (Port.risen_inside (by simp [phase, endsInside]; omega)).2
    · exact Port.risen_boundary (by simp [phase, endsInside])

/-! ### Parameter words (R158) -/

theorem Vector.getD_toList {n : Nat} {α : Type} (v : Vector α n) (k : Nat) (h : k < n) (d : α) :
    v.toList.getD k d = v[k] := by
  simp [List.getD, h]

/-- A word at a parameter is formed with the word that stands there, and stored. -/
theorem State.writeWord_param (s : State) (addr : Nat) (data mask : Word) (k : Fin 16) (at_k : addr = 0x10 + k.val) :
    s.writeWord (some .global) addr data mask = { s with cu := { s.cu with
      params := s.cu.params.set k.val (formed s.cu.params[k] data mask) } } := by
  have small := k.isLt
  have range : 0x10 ≤ addr ∧ addr ≤ 0x1F := by omega
  have index : addr - 0x10 = k.val := by omega
  simp only [State.writeWord, State.writeGlobal, if_neg (show addr ≠ 0x01 by omega), dif_pos range, index,
    Vector.getD_toList _ _ small]
  rfl

/-- Settles O6: `State.writeWord_param` and the bits of a formed word. -/
theorem paramWordIsStored : Obligations.ParamWordIsStored := by
  intro s op addr data mask k writes isOpen address
  have stored := State.portWrite_of_open writes isOpen data mask
    (State.writeWord_param s addr.toNat data (wordMask op mask) k address) rfl
  refine ⟨_, congrArg Host.Outcome.next stored, rfl, rfl, rfl, fun j ne => ?_, fun b _ => ?_⟩
  · have values : j.val ≠ k.val := fun same => ne (Fin.ext same)
    exact Vector.getElem_set_ne k.isLt j.isLt (Ne.symm values)
  · have own : (s.cu.params.set k.val (formed s.cu.params[k] data (wordMask op mask)))[k] =
        formed s.cu.params[k] data (wordMask op mask) := Vector.getElem_set_self _
    refine (congrArg (fun w : Word => w.getLsbD b) own).trans ?_
    exact bitAt_formed _ data _ b

/-! ### Words that are not written (R184, R185, R188) -/

theorem channelWritable_iff (addr : Nat) : channelWritable addr = true ↔ channelWordWritable addr := by
  simp [channelWritable, channelWordWritable]

/-- A word at a page's address that is not writable sets PORT_ERROR, on no page nothing. -/
theorem State.writeWord_discarded (s : State) (page : Option Page) (addr : Nat) (data mask : Word)
    (h : ∀ p, page = some p → match p with
      | .global => ¬ globalWritable addr
      | _ => ¬ channelWordWritable addr) :
    s.writeWord page addr data mask = { s with port := { s.port with portError :=
      s.port.portError || page.isSome } } := by
  cases page with
  | none => simp [State.writeWord]
  | some p =>
    have out := h p rfl
    have marked : ({ s with port := { s.port with portError := s.port.portError || (some p).isSome } } : State) =
        s.setPortError := by simp [State.setPortError]
    rw [marked]
    cases p with
    | global =>
      simp only [globalWritable, not_or] at out
      simp only [State.writeWord, State.writeGlobal, if_neg out.1, dif_neg (show ¬
        (0x10 ≤ addr ∧ addr ≤ 0x1F) by omega),
        if_neg (show addr ≠ 0x20 by omega)]
    | ch c =>
      have off : ¬ channelWritable addr = true := mt (channelWritable_iff addr).1 out
      simp [State.writeWord, off]
    | allChannels =>
      have off : ¬ channelWritable addr = true := mt (channelWritable_iff addr).1 out
      simp [State.writeWord, off]

theorem Port.written_of_error (p : Port) (op : PortOp) (page : Option Page) (addr : Byte) (error : Bool) :
    ({ p with portError := error } : Port).written op page addr = { p.written op page addr with portError :=
      error } := by
  unfold Port.written
  split <;> rfl

/-- Settles O7: no owner takes the word (`State.writeWord_discarded`). -/
theorem writeWithNoWritableWordIsDiscarded : Obligations.WriteWithNoWritableWordIsDiscarded := by
  intro s op page addr data mask writes isOpen unwritable
  have done := State.portWrite_of_open writes isOpen data mask
    (State.writeWord_discarded s page addr.toNat data (wordMask op mask) unwritable) rfl
  exact ⟨_, congrArg Host.Outcome.next done, rfl, Port.written_of_error _ _ _ _ _⟩

/-! ### COMPARE (R186) -/

theorem wordBytes_append (w : Word) :
    ∃ hi lo : Byte, wordBytes w = [hi, lo] ∧ w = hi ++ lo := by
  refine ⟨_, _, rfl, ?_⟩
  apply BitVec.eq_of_toNat_eq
  have small := w.isLt
  rw [BitVec.toNat_append, ← Nat.shiftLeft_add_eq_or_of_lt (BitVec.isLt _), Nat.shiftLeft_eq, BitVec.toNat_ofNat,
    BitVec.toNat_ofNat]
  omega

theorem compareByte_cases (w expected mask : Word) :
    (compareByte w expected mask = 1 ∨ compareByte w expected mask = 0) ∧
      (compareByte w expected mask = 1 ↔ ∀ b, b < 16 → mask.getLsbD b = true → w.getLsbD b = expected.getLsbD b) := by
  have agree : (w ^^^ expected) &&& mask = 0 ↔
      ∀ b, b < 16 → mask.getLsbD b = true → w.getLsbD b = expected.getLsbD b := by
    rw [BitVec.eq_of_getLsbD_eq_iff]
    refine forall₂_congr fun b _ => ?_
    have zero : (0 : Word).getLsbD b = false := by simp
    rw [BitVec.getLsbD_and, BitVec.getLsbD_xor, zero]
    generalize mask.getLsbD b = m, w.getLsbD b = x, expected.getLsbD b = y
    revert m x y
    decide
  unfold compareByte
  split
  · next same => exact ⟨.inl rfl, by simpa using agree.1 same⟩
  · next differ => exact ⟨.inr rfl, by simpa using mt agree.2 differ⟩

/-- Settles O9: `State.portCompare` on the page of the open transaction, with or without a word behind the address. -/
theorem compareAnswers : Obligations.CompareAnswers := by
  intro s page addr expected mask isOpen
  have found := State.wordAt_of_open isOpen
  cases page with
  | none =>
    have done : s.portCompare addr expected mask = s.portTo .finished (s.port.lead ++ [0, 0, 0, 0, 0]) := by
      simp [State.portCompare, found, Port.addressOut_eq_lead]
    exact ⟨_, congrArg Host.Outcome.next done, rfl, rfl, rfl, nofun, nofun, fun _ => ⟨rfl, rfl⟩⟩
  | some page =>
    cases word : s.readWord page addr.toNat with
    | none =>
      have done : s.portCompare addr expected mask =
          s.setPortError.portTo .finished (s.port.lead ++ [0, 0, 0, 0, 0]) := by
        simp [State.portCompare, found, word, Port.addressOut_eq_lead]
      refine ⟨_, congrArg Host.Outcome.next done, rfl, rfl, rfl, fun p w same read => ?_, fun p _ _ => ⟨rfl, rfl⟩,
        nofun⟩
      cases same
      rw [word] at read
      cases read
    | some w =>
      obtain ⟨hi, lo, bytes, whole⟩ := wordBytes_append w
      have done : s.portCompare addr expected mask =
          s.portTo .finished (s.port.lead ++ [hi, lo, 0, 0, compareByte w expected mask]) := by
        simp [State.portCompare, found, word, Port.addressOut_eq_lead, bytes]
      refine ⟨_, congrArg Host.Outcome.next done, rfl, rfl, rfl, fun p v same read => ?_, fun p same read => ?_, nofun⟩
      · cases same
        rw [word] at read
        cases read
        exact ⟨rfl, hi, lo, _, rfl, whole, compareByte_cases w expected mask⟩
      · cases same
        rw [word] at read
        cases read

end Sys2Proof.Machine
end

section
/-! PROOFS. What the words of every page read (O3, O10), and the event word (O11). -/

namespace Sys2Proof.Machine

set_option Elab.async false

/-! ### Fields of a word -/

theorem placed_toNat (n low : Nat) : (placed n low).toNat = n * 2 ^ low % 65536 := BitVec.toNat_ofNat _ _

theorem bitWord_toNat {k : Nat} (h : k < 16) (b : Bool) : (bitWord k b).toNat = if b then 2 ^ k else 0 := by
  unfold bitWord
  have small : 2 ^ k < 2 ^ 16 := Nat.pow_lt_pow_right (by decide) h
  cases b
  · rfl
  · simpa using small

/-- A field joined below fields that end in zeros adds to them. -/
theorem or_toNat_of_low {a b : Word} (i : Nat) (high : a.toNat % 2 ^ i = 0) (low : b.toNat < 2 ^ i) :
    (a ||| b).toNat = a.toNat + b.toNat := by
  have split : a.toNat = a.toNat / 2 ^ i * 2 ^ i := by
    have := Nat.div_add_mod a.toNat (2 ^ i)
    rw [high, Nat.add_zero, mul_comm] at this
    exact this.symm
  rw [BitVec.toNat_or, split, ← Nat.shiftLeft_eq, Nat.shiftLeft_add_eq_or_of_lt low]

theorem bitWord_zero (b : Bool) : bitWord 0 b = if b then 1 else 0 := by cases b <;> rfl

/-! ### The global page (R190, R195, R198) -/

theorem State.gstat_toNat {s : State} (h : s.AttentionOk) :
    s.gstat.toNat = (if s.resetCause = .soft then 32768 else 0) + s.attention.length := by
  have few : s.attention.length ≤ 256 := by
    have nodup := h.once.length_le_card
    rwa [List.length_map, Fintype.card_fin] at nodup
  have list : (placed s.attention.length 0).toNat = s.attention.length := by
    rw [placed_toNat]
    omega
  have cause := bitWord_toNat (k := 15) (by decide) (decide (s.resetCause = .soft))
  rw [State.gstat, or_toNat_of_low 15 (by rw [cause]; split <;> rfl) (by rw [list]; omega), cause, list]
  simp

theorem phaseCodes_code (p : CommandPhase) : (p, p.code) ∈ phaseCodes ∧ p.code < 4 := by cases p <;> decide

theorem resultCodes_code (r : ResultCode) : (r, r.code) ∈ resultCodes ∧ r.code < 16 := by cases r <;> decide

theorem CommandUnit.stat_toNat (cu : CommandUnit) :
    cu.stat.toNat =
      256 * cu.rowNumber.toNat + (if cu.overrun then 128 else 0) + 4 * cu.resultCode.code + cu.phase.code := by
  obtain ⟨_, phase⟩ := phaseCodes_code cu.phase
  obtain ⟨_, code⟩ := resultCodes_code cu.resultCode
  have byte := cu.rowNumber.isLt
  have row : (placed cu.rowNumber.toNat 8).toNat = 256 * cu.rowNumber.toNat := by rw [placed_toNat]; omega
  have flag := bitWord_toNat (k := 7) (by decide) cu.overrun
  have result : (placed cu.resultCode.code 2).toNat = 4 * cu.resultCode.code := by rw [placed_toNat]; omega
  have last : (placed cu.phase.code 0).toNat = cu.phase.code := by rw [placed_toNat]; omega
  have first : (placed cu.rowNumber.toNat 8 ||| bitWord 7 cu.overrun).toNat =
      256 * cu.rowNumber.toNat + if cu.overrun then 128 else 0 := by
    rw [or_toNat_of_low 8 (by rw [row]; omega) (by rw [flag]; split <;> decide), row, flag]
    rfl
  have second : (placed cu.rowNumber.toNat 8 ||| bitWord 7 cu.overrun ||| placed cu.resultCode.code 2).toNat =
      256 * cu.rowNumber.toNat + (if cu.overrun then 128 else 0) + 4 * cu.resultCode.code := by
    rw [or_toNat_of_low 7 (by rw [first]; split <;> omega) (by rw [result]; omega), first, result]
  rw [CommandUnit.stat, or_toNat_of_low 2 (by rw [second]; split <;> omega) (by rw [last]; omega), second, last]

theorem State.readGlobal_params (s : State) (k : Fin 16) : s.readGlobal (0x10 + k.val) = some s.cu.params[k] := by
  have small := k.isLt
  rw [State.readGlobal, if_neg (by omega), if_neg (by omega), if_neg (by omega), if_pos (by omega),
    Nat.add_sub_cancel_left, Vector.getD_toList _ _ small]
  rfl

theorem State.readGlobal_results (s : State) (k : Fin 16) : s.readGlobal (0x22 + k.val) = some s.cu.results[k] := by
  have small := k.isLt
  rw [State.readGlobal, if_neg (by omega), if_neg (by omega), if_neg (by omega), if_neg (by omega), if_neg (by omega),
    if_neg (by omega), if_pos (by omega), Nat.add_sub_cancel_left, Vector.getD_toList _ _ small]
  rfl

theorem State.readGlobal_absent (s : State) {a : Nat} (h : ¬ globalWord a) : s.readGlobal a = none := by
  simp only [globalWord, not_or] at h
  rw [State.readGlobal, if_neg (by omega), if_neg (by omega), if_neg (by omega), if_neg (by omega), if_neg (by omega),
    if_neg (by omega), if_neg (by omega)]

theorem State.globalReads (s : State) : GlobalReads s (s.readWord .global) where
  ident := rfl
  gctrl := congrArg some (bitWord_zero s.attnEnable)
  gstat ok := ⟨_, rfl, State.gstat_toNat ok⟩
  params := s.readGlobal_params
  cmdcode := rfl
  cmdstat := ⟨_, _, _, rfl, (phaseCodes_code _).1, (resultCodes_code _).1, s.cu.stat_toNat⟩
  results := s.readGlobal_results
  absent _ := s.readGlobal_absent

/-! ### A channel page (R194, R196) -/

theorem stateCodes_code (st : ChState) : (st, st.code) ∈ stateCodes ∧ st.code < 16 := by cases st <;> decide

theorem ChannelEngine.stateWord_toNat {ce : ChannelEngine} (ok : ce.Ok) :
    ce.stateWord.toNat = 1024 * ce.pendingCount + (if ce.inFlight = none then 0 else 512) + 16 * ce.errorRun +
      ce.state.code := by
  obtain ⟨_, state⟩ := stateCodes_code ce.state
  have full : ce.pendingCount ≤ 24 := (Nat.le_add_right _ _).trans ok.reservations
  have run := ok.errorRun
  have pending : (placed ce.pendingCount 10).toNat = 1024 * ce.pendingCount := by rw [placed_toNat]; omega
  have flying : (bitWord 9 ce.inFlight.isSome).toNat = if ce.inFlight = none then 0 else 512 := by
    rw [bitWord_toNat (by decide)]
    cases ce.inFlight <;> rfl
  have errors : (placed ce.errorRun 4).toNat = 16 * ce.errorRun := by rw [placed_toNat]; omega
  have last : (placed ce.state.code 0).toNat = ce.state.code := by rw [placed_toNat]; omega
  have first : (placed ce.pendingCount 10 ||| bitWord 9 ce.inFlight.isSome).toNat =
      1024 * ce.pendingCount + if ce.inFlight = none then 0 else 512 := by
    rw [or_toNat_of_low 10 (by rw [pending]; omega) (by rw [flying]; split <;> decide), pending, flying]
  have second : (placed ce.pendingCount 10 ||| bitWord 9 ce.inFlight.isSome ||| placed ce.errorRun 4).toNat =
      1024 * ce.pendingCount + (if ce.inFlight = none then 0 else 512) + 16 * ce.errorRun := by
    rw [or_toNat_of_low 9 (by rw [first]; split <;> omega) (by rw [errors]; omega), first, errors]
  rw [ChannelEngine.stateWord, or_toNat_of_low 4 (by rw [second]; split <;> omega) (by rw [last]; omega), second, last]

theorem bitWord_getLsbD {k j : Nat} (h : k < 16) : (bitWord k true).getLsbD j = decide (k = j) := by
  have bit : bitWord k true = BitVec.twoPow 16 k := by
    unfold bitWord
    exact BitVec.eq_of_toNat_eq (by simp [BitVec.toNat_twoPow])
  rw [bit, BitVec.getLsbD_twoPow]
  by_cases same : k = j
  · simp [same, same ▸ h]
  · simp [same]

/-- A station word has bit k exactly for a listed station that many places above its first. -/
theorem stationWord_getLsbD (l : List Nat) (first : Nat) {k : Nat} (h : k < 16) :
    (stationWord l first).getLsbD k = true ↔ first + k ∈ l := by
  have fold (ks : List Nat) (small : ∀ j ∈ ks, j < 16) (w : Word) :
      (ks.foldl (fun w k => if l.contains (first + k) then w ||| bitWord k true else w) w).getLsbD k = true ↔
        w.getLsbD k = true ∨ k ∈ ks ∧ first + k ∈ l := by
    induction ks generalizing w with
    | nil => simp
    | cons j ks ih =>
      have here : j < 16 := small j List.mem_cons_self
      rw [List.foldl_cons, ih fun i mem => small i (List.mem_cons_of_mem _ mem)]
      by_cases own : j = k
      · subst own
        by_cases mem : first + j ∈ l <;> simp [mem, bitWord_getLsbD here]
      · by_cases mem : first + j ∈ l <;> simp [mem, bitWord_getLsbD here, own, Ne.symm own]
  rw [stationWord, fold _ fun j mem => List.mem_range.1 mem]
  simp [h]

theorem getLsbD_widened (flags : BitVec 9) (k : Nat) : (flags.setWidth 16).getLsbD k = flags.getLsbD k := by
  rw [BitVec.getLsbD_setWidth]
  cases bit : flags.getLsbD k with
  | false => simp
  | true =>
    have small := BitVec.lt_of_getLsbD bit
    simp
    omega

theorem ChannelEngine.readWord_absent (ce : ChannelEngine) {a : Nat} (h : ¬ channelWord a) : ce.readWord a = none := by
  unfold ChannelEngine.readWord
  split
  case h_17 => rfl
  all_goals exact absurd (by simp [channelWord]) h

theorem ChannelEngine.channelReads (ce : ChannelEngine) : ChannelReads ce ce.readWord where
  control := congrArg some (bitWord_zero ce.enable)
  cfgA := by
    refine ⟨_, rfl, rfl, ?_, ?_, ?_⟩
    · have := ce.cfgA.isLt
      simp only [ChannelEngine.slotBits, field]
      omega
    · simp [ChannelEngine.lineRate, field]
    · simp only [ChannelEngine.own, field, BitVec.toNat_ofNat]
      omega
  cfgB := by
    have := ce.cfgB.isLt
    refine ⟨_, rfl, rfl, rfl, rfl, rfl, ?_⟩
    simp [ChannelEngine.replyWindowSlots, field]
  cfgCFirst := by
    refine ⟨_, rfl, rfl, ?_, rfl, ?_⟩
    · have small := ce.cfgC1.isLt
      have bit : ce.autoRecover = ce.cfgC1.toNat.testBit 15 := rfl
      rw [bit, Nat.testBit_eq_decide_div_mod_eq, decide_eq_true_eq]
      omega
    · simp [ChannelEngine.joinInterval, field]
  cfgCSecond := ⟨_, rfl, rfl, by simp [ChannelEngine.recoveryUnits, field]⟩
  state ok := ⟨_, _, rfl, (stateCodes_code _).1, ce.stateWord_toNat ok⟩
  event := ⟨_, rfl, getLsbD_widened ce.event⟩
  enables := ⟨_, rfl, getLsbD_widened ce.eventEnable⟩
  stations _ := ⟨_, _, rfl, rfl, fun k small =>
    ⟨by simpa using stationWord_getLsbD ce.stationList 0 small, stationWord_getLsbD ce.stationList 16 small⟩⟩
  counters := ⟨rfl, rfl, rfl, rfl, rfl, rfl⟩
  absent _ := ce.readWord_absent

/-! ### READ (R179, R183) -/

theorem channelWord_iff (ce : ChannelEngine) (a : Nat) : channelWord a ↔ ∃ w, ce.readWord a = some w := by
  refine ⟨fun word => ?_, fun ⟨w, read⟩ => ?_⟩
  · obtain low | ⟨low, high⟩ := word
    · interval_cases a <;> exact ⟨_, rfl⟩
    · interval_cases a <;> exact ⟨_, rfl⟩
  · by_contra none
    rw [ce.readWord_absent none] at read
    cases read

theorem globalWord_iff (s : State) (a : Nat) : globalWord a ↔ ∃ w, s.readGlobal a = some w := by
  refine ⟨fun word => ?_, fun ⟨w, read⟩ => ?_⟩
  · obtain low | ⟨low, high⟩ := word
    · interval_cases a <;> exact ⟨_, rfl⟩
    · obtain param | code | stat | result : a ≤ 0x1F ∨ a = 0x20 ∨ a = 0x21 ∨ 0x22 ≤ a := by omega
      · have read := s.readGlobal_params ⟨a - 0x10, by omega⟩
        rw [Nat.add_sub_cancel' low] at read
        exact ⟨_, read⟩
      · exact ⟨_, by rw [code]; rfl⟩
      · exact ⟨_, by rw [stat]; rfl⟩
      · have read := s.readGlobal_results ⟨a - 0x22, by omega⟩
        rw [Nat.add_sub_cancel' result] at read
        exact ⟨_, read⟩
  · by_contra none
    rw [s.readGlobal_absent none] at read
    cases read

section
variable {s : State} {addr : Byte}

theorem State.portRead_nopage (isOpen : s.wordOpen .read none addr) :
    s.portRead addr = s.readOn none addr (s.port.lead ++ [0, 0]) := by
  simp [State.portRead, State.wordAt_of_open isOpen, Port.addressOut_eq_lead]

theorem State.portRead_absent {page : Page} (isOpen : s.wordOpen .read (some page) addr)
    (word : s.readWord page addr.toNat = none) :
    s.portRead addr = s.setPortError.readOn (some page) addr (s.port.lead ++ [0, 0]) := by
  simp [State.portRead, State.wordAt_of_open isOpen, word, Port.addressOut_eq_lead]

theorem State.portRead_word {page : Page} (isOpen : s.wordOpen .read (some page) addr) {w : Word}
    (word : s.readWord page addr.toNat = some w) :
    s.portRead addr = (s.afterWord page addr.toNat).readOn (some page) addr (s.port.lead ++ wordBytes w) := by
  simp [State.portRead, State.wordAt_of_open isOpen, word, Port.addressOut_eq_lead]

/-- A page with no word behind an address, in the words of the statement. -/
theorem State.readWord_none_iff (s : State) (page : Page) (a : Nat) :
    s.readWord page a = none ↔ match page with
      | .global => ¬ globalWord a
      | .ch _ => ¬ channelWord a
      | .allChannels => True := by
  cases page with
  | global => rw [globalWord_iff s]; simp [State.readWord, Option.eq_none_iff_forall_not_mem]
  | ch c => rw [channelWord_iff (s.ch c)]; simp [State.readWord, Option.eq_none_iff_forall_not_mem]
  | allChannels => simp [State.readWord]

end

/-- Settles O10: the words (`State.globalReads`, `ChannelEngine.channelReads`), and a READ with no page, with no word
and
with a word behind the address. -/
theorem readShiftsWordsOut : Obligations.ReadShiftsWordsOut := by
  refine ⟨fun s => ⟨s.globalReads, fun c => (s.ch c).channelReads, fun _ => rfl⟩, fun s page addr isOpen => ?_⟩
  cases page with
  | none =>
    exact ⟨_, congrArg Host.Outcome.next (State.portRead_nopage isOpen), rfl, rfl, fun _ => rfl, fun _ => ⟨rfl, rfl⟩,
      nofun, nofun, fun h => by simp at h⟩
  | some page =>
    cases word : s.readWord page addr.toNat with
    | none =>
      have absent := (s.readWord_none_iff page addr.toNat).1 word
      refine ⟨_, congrArg Host.Outcome.next (State.portRead_absent isOpen word), rfl, rfl, fun _ => rfl, nofun,
        fun _ _ => ⟨rfl, rfl⟩, fun _ _ _ => ⟨rfl, rfl⟩, fun h => ?_⟩
      obtain ⟨same, on⟩ | ⟨c, same, on⟩ := h
      · cases same; exact absurd on absent
      · cases same; exact absurd on absent
    | some w =>
      have present : s.readWord page addr.toNat ≠ none := by simp [word]
      obtain ⟨hi, lo, bytes, whole⟩ := wordBytes_append w
      have port : (s.afterWord page addr.toNat).port = s.port := by unfold State.afterWord; split <;> rfl
      refine ⟨_, congrArg Host.Outcome.next (State.portRead_word isOpen word), rfl, ?_, fun other => ?_, nofun,
        fun same off => ?_, fun c same off => ?_, fun _ => ⟨?_, hi, lo, page, w, ?_, rfl, word, whole⟩⟩
      · rw [State.readOn, State.portTo, port]
      · have kept : s.afterWord page addr.toNat = s := s.afterWord_other fun c same at_event =>
          other c (congrArg some same) (BitVec.eq_of_toNat_eq at_event)
        rw [kept]
        rfl
      · cases same; exact absurd ((s.readWord_none_iff .global _).2 off) present
      · cases same; exact absurd ((s.readWord_none_iff (.ch c) _).2 off) present
      · rw [State.readOn, State.portTo, port]
      · rw [State.readOn, State.portTo, bytes]

/-! ### CHnEVENT (R113) -/

theorem State.clearReported_ch (s : State) (c : Channel) (reported : BitVec 9) :
    (s.clearReported c reported).ch c = { s.ch c with event := (s.ch c).event &&& ~~~ reported } := by
  simp [State.clearReported]

/-- Flags cleared on one channel change that channel alone. -/
theorem State.clearReported_only (s : State) (c : Channel) (reported : BitVec 9) :
    OnlyChannel c s (s.clearReported c reported) := ⟨State.updCh_restore s c _, .inl rfl⟩

theorem and_not_bit (flags reported : BitVec 9) (k : Nat) :
    (flags &&& ~~~ reported).getLsbD k = (flags.getLsbD k && !reported.getLsbD k) := by
  rw [BitVec.getLsbD_and, BitVec.getLsbD_not]
  cases bit : flags.getLsbD k with
  | false => rfl
  | true => simp [BitVec.lt_of_getLsbD bit]

/-- Settles O11: a READ at CHnEVENT returns the flags and clears just these (`State.clearReported`). -/
theorem eventReadClears : Obligations.EventReadClears := by
  refine ⟨fun s c i command isOpen => ?_, fun s c isOpen => ?_, fun s c taken phase => ?_, fun s isOpen => ?_⟩
  · obtain ⟨hi, lo, bytes, whole⟩ := wordBytes_append ((s.ch c).event.setWidth 16)
    have word : s.readWord (.ch c) (0x06 : Byte).toNat = some ((s.ch c).event.setWidth 16) := rfl
    have read : exec i s = .next (s.portRead 0x06) := by
      obtain e | e := command
      · subst e
        exact congrArg Host.Outcome.next (State.wordOn_of_open isOpen (p := Page.isChannel) rfl
          fun s => s.portRead 0x06)
      · subst e
        rfl
    rw [read, State.portRead_word isOpen word]
    refine ⟨_, rfl, ⟨hi, lo, ?_, whole⟩, rfl, rfl, ?_, State.clearReported_only s c _⟩
    · rw [State.readOn, State.portTo, bytes]
    · refine (State.clearReported_ch s c (s.ch c).event).trans ?_
      rw [BitVec.and_not_self]
  · have found := State.wordAt_of_open isOpen
    have taken := State.wordOn_of_open isOpen (p := Page.isChannel) rfl State.takeEvents
    refine ⟨_, congrArg Host.Outcome.next taken, ?_⟩
    rw [State.takeEvents, found]
    dsimp only
    rw [Port.addressOut_eq_lead]
    exact ⟨rfl, rfl⟩
  · obtain ⟨hi, lo, bytes, whole⟩ := wordBytes_append (taken.setWidth 16)
    have shifted : s.eventsShifted = (s.clearReported c taken).readOn (some (.ch c)) 0x06 [hi, lo] := by
      rw [State.eventsShifted, phase, ← bytes]
    have channel := State.clearReported_ch s c taken
    refine ⟨_, congrArg Host.Outcome.next shifted, ⟨hi, lo, rfl, whole⟩, rfl, rfl, fun k => ?_, ?_,
      State.clearReported_only s c _⟩
    · exact (congrArg (fun ce : ChannelEngine => ce.event.getLsbD k) channel).trans (and_not_bit _ _ k)
    · exact congrArg (fun ce : ChannelEngine => { ce with event := (s.ch c).event }) channel
  · exact ⟨_, congrArg Host.Outcome.next (State.portRead_nopage isOpen), rfl, rfl⟩

/-! ### The words after a reset (R195, R196) -/

/-- The words of the global page after a reset, by the cause. -/
theorem State.reset_reads {t : State} {gstat : Word} (cu : t.cu = CommandUnit.reset) (enable : t.attnEnable = false)
    (stat : t.gstat = gstat) (ch : ∀ c, t.ch c = ChannelEngine.reset) :
    (∀ a v, (a, v) ∈ [((0x00 : Nat), (0x4B60 : Word)), (0x01, 0), (0x02, gstat), (0x20, 0), (0x21, 0)] →
      t.readGlobal a = some v) ∧
    (∀ a, (0x10 ≤ a ∧ a ≤ 0x1F) ∨ (0x22 ≤ a ∧ a ≤ 0x31) → t.readGlobal a = some 0) ∧
    (∀ a, ¬ globalWord a → t.readGlobal a = none) ∧
    ∀ c,
      (∀ a v, (a, v) ∈ [((0x01 : Nat), (0x4020 : Word)), (0x02, 0x3432), (0x03, 0x9010), (0x04, 0x0064)] →
        (t.ch c).readWord a = some v) ∧
      (∀ a, a = 0x00 ∨ (0x05 ≤ a ∧ a ≤ 0x09) ∨ (0x10 ≤ a ∧ a ≤ 0x15) → (t.ch c).readWord a = some 0) ∧
      ∀ a, ¬ channelWord a → (t.ch c).readWord a = none := by
  refine ⟨fun a v mem => ?_, fun a range => ?_, fun a => t.readGlobal_absent, fun c => ⟨fun a v mem => ?_,
    fun a range => ?_, fun a => (t.ch c).readWord_absent⟩⟩
  · simp only [List.mem_cons, List.not_mem_nil, or_false, Prod.mk.injEq] at mem
    obtain ⟨rfl, rfl⟩ | ⟨rfl, rfl⟩ | ⟨rfl, rfl⟩ | ⟨rfl, rfl⟩ | ⟨rfl, rfl⟩ := mem
    · rfl
    · exact congrArg (fun b => some (bitWord 0 b)) enable
    · exact congrArg some stat
    · exact congrArg (fun cu : CommandUnit => some cu.code) cu
    · exact congrArg (fun cu : CommandUnit => some cu.stat) cu
  · obtain ⟨low, high⟩ | ⟨low, high⟩ := range
    · have read := t.readGlobal_params ⟨a - 0x10, by omega⟩
      rw [Nat.add_sub_cancel' low, cu] at read
      simpa [CommandUnit.reset] using read
    · have read := t.readGlobal_results ⟨a - 0x22, by omega⟩
      rw [Nat.add_sub_cancel' low, cu] at read
      simpa [CommandUnit.reset] using read
  · rw [ch]
    simp only [List.mem_cons, List.not_mem_nil, or_false, Prod.mk.injEq] at mem
    obtain ⟨rfl, rfl⟩ | ⟨rfl, rfl⟩ | ⟨rfl, rfl⟩ | ⟨rfl, rfl⟩ := mem <;> rfl
  · rw [ch]
    obtain rfl | ⟨low, high⟩ | ⟨low, high⟩ := range
    · rfl
    · interval_cases a <;> rfl
    · interval_cases a <;> rfl

theorem State.gstat_of_empty {t : State} {cause : ResetCause} (h : t.resetCause = cause) (empty : t.attention = []) :
    t.gstat = if cause = .soft then 0x8000 else 0 := by
  rw [State.gstat, h, empty]
  cases cause <;> decide

/-- Settles O3: the reset values, word by word (`State.reset_reads`). -/
theorem wordsAfterReset : Obligations.WordsAfterReset := by
  refine ⟨fun s selLow => ⟨_, rfl, State.reset_reads rfl rfl (State.gstat_of_empty rfl rfl) State.reset_ch⟩,
    fun s data mask isOpen => ?_⟩
  obtain ⟨out, done⟩ := State.softReset_of_open (op := .write) rfl isOpen data mask
  exact ⟨_, done, State.reset_reads rfl rfl (State.gstat_of_empty rfl rfl) State.reset_ch⟩

end Sys2Proof.Machine
end

section
/-! PROOFS. The configuration words and the control word of a channel (O13 to O18). -/

namespace Sys2Proof.Machine

set_option Elab.async false

/-! ### Configuration words (R137) -/

/-- A configuration word taken by a channel that is OFFLINE. -/
def ChannelEngine.configured (ce : ChannelEngine) (w : ConfigWord) (data mask : Word) : ChannelEngine :=
  if ce.state = .offline then ce.storeConfig w (formed (ce.config w) data mask) else ce

/-- The port after a configuration word: CONFIG_REFUSED is set where some channel of the page is not OFFLINE. -/
def State.configuredPort (s : State) (page : Page) : Port :=
  { s.port with
    configRefused := s.port.configRefused || allChannels.any fun c => page.covers c && (s.ch c).state != .offline }

theorem ChannelEngine.configured_waits (ce : ChannelEngine) (w : ConfigWord) (data mask : Word) :
    (ce.configured w data mask).arrivalQueue = ce.arrivalQueue ∧
      (ce.configured w data mask).requests = ce.requests := by
  unfold ChannelEngine.configured
  split
  · cases w <;> exact ⟨rfl, rfl⟩
  · exact ⟨rfl, rfl⟩

/-- One channel takes a configuration word. -/
theorem State.writeConfig_eq (s : State) (c : Channel) (w : ConfigWord) (data mask : Word) :
    s.writeConfig c w data mask = { s.onPage (.ch c) (·.configured w data mask) with
      port := { s.port with configRefused := s.port.configRefused || (s.ch c).state != .offline } } := by
  rw [← State.updCh_eq_onPage, State.writeConfig]
  by_cases off : (s.ch c).state = .offline
  · have taken : (fun ce : ChannelEngine => ce.storeConfig w (formed (ce.config w) data mask)) (s.ch c) =
        (s.ch c).configured w data mask := by simp [ChannelEngine.configured, off]
    simp only [off, if_true, State.updCh]
    simp [← taken]
  · have kept : (s.ch c).configured w data mask = s.ch c := by simp [ChannelEngine.configured, off]
    simp only [off, if_false, State.updCh, kept]
    have out : (s.channels.get c).state ≠ .offline := off
    simp [State.setConfigRefused, out, State.ch]

/-- The four channels take a configuration word one after the other. -/
theorem State.foldl_writeConfig (s : State) (w : ConfigWord) (data mask : Word) :
    allChannels.foldl (fun s c => s.writeConfig c w data mask) s =
      { s.onPage .allChannels (·.configured w data mask) with port := s.configuredPort .allChannels } := by
  have port : State.configuredPort s .allChannels = { s.port with
      configRefused := s.port.configRefused || (s.ch 0).state != .offline || (s.ch 1).state != .offline ||
        (s.ch 2).state != .offline || (s.ch 3).state != .offline } := by
    simp [State.configuredPort, allChannels, Page.covers, Bool.or_assoc]
  rw [port, ← State.foldl_updCh_eq_onPage]
  simp only [allChannels, List.foldl_cons, List.foldl_nil, State.writeConfig_eq, ← State.updCh_eq_onPage]
  generalize (fun ce : ChannelEngine => ce.configured w data mask) = f
  rfl

/-- A word completes at a writable address of a channel page. -/
theorem State.writeWord_ch (s : State) (c : Channel) {addr : Nat} (h : channelWritable addr = true) (data mask : Word) :
    s.writeWord (some (.ch c)) addr data mask = s.presenting fun s => s.writeChannel c addr data mask :=
  if_pos h

/-- A word completes at a writable address of ALL_CHANNELS. -/
theorem State.writeWord_allChannels (s : State) {addr : Nat} (h : channelWritable addr = true) (data mask : Word) :
    s.writeWord (some .allChannels) addr data mask =
      s.presenting fun s => allChannels.foldl (fun s c => s.writeChannel c addr data mask) s :=
  if_pos h

theorem ConfigWord.writable (w : ConfigWord) : channelWritable (ConfigWord.address w).toNat = true := by cases w <;> rfl

theorem State.writeChannel_config (s : State) (c : Channel) (w : ConfigWord) (data mask : Word) :
    s.writeChannel c (ConfigWord.address w).toNat data mask = s.writeConfig c w data mask := by cases w <;> rfl

/-- A configuration word at a page is taken by the channels of the page that are OFFLINE. -/
theorem State.writeWord_config (s : State) {page : Page} (h : page ≠ .global) (w : ConfigWord) (data mask : Word) :
    s.writeWord (some page) (ConfigWord.address w).toNat data mask =
      { s.onPage page (·.configured w data mask) with port := s.configuredPort page } := by
  have same : s.presenting (fun s => { s.onPage page (·.configured w data mask) with port := s.configuredPort page }) =
      { s.onPage page (·.configured w data mask) with port := s.configuredPort page } := by
    refine State.presenting_of_same fun q waits => ?_
    have kept := State.onPage_waits s page (fun ce => (ce.configured_waits w data mask).1)
      (fun ce => (ce.configured_waits w data mask).2) q
    rw [← kept]
    cases q <;> exact waits
  rw [← same]
  cases page with
  | global => exact absurd rfl h
  | ch c =>
    have one (s : State) : s.writeChannel c (ConfigWord.address w).toNat data mask =
        { s.onPage (.ch c) (·.configured w data mask) with port := s.configuredPort (.ch c) } := by
      have port : s.configuredPort (.ch c) =
          { s.port with configRefused := s.port.configRefused || (s.ch c).state != .offline } := by
        have any : (allChannels.any fun d => Page.covers (.ch c) d && (s.ch d).state != .offline) =
            ((s.ch c).state != .offline) := by
          rw [Bool.eq_iff_iff]
          simp [mem_allChannels, Page.covers]
        rw [State.configuredPort, any]
      rw [port, ← State.writeConfig_eq, State.writeChannel_config]
    rw [State.writeWord_ch _ _ (ConfigWord.writable w)]
    exact congrArg s.presenting (funext one)
  | allChannels =>
    have all (s : State) : allChannels.foldl (fun s c => s.writeChannel c (ConfigWord.address w).toNat data mask) s =
        { s.onPage .allChannels (·.configured w data mask) with port := s.configuredPort .allChannels } := by
      simp only [State.writeChannel_config, ← State.foldl_writeConfig]
    rw [State.writeWord_allChannels _ (ConfigWord.writable w)]
    exact congrArg s.presenting (funext all)

theorem ChannelEngine.config_storeConfig (ce : ChannelEngine) (w : ConfigWord) (v : Word) :
    (ce.storeConfig w v).config w = v &&& ConfigWord.assigned w := by cases w <;> rfl

theorem ChannelEngine.config_storeConfig_ne (ce : ChannelEngine) {w u : ConfigWord} (h : u ≠ w) (v : Word) :
    (ce.storeConfig w v).config u = ce.config u := by
  cases w <;> cases u <;> simp_all [ChannelEngine.storeConfig, ChannelEngine.config]

theorem Port.written_configRefused (p : Port) (op : PortOp) (page : Option Page) (addr : Byte) :
    (p.written op page addr).configRefused = p.configRefused := by
  unfold Port.written
  split <;> rfl

/-- Settles O13: `State.writeWord_config`, and the bits a channel stores. -/
theorem configWordsAreTakenOffline : Obligations.ConfigWordsAreTakenOffline := by
  intro s op page w data mask writes channel isOpen
  have isOpen : s.wordOpen op (some page) (ConfigWord.address w) := by cases w <;> exact isOpen
  have taken := State.portWrite_of_open writes isOpen data mask
    (State.writeWord_config s channel w data (wordMask op mask)) rfl
  refine ⟨_, congrArg Host.Outcome.next ((State.wordOn_of_open isOpen
    (Page.isChannel_of_ne channel) _).trans taken), rfl,
    ?_, Port.written_portError _ _ _ _, fun c => ?_⟩
  · rw [Port.written_configRefused]
    simp [State.configuredPort, mem_allChannels]
  · have engine := State.onPage_ch s page (·.configured w data (wordMask op mask)) c
    simp only [State.ch] at engine ⊢
    rw [engine]
    refine ⟨fun kept => ?_, fun covered off => ?_⟩
    · obtain out | on := kept
      · simp [out]
      · simp [ChannelEngine.configured, on]
    · rw [if_pos covered, ChannelEngine.configured, if_pos off]
      refine ⟨fun v ne => ChannelEngine.config_storeConfig_ne _ ne _, fun k _ => ?_, ?_⟩
      · rw [ChannelEngine.config_storeConfig, BitVec.getLsbD_and, Bool.and_comm]
        exact congrArg _ (bitAt_formed _ data _ k)
      · cases w <;> rfl

end Sys2Proof.Machine
end

section
/-! PROOFS. The control word of a channel: ENABLE and the three strobes (O14 to O18). -/

namespace Sys2Proof.Machine

set_option Elab.async false

/-! ### The bits of a control word -/

theorem bitAt_or (a b : Word) (k : Nat) : bitAt (a ||| b) k = (bitAt a k || bitAt b k) := BitVec.getLsbD_or

theorem bitAt_and (a b : Word) (k : Nat) : bitAt (a &&& b) k = (bitAt a k && bitAt b k) := BitVec.getLsbD_and

/-- A bit set in a mask is in what a WRITE stores, too. -/
theorem bitAt_wordMask_or (op : PortOp) (mask m : Word) (k : Nat) :
    bitAt (wordMask op (mask ||| m)) k = (bitAt (wordMask op mask) k || bitAt m k) := by
  unfold wordMask
  split
  · exact bitAt_or mask m k
  · rw [← bitAt_or]
    exact congrArg (bitAt · k) BitVec.allOnes_or.symm

/-- A strobe set in a word's data and mask is carried, whatever else the word carries. -/
theorem strobeIn_or (op : PortOp) (data mask m : Word) (k : Nat) :
    strobeIn op (data ||| m) (mask ||| m) k = (strobeIn op data mask k || bitAt m k) := by
  rw [strobeIn, bitAt_wordMask_or, bitAt_or, strobeIn]
  cases bitAt data k <;> cases bitAt (wordMask op mask) k <;> cases bitAt m k <;> rfl

/-! ### What the control word makes of a channel -/

/-- A channel whose counters are cleared where the word says so. -/
def ChannelEngine.cleared (ce : ChannelEngine) (clear : Bool) : ChannelEngine :=
  { ce with counters := if clear then Counters.zero else ce.counters }

/-- The ENABLE bit a control word forms. -/
def ChannelEngine.enabledBy (ce : ChannelEngine) (op : PortOp) (data mask : Word) : Bool :=
  if bitAt (wordMask op mask) 0 then bitAt data 0 else ce.enable

/-- A channel that takes a control word. -/
def ChannelEngine.controlled (ce : ChannelEngine) (op : PortOp) (data mask : Word) : ChannelEngine :=
  ce.writeControl (formed (bitWord 0 ce.enable) data (wordMask op mask))

/-- A bit of a control word above ENABLE reads as 0, so it is formed as its strobe (R189). -/
theorem bitAt_control (enable : Bool) (op : PortOp) (data mask : Word) {k : Nat} (h : k ≠ 0) :
    bitAt (formed (bitWord 0 enable) data (wordMask op mask)) k = strobeIn op data mask k := by
  have low : bitAt (bitWord 0 enable) k = false := by
    cases enable
    · simp [bitAt, bitWord]
    · rw [bitAt, bitWord_getLsbD (by decide)]
      simp [Ne.symm h]
  rw [bitAt_formed, low, strobeIn]
  cases bitAt (wordMask op mask) k <;> simp

theorem bitAt_control_enable (ce : ChannelEngine) (op : PortOp) (data mask : Word) :
    bitAt (formed (bitWord 0 ce.enable) data (wordMask op mask)) 0 = ce.enabledBy op data mask := by
  have low : bitAt (bitWord 0 ce.enable) 0 = ce.enable := by
    cases ce.enable <;> rfl
  rw [bitAt_formed, low, ChannelEngine.enabledBy]

/-- The counters first; then a change of ENABLE, or else RESTART, or else RECOVER (R189). -/
theorem ChannelEngine.controlled_eq (ce : ChannelEngine) (op : PortOp) (data mask : Word) :
    ce.controlled op data mask =
      let cc := ce.cleared (strobeIn op data mask 6)
      if ce.enabledBy op data mask ≠ ce.enable then
        (if ce.enabledBy op data mask then cc.enableNow else cc.disableNow)
      else if strobeIn op data mask 4 then cc.restartNow
      else if strobeIn op data mask 5 then cc.recoverNow
      else cc := by
  rw [controlled, writeControl]
  simp only [bitAt_control_enable, bitAt_control _ _ _ _ (show 4 ≠ 0 by decide),
    bitAt_control _ _ _ _ (show 5 ≠ 0 by decide), bitAt_control _ _ _ _ (show 6 ≠ 0 by decide)]
  cases strobeIn op data mask 6 <;> rfl

/-- A strobe set in a word leaves the ENABLE bit it forms. -/
theorem ChannelEngine.enabledBy_or (ce : ChannelEngine) (op : PortOp) (data mask : Word) {m : Word}
    (h : bitAt m 0 = false) : ce.enabledBy op (data ||| m) (mask ||| m) = ce.enabledBy op data mask := by
  rw [enabledBy, bitAt_wordMask_or, bitAt_or, h, Bool.or_false, Bool.or_false, enabledBy]

/-- With ENABLE 0 and formed as 0, no strobe but CLEAR_COUNTERS acts: the channel is OFFLINE (R138 to R140). -/
theorem ChannelEngine.controlled_off {ce : ChannelEngine} (ok : ce.Ok) (disabled : ce.enable = false) {op : PortOp}
    {data mask : Word} (off : ce.enabledBy op data mask = false) :
    ce.controlled op data mask = ce.cleared (strobeIn op data mask 6) := by
  have offline : ce.state = .offline := by
    by_contra isOn
    simp [ok.enabled.mpr isOn] at disabled
  rw [controlled_eq, off, disabled]
  generalize made : ce.cleared (strobeIn op data mask 6) = cc
  have restart : cc.restartNow = cc := by rw [← made]; exact if_neg (by simp [cleared, disabled])
  have recover : cc.recoverNow = cc := by rw [← made]; exact if_neg (by simp [cleared, offline])
  simp [restart, recover]

section Word

variable {ce : ChannelEngine} {op : PortOp} {data mask : Word}

theorem ChannelEngine.controlled_enable (off : ce.enable = false) (on : ce.enabledBy op data mask = true) :
    ce.controlled op data mask = (ce.cleared (strobeIn op data mask 6)).enableNow := by
  simp [ChannelEngine.controlled_eq, on, off]

theorem ChannelEngine.controlled_disable (on : ce.enable = true) (off : ce.enabledBy op data mask = false) :
    ce.controlled op data mask = (ce.cleared (strobeIn op data mask 6)).disableNow := by
  simp [ChannelEngine.controlled_eq, on, off]

theorem ChannelEngine.controlled_restart (same : ce.enabledBy op data mask = ce.enable)
    (restart : strobeIn op data mask 4 = true) :
    ce.controlled op data mask = (ce.cleared (strobeIn op data mask 6)).restartNow := by
  simp [ChannelEngine.controlled_eq, same, restart]

theorem ChannelEngine.controlled_recover (same : ce.enabledBy op data mask = ce.enable)
    (restart : strobeIn op data mask 4 = false) (recover : strobeIn op data mask 5 = true) :
    ce.controlled op data mask = (ce.cleared (strobeIn op data mask 6)).recoverNow := by
  simp [ChannelEngine.controlled_eq, same, restart, recover]

theorem ChannelEngine.controlled_none (same : ce.enabledBy op data mask = ce.enable)
    (restart : strobeIn op data mask 4 = false) (recover : strobeIn op data mask 5 = false) :
    ce.controlled op data mask = ce.cleared (strobeIn op data mask 6) := by
  simp [ChannelEngine.controlled_eq, same, restart, recover]

end Word

/-! ### The control word in the model -/

/-- A control word at a page is taken by each channel of the page. -/
theorem State.writeWord_control (s : State) {page : Page} (h : page ≠ .global) (op : PortOp) (data mask : Word) :
    s.writeWord (some page) 0 data (wordMask op mask) =
      s.presenting fun s => s.onPage page (·.controlled op data mask) := by
  cases page with
  | global => exact absurd rfl h
  | ch c =>
    rw [State.writeWord_ch _ _ rfl]
    exact congrArg s.presenting (funext fun s => State.updCh_eq_onPage s c (·.controlled op data mask))
  | allChannels =>
    rw [State.writeWord_allChannels _ rfl]
    exact congrArg s.presenting (funext fun s => State.foldl_updCh_eq_onPage s (·.controlled op data mask))

/-- What presents a request may fix the next requester served, and no more. -/
theorem State.presenting_eq (s : State) (f : State → State) :
    ∃ turn, (turn = (f s).turn ∨ turn = s.nextServed) ∧ s.presenting f = { f s with turn := turn } := by
  refine ⟨_, ?_, rfl⟩
  split
  · exact .inr rfl
  · exact .inl rfl

/-- A control word at an open transaction of a channel page. -/
theorem State.controlWord_of_open {s : State} {page : Page} {op : PortOp} (writes : op.writes = true)
    (channel : page ≠ .global) (isOpen : s.wordOpen op (some page) 0x00) (data mask : Word) :
    s.controlWord data mask = { s.presenting (fun s => s.onPage page (·.controlled op data mask)) with
      port := s.port.written op (some page) 0x00 } := by
  have taken := State.portWrite_of_open writes isOpen data mask (State.writeWord_control s channel op data mask) rfl
  exact (State.wordOn_of_open isOpen (Page.isChannel_of_ne channel) _).trans taken

/-- A control word changes the channels of its page, and may fix the next requester served. -/
theorem State.controlWord_frame {s : State} {page : Page} {op : PortOp} (writes : op.writes = true)
    (channel : page ≠ .global) (isOpen : s.wordOpen op (some page) 0x00) (data mask : Word) :
    (s.controlWord data mask).port = s.port.written op (some page) 0x00 ∧
      OnlyPortAndChannels s (s.controlWord data mask) ∧
      ∀ c, (s.controlWord data mask).ch c = if page.covers c then (s.ch c).controlled op data mask else s.ch c := by
  rw [State.controlWord_of_open writes channel isOpen]
  obtain ⟨turn, choice, presented⟩ := s.presenting_eq fun s => s.onPage page (·.controlled op data mask)
  rw [presented]
  exact ⟨rfl, ⟨rfl, choice⟩, fun c => State.onPage_ch s page (·.controlled op data mask) c⟩

/-! ### The strobes (O14 to O18) -/

theorem ChannelEngine.counters_controlled (ce : ChannelEngine) (op : PortOp) (data mask : Word)
    (clear : strobeIn op data mask 6 = true) : (ce.controlled op data mask).counters = Counters.zero := by
  have zero : (ce.cleared (strobeIn op data mask 6)).counters = Counters.zero := by rw [clear]; rfl
  rw [ChannelEngine.controlled_eq]
  generalize ce.cleared (strobeIn op data mask 6) = cc at zero
  dsimp only
  split
  · split
    · unfold ChannelEngine.enableNow; split <;> exact zero
    · exact zero
  · split
    · unfold ChannelEngine.restartNow; split <;> exact zero
    · split
      · unfold ChannelEngine.recoverNow; split <;> exact zero
      · exact zero

/-- Settles O14: the counters go first, and without a further effect nothing else does. -/
theorem clearCountersZeroesCounters : Obligations.ClearCountersZeroesCounters := by
  intro s op page data mask writes channel isOpen
  obtain ⟨port, frame, engine⟩ := State.controlWord_frame writes channel isOpen (data ||| 0x0040) (mask ||| 0x0040)
  refine ⟨s.controlWord (data ||| 0x0040) (mask ||| 0x0040), rfl, port, frame, fun c => ⟨fun out => ?_,
    fun covered => ?_, fun covered same restart recover => ?_⟩⟩
  · rw [engine, out]
    rfl
  · rw [engine, if_pos covered]
    exact ChannelEngine.counters_controlled _ _ _ _ (by rw [strobeIn_or]; simp [bitAt])
  · have same := (ChannelEngine.enabledBy_or (s.ch c) op data mask (m := 0x0040) rfl).trans same
    rw [engine, if_pos covered, ChannelEngine.controlled_none same]
    · rfl
    · rw [strobeIn_or, restart]; rfl
    · rw [strobeIn_or, recover]; rfl

theorem ChannelEngine.configValid_iff (ce : ChannelEngine) : ce.configValid = true ↔
    1 ≤ ce.own.toNat ∧ 20 ≤ ce.slotBits ∧ 1 ≤ ce.replyWindowSlots ∧ 1 ≤ ce.passTimeoutSlots ∧ 1 ≤ ce.visitBudget ∧
      ce.visitBudget ≤ 8 ∧ 1 ≤ ce.errorRunLimit ∧ 1 ≤ ce.recoveryUnits := by
  simp [ChannelEngine.configValid, and_assoc]

/-- Settles O15: `ChannelEngine.enableNow` where ENABLE is 0, the counters alone where it is 1. -/
theorem enableEntersListening : Obligations.EnableEntersListening := by
  intro s op page data mask ok writes channel isOpen
  obtain ⟨port, frame, engine⟩ := State.controlWord_frame writes channel isOpen (data ||| 0x0001) (mask ||| 0x0001)
  refine ⟨s.controlWord (data ||| 0x0001) (mask ||| 0x0001), rfl, port, frame, fun c => ⟨_, rfl, fun out => ?_, ?_⟩⟩
  · rw [engine, out]
    rfl
  have strobe {k : Nat} (h : bitAt 0x0001 k = false) :
      strobeIn op (data ||| 0x0001) (mask ||| 0x0001) k = strobeIn op data mask k := by
    rw [strobeIn_or, h, Bool.or_false]
  have on : (s.ch c).enabledBy op (data ||| 0x0001) (mask ||| 0x0001) = true := by
    have set : bitAt 0x0001 0 = true := rfl
    simp only [ChannelEngine.enabledBy, bitAt_wordMask_or, bitAt_or, set, Bool.or_true, if_true]
  refine ⟨fun covered enabled restart recover => ?_, fun covered disabled valid => ?_,
    fun covered disabled invalid => ?_⟩
  · rw [engine, if_pos covered, ChannelEngine.controlled_none (on.trans enabled.symm)
      ((strobe rfl).trans restart) ((strobe rfl).trans recover),
      strobe rfl]
    rfl
  · have off : (s.ch c).state = .offline := by
      by_contra isOn
      simp [(ok c).enabled.mpr isOn] at disabled
    obtain ⟨-, -, sending, -⟩ := (ok c).offline off
    have valid : ((s.ch c).cleared (strobeIn op data mask 6)).configValid = true :=
      (s.ch c).configValid_iff.mpr valid
    rw [engine, if_pos covered, ChannelEngine.controlled_enable disabled on, strobe rfl,
      ChannelEngine.enableNow, if_pos valid]
    simp [ChannelEngine.goOnline, ChannelEngine.enterListening, ChannelEngine.restartSilence, ChannelEngine.lineIdle,
      ChannelEngine.cleared, ChannelEngine.silenceLength, sending]
    rfl
  · have invalid : ¬ ((s.ch c).cleared (strobeIn op data mask 6)).configValid = true :=
      fun valid => invalid ((s.ch c).configValid_iff.mp valid)
    rw [engine, if_pos covered, ChannelEngine.controlled_enable disabled on, strobe rfl,
      ChannelEngine.enableNow, if_neg invalid]
    rfl

/-- Settles O16: `ChannelEngine.disableNow` where ENABLE is 1, the counters alone where it is 0. -/
theorem disableGoesOffline : Obligations.DisableGoesOffline := by
  intro s op page data mask ok writes channel isOpen
  obtain ⟨port, frame, engine⟩ := State.controlWord_frame writes channel isOpen (data &&& 0xFFFE) (mask ||| 0x0001)
  refine ⟨s.controlWord (data &&& 0xFFFE) (mask ||| 0x0001), rfl, port, frame, fun c => ⟨_, rfl, fun out => ?_, ?_⟩⟩
  · rw [engine, out]
    rfl
  have off : (s.ch c).enabledBy op (data &&& 0xFFFE) (mask ||| 0x0001) = false := by
    have set : bitAt 0x0001 0 = true := rfl
    have clear : bitAt 0xFFFE 0 = false := rfl
    simp only [ChannelEngine.enabledBy, bitAt_wordMask_or, bitAt_and, set, clear, Bool.or_true, Bool.and_false, if_true]
  have strobe : strobeIn op (data &&& 0xFFFE) (mask ||| 0x0001) 6 = strobeIn op data mask 6 := by
    have set : bitAt 0xFFFE 6 = true := rfl
    have clear : bitAt 0x0001 6 = false := rfl
    simp only [strobeIn, bitAt_wordMask_or, bitAt_and, set, clear, Bool.or_false, Bool.and_true]
  refine ⟨fun covered enabled => ?_, fun covered disabled => ?_⟩
  · rw [engine, if_pos covered, ChannelEngine.controlled_disable enabled off, strobe]
    rfl
  · rw [engine, if_pos covered, ChannelEngine.controlled_off (ok c) disabled off, strobe]
    rfl

theorem ChannelEngine.restartNow_on {ce : ChannelEngine} (on : ce.enable = true) : ce.restartNow =
    { ce.wentOffline with
      state := .listening, rx := .unsynced, errorRun := 0, joinCount := 0
      silenceTimer := some ((40 + ce.own.toNat) * ce.slotBits) } := if_pos on

theorem ChannelEngine.restartNow_off {ce : ChannelEngine} (off : ce.enable = false) : ce.restartNow = ce :=
  if_neg (by simp [off])

/-- Settles O17: `ChannelEngine.restartNow`, the counters alone where ENABLE is 0. -/
theorem restartReturnsToListening : Obligations.RestartReturnsToListening := by
  intro s op page data mask ok writes channel isOpen same
  obtain ⟨port, frame, engine⟩ := State.controlWord_frame writes channel isOpen (data ||| 0x0010) (mask ||| 0x0010)
  refine ⟨s.controlWord (data ||| 0x0010) (mask ||| 0x0010), rfl, port, frame, fun c => ⟨_, rfl, fun out => ?_, ?_⟩⟩
  · rw [engine, out]
    rfl
  have set : strobeIn op (data ||| 0x0010) (mask ||| 0x0010) 4 = true := by
    rw [strobeIn_or]
    exact Bool.or_true _
  have clear : strobeIn op (data ||| 0x0010) (mask ||| 0x0010) 6 = strobeIn op data mask 6 := by
    rw [strobeIn_or]
    exact Bool.or_false _
  have same (covered : page.covers c = true) :
      (s.ch c).enabledBy op (data ||| 0x0010) (mask ||| 0x0010) = (s.ch c).enable :=
    (ChannelEngine.enabledBy_or (s.ch c) op data mask (m := 0x0010) rfl).trans (same c covered)
  refine ⟨fun covered enabled => ?_, fun covered disabled => ?_⟩
  · rw [engine, if_pos covered, ChannelEngine.controlled_restart (same covered) set, clear,
      ChannelEngine.restartNow_on (ce := (s.ch c).cleared _) enabled]
    rfl
  · rw [engine, if_pos covered, ChannelEngine.controlled_restart (same covered) set, clear,
      ChannelEngine.restartNow_off (ce := (s.ch c).cleared _) disabled]
    rfl

/-! ### Recovery (R156) -/

theorem ChannelEngine.recoverNow_silent {ce : ChannelEngine} (h : ce.state = .silent) : ce.recoverNow = ce.recovered :=
  if_pos h

theorem ChannelEngine.recoverNow_of_ne {ce : ChannelEngine} (h : ce.state ≠ .silent) : ce.recoverNow = ce := if_neg h

/-- A change of the channels of a page that keeps their arrival queues and requests leaves the same requesters
waiting. -/
theorem State.onPage_waits_of_covered (s : State) (page : Page) {f : ChannelEngine → ChannelEngine}
    (kept : ∀ c, page.covers c = true →
      (f (s.ch c)).arrivalQueue = (s.ch c).arrivalQueue ∧ (f (s.ch c)).requests = (s.ch c).requests)
    (q : Requester) : (s.onPage page f).waits q = s.waits q := by
  cases q with
  | cu => rfl
  | iu => rfl
  | rx c =>
    simp only [State.waits, State.onPage_ch]
    split
    case isTrue covered => rw [(kept c covered).1]
    case isFalse => rfl
  | tx c =>
    simp only [State.waits, State.onPage_ch]
    split
    case isTrue covered => rw [(kept c covered).2]
    case isFalse => rfl

/-- Recovery presents no request. -/
theorem ChannelEngine.controlled_waits_of_recover {ce : ChannelEngine} {op : PortOp} {data mask : Word}
    (same : ce.enabledBy op data mask = ce.enable) (restart : strobeIn op data mask 4 = false)
    (recover : strobeIn op data mask 5 = true) :
    (ce.controlled op data mask).arrivalQueue = ce.arrivalQueue ∧
      (ce.controlled op data mask).requests = ce.requests := by
  rw [ChannelEngine.controlled_recover same restart recover]
  unfold ChannelEngine.recoverNow
  split <;> exact ⟨rfl, rfl⟩

/-- Settles O18: `ChannelEngine.recoverNow` in a control word and at the end of the recovery interval. -/
theorem recoveryResumesListening : Obligations.RecoveryResumesListening := by
  refine ⟨fun s op page data mask writes channel isOpen restart same => ?_, fun s c expired => ?_⟩
  · have engine := (State.controlWord_frame writes channel isOpen (data ||| 0x0020) (mask ||| 0x0020)).2.2
    have set : strobeIn op (data ||| 0x0020) (mask ||| 0x0020) 5 = true := by
      rw [strobeIn_or]
      exact Bool.or_true _
    have clear : strobeIn op (data ||| 0x0020) (mask ||| 0x0020) 6 = strobeIn op data mask 6 := by
      rw [strobeIn_or]
      exact Bool.or_false _
    have restart : strobeIn op (data ||| 0x0020) (mask ||| 0x0020) 4 = false := by
      rw [strobeIn_or, restart]
      rfl
    have same (c : Channel) (covered : page.covers c = true) :
        (s.ch c).enabledBy op (data ||| 0x0020) (mask ||| 0x0020) = (s.ch c).enable :=
      (ChannelEngine.enabledBy_or (s.ch c) op data mask (m := 0x0020) rfl).trans (same c covered)
    have quiet : s.presenting (fun s => s.onPage page (·.controlled op (data ||| 0x0020) (mask ||| 0x0020))) =
        s.onPage page (·.controlled op (data ||| 0x0020) (mask ||| 0x0020)) := by
      refine State.presenting_of_same fun q waits => ?_
      rwa [State.onPage_waits_of_covered s page fun c covered =>
        ChannelEngine.controlled_waits_of_recover (same c covered) restart set] at waits
    refine ⟨s.controlWord (data ||| 0x0020) (mask ||| 0x0020), rfl, ?_, ?_, fun c => ⟨_, rfl, fun out => ?_, ?_⟩⟩
    · rw [State.controlWord_of_open writes channel isOpen]
    · rw [State.controlWord_of_open writes channel isOpen, quiet]
      rfl
    · rw [engine, out]
      rfl
    have cleared : (if strobeIn op data mask 6 then { s.ch c with counters := Counters.zero } else s.ch c) =
        (s.ch c).cleared (strobeIn op data mask 6) := by cases strobeIn op data mask 6 <;> rfl
    rw [cleared, engine]
    refine ⟨fun covered silent => ?_, fun covered other => ?_⟩
    · rw [if_pos covered, ChannelEngine.controlled_recover (same c covered) restart set, clear]
      exact ChannelEngine.recoverNow_silent silent
    · rw [if_pos covered, ChannelEngine.controlled_recover (same c covered) restart set, clear]
      exact ChannelEngine.recoverNow_of_ne other
  · have expires : (s.ch c).recoveryExpiry = { s.ch c with recovery := none }.recoverNow := if_pos expired
    refine ⟨s.updCh c ChannelEngine.recoveryExpiry, rfl, ⟨State.updCh_restore s c _, .inl rfl⟩, fun silent => ?_,
      fun other => ?_⟩
    · rw [State.ch_updCh_self, expires,
        ChannelEngine.recoverNow_silent (ce := { s.ch c with recovery := none }) silent]
      rfl
    · rw [State.ch_updCh_self, expires,
        ChannelEngine.recoverNow_of_ne (ce := { s.ch c with recovery := none }) other]

end Sys2Proof.Machine
end

section
/-! PROOFS. The command word (O19), and the way of a command from its word to the end of its transaction. -/

namespace Sys2Proof.Machine

set_option Elab.async false

/-! ### What a command word leaves in the command unit (R159, R177) -/

/-- The command unit with a command accepted: its working copy taken and its transaction requested. -/
def CommandUnit.accepted (cu : CommandUnit) (code : Word) : CommandUnit :=
  { cu.taken code with phase := .busy, resultCode := .none, working := some cu.params, requested := true, wait := none }

/-- The command unit with a command refused at its word. -/
def CommandUnit.refusedWord (cu : CommandUnit) (code : Word) (why : ResultCode) : CommandUnit :=
  { cu.taken code with phase := .refused, resultCode := why, working := none, requested := false, wait := none }

/-- The command unit a command word leaves. -/
def State.judgedUnit (s : State) (code : Word) : CommandUnit :=
  if s.cu.phase = .busy then { s.cu with overrun := true }
  else match CommandKind.ofCode code with
    | none => s.cu.refusedWord code .unknownCommand
    | some k =>
      if k = .clearTable ∧ s.channelsOnline then s.cu.refusedWord code .channelsOnline else s.cu.accepted code

theorem State.writeCode_eq (s : State) (code : Word) : s.writeCode code = { s with cu := s.judgedUnit code } := by
  unfold State.writeCode State.judgedUnit
  split
  · rfl
  · cases CommandKind.ofCode code with
    | none => rfl
    | some k =>
      dsimp only
      split <;> rfl

section Judged

variable {s : State} {code : Word}

theorem State.judgedUnit_busy (busy : s.cu.phase = .busy) : s.judgedUnit code = { s.cu with overrun := true } :=
  if_pos busy

theorem State.judgedUnit_unknown (free : s.cu.phase ≠ .busy) (unknown : CommandKind.ofCode code = none) :
    s.judgedUnit code = s.cu.refusedWord code .unknownCommand := by
  simp [State.judgedUnit, free, unknown]

theorem State.judgedUnit_online (free : s.cu.phase ≠ .busy) (clear : CommandKind.ofCode code = some .clearTable)
    (online : s.channelsOnline = true) : s.judgedUnit code = s.cu.refusedWord code .channelsOnline := by
  simp [State.judgedUnit, free, clear, online]

theorem State.judgedUnit_accepted (free : s.cu.phase ≠ .busy) {k : CommandKind}
    (known : CommandKind.ofCode code = some k) (offline : k = .clearTable → s.channelsOnline = false) :
    s.judgedUnit code = s.cu.accepted code := by
  have fit : ¬ (k = .clearTable ∧ s.channelsOnline = true) := fun ⟨clear, online⟩ => by simp [offline clear] at online
  simp [State.judgedUnit, free, known, fit]

/-- A command word that is not turned away as an overrun stores its code and clears the results. -/
theorem State.judgedUnit_taken (free : s.cu.phase ≠ .busy) : (s.judgedUnit code).code = code ∧
    (s.judgedUnit code).overrun = false ∧ (s.judgedUnit code).rowNumber = 0 ∧
    (s.judgedUnit code).results = Vector.replicate 16 0 ∧ (s.judgedUnit code).wait = none := by
  rw [State.judgedUnit, if_neg free]
  cases CommandKind.ofCode code with
  | none => exact ⟨rfl, rfl, rfl, rfl, rfl⟩
  | some k =>
    dsimp only
    split <;> exact ⟨rfl, rfl, rfl, rfl, rfl⟩

theorem State.judgedUnit_params : (s.judgedUnit code).params = s.cu.params := by
  unfold State.judgedUnit
  split
  · rfl
  · cases CommandKind.ofCode code with
    | none => rfl
    | some k =>
      dsimp only
      split <;> rfl

end Judged

/-! ### Codes and the commands that write them -/

theorem CommandKind.ofCode_eq_none {code : Word} :
    CommandKind.ofCode code = none ↔ code.toNat = 0 ∨ 14 < code.toNat := by
  unfold CommandKind.ofCode
  split
  all_goals simp_all
  omega

theorem CommandKind.ofCode_eq_clearTable {code : Word} : CommandKind.ofCode code = some .clearTable ↔ code = 14 := by
  rw [← BitVec.toNat_inj]
  unfold CommandKind.ofCode
  split <;> simp_all

theorem State.channelsOnline_iff (s : State) :
    s.channelsOnline = true ↔ ∃ c, (s.ch c).state ≠ .offline ∨ .removal ∈ (s.ch c).requests := by
  simp [State.channelsOnline, ChannelEngine.removalWaits, mem_allChannels]

/-- A command that writes a code to CMDCODE: a WRITE or a MASKED WRITE of data that the mask forms into the code. -/
def CommandWord (s : State) (op : PortOp) (i : Instr) (code : Word) : Prop :=
  ∃ data mask, exec i s = .next (s.portWrite 0x20 data mask) ∧ formed s.cu.code data (wordMask op mask) = code

theorem formed_allOnes (current data : Word) : formed current data (BitVec.allOnes 16) = data := by
  rw [formed, BitVec.and_allOnes, BitVec.not_allOnes, BitVec.and_zero, BitVec.or_zero]

theorem wordMask_allOnes (op : PortOp) : wordMask op (BitVec.allOnes 16) = BitVec.allOnes 16 := by
  unfold wordMask
  split <;> rfl

/-- A command whose row is the CMDCODE word of its code. -/
theorem CommandWord.of_code {s : State} {op : PortOp} {i : Instr} {code : Word}
    (isOpen : s.wordOpen op (some .global) 0x20) (row : exec i s = .next (s.codeWord code)) :
      CommandWord s op i code := by
  refine ⟨code, BitVec.allOnes 16, row.trans (congrArg _ (State.wordOn_of_open isOpen rfl _)), ?_⟩
  rw [wordMask_allOnes, formed_allOnes]

/-- A command word leaves the command unit it is judged to leave, and its command unit may be chosen next. -/
theorem CommandWord.done {s : State} {op : PortOp} {i : Instr} {code : Word} (word : CommandWord s op i code)
    (writes : op.writes = true) (isOpen : s.wordOpen op (some .global) 0x20) :
    exec i s = .next { s.presenting fun s => { s with cu := s.judgedUnit code } with
      port := s.port.written op (some .global) 0x20 } := by
  obtain ⟨data, mask, row, value⟩ := word
  have owner : s.writeWord (some .global) 0x20 data (wordMask op mask) =
      s.presenting fun s => { s with cu := s.judgedUnit code } := by
    rw [← value]
    simp only [← State.writeCode_eq]
    rfl
  exact row.trans (congrArg _ (State.portWrite_of_open writes isOpen data mask owner rfl))

/-- Settles O19: every row of the statement writes a code (`CommandWord`), which `State.judgedUnit` judges. -/
theorem commandWordIsJudged : Obligations.CommandWordIsJudged := by
  intro s op i code writes row isOpen
  have word : CommandWord s op i code := by
    obtain named | ⟨rfl, -⟩ | ⟨data, mask, rfl, bits⟩ := row
    · simp only [List.mem_cons, Prod.mk.injEq, List.not_mem_nil, or_false] at named
      obtain ⟨rfl, rfl⟩ | ⟨rfl, rfl⟩ | ⟨rfl, rfl⟩ | ⟨rfl, rfl⟩ | ⟨rfl, rfl⟩ | ⟨rfl, rfl⟩ | ⟨rfl, rfl⟩ | ⟨rfl, rfl⟩ |
        ⟨rfl, rfl⟩ | ⟨rfl, rfl⟩ | ⟨rfl, rfl⟩ | ⟨rfl, rfl⟩ | ⟨rfl, rfl⟩ | ⟨rfl, rfl⟩ := named <;>
      exact .of_code isOpen rfl
    · exact .of_code isOpen rfl
    · refine ⟨data, mask, rfl, ?_⟩
      refine BitVec.eq_of_getLsbD_eq fun k small => ?_
      exact (bitAt_formed s.cu.code data (wordMask op mask) k).trans (bits k small).symm
  obtain ⟨turn, choice, presented⟩ := s.presenting_eq fun s => { s with cu := s.judgedUnit code }
  have done := word.done writes isOpen
  rw [presented] at done
  refine ⟨_, done, rfl, rfl, choice, State.judgedUnit_params, State.judgedUnit_busy, fun free => ?_,
    fun free unknown => ?_, fun free clear online => ?_, fun free low high offline => ?_⟩
  · obtain ⟨code, overrun, row, results, wait⟩ := State.judgedUnit_taken (s := s) (code := code) free
    refine ⟨code, overrun, row, fun k => ?_, wait⟩
    refine (congrArg (fun v : Vector Word 16 => v[k]) results).trans ?_
    exact Vector.getElem_replicate _
  · have unit := State.judgedUnit_unknown free (CommandKind.ofCode_eq_none.2 unknown)
    refine ⟨?_, ?_, ?_, ?_⟩ <;> (dsimp only; rw [unit]; rfl)
  · have unit := State.judgedUnit_online free (CommandKind.ofCode_eq_clearTable.2 clear) (s.channelsOnline_iff.2 online)
    refine ⟨?_, ?_, ?_, ?_⟩ <;> (dsimp only; rw [unit]; rfl)
  · obtain ⟨k, known⟩ : ∃ k, CommandKind.ofCode code = some k := by
      rw [← Option.isSome_iff_exists, Option.isSome_iff_ne_none]
      exact fun unknown => by have := CommandKind.ofCode_eq_none.1 unknown; omega
    have unit := State.judgedUnit_accepted free known fun clear => by
      have all := offline (CommandKind.ofCode_eq_clearTable.1 (clear ▸ known))
      rw [← Bool.not_eq_true, s.channelsOnline_iff]
      rintro ⟨c, on | owed⟩
      · exact on (all c).1
      · exact (all c).2 owed
    refine ⟨?_, ?_, ?_, ?_⟩ <;> (dsimp only; rw [unit]; rfl)

end Sys2Proof.Machine
end

section
/-! PROOFS. The way of a command from its word to the end of its transaction, and what every command leaves alone. -/

namespace Sys2Proof.Machine

set_option Elab.async false

/-! ### What a table operation leaves alone -/

/-- An operation on the table leaves the port, the command unit, the table controller and the command queue. -/
structure Kept (s u : State) : Prop where
  served : u.served = s.served
  turn : u.turn = s.turn
  cu : u.cu = s.cu
  port : u.port = s.port
  attnEnable : u.attnEnable = s.attnEnable
  resetCause : u.resetCause = s.resetCause
  pending : u.pending = s.pending

namespace Kept

theorem refl (s : State) : Kept s s := ⟨rfl, rfl, rfl, rfl, rfl, rfl, rfl⟩

theorem trans {s t u : State} (a : Kept s t) (b : Kept t u) : Kept s u :=
  ⟨b.served.trans a.served, b.turn.trans a.turn, b.cu.trans a.cu, b.port.trans a.port,
    b.attnEnable.trans a.attnEnable, b.resetCause.trans a.resetCause, b.pending.trans a.pending⟩

theorem table (s : State) (rows : Vector Row 256) (topics : List (Word × RowId)) (attention : List AttentionEntry)
    (iu : IntervalUnit) : Kept s { s with rows := rows, topicIndex := topics, attention := attention, iu := iu } :=
  ⟨rfl, rfl, rfl, rfl, rfl, rfl, rfl⟩

theorem of_enqueueFrame {s u : State} {r : RowId} (f : EnqueueFrame r s u) : Kept s u :=
  ⟨f.served, f.turn, f.cu, f.port, f.attnEnable, f.resetCause, f.pending⟩

theorem updRow (s : State) (r : RowId) (f : Row → Row) : Kept s (s.updRow r f) := ⟨rfl, rfl, rfl, rfl, rfl, rfl, rfl⟩

theorem updCh (s : State) (c : Channel) (f : ChannelEngine → ChannelEngine) : Kept s (s.updCh c f) :=
  ⟨rfl, rfl, rfl, rfl, rfl, rfl, rfl⟩

theorem startDeadline (s : State) (r : RowId) (k : DeadlineKind) : Kept s (s.startDeadline r k) :=
  ⟨rfl, rfl, rfl, rfl, rfl, rfl, rfl⟩

theorem stopDeadlines (s : State) (r : RowId) : Kept s (s.stopDeadlines r) := ⟨rfl, rfl, rfl, rfl, rfl, rfl, rfl⟩

theorem freeRow (s : State) (r : RowId) : Kept s (s.freeRow r) := ⟨rfl, rfl, rfl, rfl, rfl, rfl, rfl⟩

theorem enqueue (s : State) (src : Source) (r : RowId) (mask : ChannelMask) : Kept s (s.enqueue src r mask).1 :=
  of_enqueueFrame (s.enqueue_frame src r mask)

theorem removeOn (s : State) (r : RowId) (c : Channel) : Kept s (s.removeOn r c) := by
  unfold State.removeOn
  split
  · exact (updRow s r _).trans (updCh _ c _)
  · exact updRow s r _
  · exact refl s

theorem cancelOn (s : State) (r : RowId) (c : Channel) : Kept s (s.cancelOn r c) := by
  unfold State.cancelOn
  split
  · exact (updRow s r _).trans (updCh _ c _)
  · exact updRow s r _
  · exact refl s
  · exact updRow s r _

theorem foldl {f : State → Channel → State} (one : ∀ s c, Kept s (f s c)) (l : List Channel) (s : State) :
    Kept s (l.foldl f s) := by
  induction l generalizing s with
  | nil => exact refl s
  | cons c l ih => exact (one s c).trans (ih _)

theorem takeOutOfService (s : State) (r : RowId) : Kept s (s.takeOutOfService r) :=
  ((foldl (fun s c => removeOn s r c) allChannels s).trans (updRow _ r _)).trans (stopDeadlines _ r)

theorem takeRow (s : State) (r : RowId) (d : DeclareParams) : Kept s (s.takeRow r d) :=
  ⟨rfl, rfl, rfl, rfl, rfl, rfl, rfl⟩

theorem amendDeadline (s : State) (r : RowId) (k : DeadlineKind) (changed : Bool) :
    Kept s (s.amendDeadline r k changed) := by
  unfold State.amendDeadline
  split
  · exact startDeadline s r k
  · exact refl s

end Kept

/-! ### What a command's transaction leaves alone -/

/-- A command's transaction leaves the port, the table controller, the command queue and the parameters, and its request
is served. -/
structure CommandFrame (s u : State) : Prop where
  served : u.served = s.served
  turn : u.turn = s.turn
  port : u.port = s.port
  attnEnable : u.attnEnable = s.attnEnable
  resetCause : u.resetCause = s.resetCause
  pending : u.pending = s.pending
  params : u.cu.params = s.cu.params
  overrun : u.cu.overrun = s.cu.overrun
  requested : u.cu.requested = false

namespace CommandFrame

variable {s t : State}

theorem refuse (s : State) (code : ResultCode) : CommandFrame s (s.refuse code) :=
  ⟨rfl, rfl, rfl, rfl, rfl, rfl, rfl, rfl, rfl⟩

/-- A command unit that keeps its parameters and OVERRUN, and whose request is served. -/
theorem withUnit (k : Kept s t) {cu : CommandUnit} (params : cu.params = t.cu.params) (overrun :
    cu.overrun = t.cu.overrun)
    (requested : cu.requested = false) : CommandFrame s { t with cu := cu } :=
  ⟨k.served, k.turn, k.port, k.attnEnable, k.resetCause, k.pending, params.trans (congrArg _ k.cu),
    overrun.trans (congrArg _ k.cu), requested⟩

theorem finish (k : Kept s t) (row : Byte) (words : List Word) : CommandFrame s (t.finish row words) :=
  withUnit k rfl rfl rfl

theorem updRow {u : State} (f : CommandFrame s u) (r : RowId) (g : Row → Row) : CommandFrame s (u.updRow r g) :=
  ⟨f.served, f.turn, f.port, f.attnEnable, f.resetCause, f.pending, f.params, f.overrun, f.requested⟩

theorem finishOrWait (k : Kept s t) (isCancel : Bool) (r : RowId) (awaited : ChannelMask) (o : Quad ChannelOutcome) :
    CommandFrame s (t.finishOrWait isCancel r awaited o) := by
  unfold State.finishOrWait
  split
  · exact finish k _ _
  · exact withUnit k rfl rfl rfl

end CommandFrame

/-- Every command's transaction keeps what `CommandFrame` says. -/
theorem State.commandTransaction_frame (s : State) (k : CommandKind) (p : Vector Word 16) :
    CommandFrame s (s.commandTransaction k p) := by
  cases k with
  | declare =>
    simp only [State.commandTransaction, State.declareTransaction]
    split
    · exact .refuse s _
    · split
      · exact .refuse s _
      · split
        · exact .refuse s _
        · exact .finish (.takeRow s _ _) _ _
  | amend =>
    simp only [State.commandTransaction, State.amendTransaction]
    split
    · exact .refuse s _
    · split
      · exact .refuse s _
      · split
        · exact .refuse s _
        · exact .finish (((Kept.updRow s _ _).trans (.amendDeadline _ _ _ _)).trans (.amendDeadline _ _ _ _)) _ _
  | find =>
    simp only [State.commandTransaction, State.findTransaction]
    split
    · exact .finish (.refl s) _ _
    · exact .refuse s _
  | list =>
    simp only [State.commandTransaction, State.listTransaction]
    split
    · exact .finish (.refl s) _ _
    · exact .refuse s _
  | fetch =>
    simp only [State.commandTransaction, State.fetchTransaction]
    split
    · exact .refuse s _
    · split
      · exact .updRow (.finish (.refl s) _ _) _ _
      · exact .finish (.refl s) _ _
  | post =>
    simp only [State.commandTransaction, State.postTransaction]
    split
    · exact .refuse s _
    · split
      · exact .refuse s _
      · split
        · exact .refuse s _
        · exact .finish ((Kept.updRow s _ _).trans (.enqueue _ _ _ _)) _ _
  | send =>
    simp only [State.commandTransaction, State.sendTransaction]
    split
    · exact .refuse s _
    · split
      · exact .refuse s _
      · split
        · exact .refuse s _
        · exact .finish (.enqueue s _ _ _) _ _
  | cancel =>
    simp only [State.commandTransaction, State.cancelTransaction]
    split
    · exact .refuse s _
    · refine .finishOrWait (.foldl (fun t c => ?_) allChannels s) _ _ _ _
      split
      · exact .cancelOn t _ c
      · exact .refl t
  | suspend =>
    simp only [State.commandTransaction, State.suspendTransaction]
    split
    · exact .refuse s _
    · split
      · exact .refuse s _
      · exact .finish ((Kept.takeOutOfService s _).trans (.updRow _ _ _)) _ _
  | resume =>
    simp only [State.commandTransaction, State.resumeTransaction]
    split
    · exact .refuse s _
    · split
      · exact .refuse s _
      · exact .finish ((Kept.updRow s _ _).trans (.startDeadline _ _ _)) _ _
  | retire =>
    simp only [State.commandTransaction, State.retireTransaction]
    split
    · exact .refuse s _
    · split
      · exact .refuse s _
      · refine .finishOrWait ?_ _ _ _ _
        split
        · exact (Kept.takeOutOfService s _).trans (.freeRow _ _)
        · exact (Kept.takeOutOfService s _).trans (.updRow _ _ _)
  | take =>
    simp only [State.commandTransaction, State.takeTransaction]
    split
    · exact .finish (.table s _ _ _ _) _ _
    · exact .refuse s _
  | clearTable =>
    simp only [State.commandTransaction, State.clearTransaction]
    split
    · exact .refuse s _
    · exact .finish (.table s _ _ _ _) _ _
  | _ =>
    simp only [State.commandTransaction, State.recallCommandTransaction]
    split
    · exact .refuse s _
    · split
      · exact .refuse s _
      · split
        · exact .refuse s _
        · exact .finish (.enqueue s _ _ _) _ _

/-! ### From the word to the transaction -/

/-- The state in which the transaction of an accepted command runs. -/
def State.commanded (s : State) (code : Word) : State :=
  { s with port := s.port.written .write (some .global) 0x20, cu := s.cu.accepted code, served := .cu, turn := none }

theorem mem_ringAfter (q served : Requester) : q ∈ ringAfter served := by
  have mem := mem_requesters q
  rw [← List.take_append_drop (requesters.idxOf served + 1) requesters, List.mem_append] at mem
  exact List.mem_append.2 mem.symm

/-- The one requester that waits is the next one served. -/
theorem State.nextServed_of_only {s : State} {q : Requester} (waits : s.waits q = true)
    (lone : ∀ x, x ≠ q → s.waits x = false) : s.nextServed = some q := by
  have first : s.firstWaiting = some q := by
    cases found : s.firstWaiting with
    | none => exact absurd waits (List.find?_eq_none.1 found q (mem_ringAfter q s.served))
    | some x =>
      have waiting : s.waits x = true := List.find?_some found
      by_contra other
      have other : x ≠ q := fun same => other (congrArg some same)
      simp [lone x other] at waiting
  unfold State.nextServed
  split
  · rename_i x _
    by_cases same : x = q
    · simp [same, waits]
    · simp [lone x same, first]
  · exact first

/-- A command that is ready to be taken is carried through: its word is accepted, and its transaction is the next one
served. -/
theorem Carried.of_command {s : State} (ready : s.Ready) {i : Instr} {code : Word} {k : CommandKind}
    (row : exec i s = .next (s.codeWord code)) (known : CommandKind.ofCode code = some k)
    (offline : k = .clearTable → s.channelsOnline = false) :
    Carried i s ((s.commanded code).commandTransaction k s.cu.params).wakeAll := by
  obtain ⟨isOpen, free, presented, quiet⟩ := ready
  have word := (CommandWord.of_code (op := .write) isOpen row).done rfl isOpen
  obtain ⟨turn, choice, done⟩ := s.presenting_eq fun s => { s with cu := s.judgedUnit code }
  rw [done] at word
  have frame := (s.commanded code).commandTransaction_frame k s.cu.params
  refine ⟨⟨_, word, ?_⟩, frame.port, frame.attnEnable, frame.resetCause, frame.pending, frame.served, frame.turn,
    frame.params, frame.overrun, frame.requested⟩
  have unit := State.judgedUnit_accepted free known offline
  dsimp only
  rw [unit]
  let v : State := { s with
    turn := turn, cu := s.cu.accepted code, port := s.port.written .write (some .global) 0x20 }
  have next : v.nextServed = some .cu := by
    refine State.nextServed_of_only rfl fun x other => ?_
    cases x with
    | cu => exact absurd rfl other
    | iu => exact congrArg Option.isSome presented
    | rx c => exact congrArg (fun l => !l.isEmpty) (quiet c).1
    | tx c => exact congrArg (fun l => !l.isEmpty) (quiet c).2
  have runs : execCommandTransaction v =
      .next (v.transact .cu fun t => t.commandTransaction k s.cu.params) := by
    simp only [v, execCommandTransaction, CommandUnit.accepted, CommandUnit.taken, known]
  exact runs.trans (congrArg _ (State.transact_turn next _))

/-! ### The two ends of a command's transaction -/

@[simp] theorem State.commanded_row (s : State) (code : Word) (r : RowId) : (s.commanded code).row r = s.row r := rfl

@[simp] theorem State.commanded_ch (s : State) (code : Word) (c : Channel) : (s.commanded code).ch c = s.ch c := rfl

/-- A command whose transaction refuses it has changed nothing. -/
theorem Refuses.of_refuse (s : State) (code : Word) (why : ResultCode) :
    Refuses s ((s.commanded code).refuse why).wakeAll why :=
  ⟨rfl, rfl, rfl, fun _ => Vector.getElem_replicate _, rfl, rfl, rfl, rfl, rfl, rfl⟩

theorem Refuses.of_eq {s t : State} {code : Word} {why : ResultCode} (h : t = (s.commanded code).refuse why) :
    Refuses s t.wakeAll why := h ▸ Refuses.of_refuse s code why

/-- A command that ends DONE shows its row number and its result words. -/
theorem Finishes.of_finish (t : State) {row : Byte} {n : Nat} (number : row.toNat = n) (words : List Word) :
    Finishes (t.finish row words).wakeAll n words := by
  refine ⟨rfl, rfl, number, fun k => ?_, rfl⟩
  exact Vector.getElem_ofFn _

end Sys2Proof.Machine
end

section
/-! PROOFS. Words that hold several fields, and the commands that report or clear: FIND, LIST, FETCH, TAKE, CLEAR TABLE
(O22, O23, O30, O31). -/

namespace Sys2Proof.Machine

set_option Elab.async false

/-! ### Words of several fields (R194, R200) -/

/-- Fields in disjoint bits add up. -/
theorem ofNat_or_ofNat {m n : Nat} (i : Nat) (within : i ≤ 16) (high : m % 2 ^ i = 0) (low : n < 2 ^ i) :
    BitVec.ofNat 16 m ||| BitVec.ofNat 16 n = BitVec.ofNat 16 (m + n) := by
  have dvd : 2 ^ i ∣ 65536 := pow_dvd_pow 2 within
  have highWord : (BitVec.ofNat 16 m).toNat % 2 ^ i = 0 := by
    rw [BitVec.toNat_ofNat, Nat.mod_mod_of_dvd m dvd, high]
  have lowWord : (BitVec.ofNat 16 n).toNat < 2 ^ i := lt_of_le_of_lt (by
    rw [BitVec.toNat_ofNat]; exact Nat.mod_le _ _) low
  have sum := or_toNat_of_low i highWord lowWord
  have small := (BitVec.ofNat 16 m ||| BitVec.ofNat 16 n).isLt
  refine BitVec.eq_of_toNat_eq ?_
  simp only [BitVec.toNat_ofNat] at sum small ⊢
  omega

/-- Fields in disjoint bits add up, the low one first. -/
theorem ofNat_or_ofNat_low {m n : Nat} (i : Nat) (within : i ≤ 16) (high : m % 2 ^ i = 0) (low : n < 2 ^ i) :
    BitVec.ofNat 16 n ||| BitVec.ofNat 16 m = BitVec.ofNat 16 (m + n) := by
  rw [BitVec.or_comm, ofNat_or_ofNat i within high low]

theorem bitWord_eq_ofNat (k : Nat) (b : Bool) : bitWord k b = BitVec.ofNat 16 (b.toNat * 2 ^ k) := by
  cases b <;> simp [bitWord]

theorem RowState.code_lt (st : RowState) : st.code < 8 := by cases st <;> decide
theorem SendState.code_lt (st : SendState) : st.code < 4 := by cases st <;> decide
theorem LastResult.code_lt (x : LastResult) : x.code < 16 := by cases x <;> decide
theorem ChannelOutcome.code_lt (o : ChannelOutcome) : o.code < 256 := by cases o <;> decide

theorem rowAndState_eq (r : RowId) (st : RowState) : rowAndState r st = rowStateWord r st := by
  have row := r.isLt
  refine (ofNat_or_ofNat 8 (by decide) (by omega) (by omega)).trans (congrArg _ ?_)
  omega

theorem outcomeWords_eq (o : Quad ChannelOutcome) : outcomeWords o = outcomePair o.get := by
  have pair (a b : ChannelOutcome) : placed a.code 8 ||| placed b.code 0 = BitVec.ofNat 16 (256 * a.code + b.code) := by
    have low := b.code_lt
    refine (ofNat_or_ofNat 8 (by decide) (by omega) (by omega)).trans (congrArg _ ?_)
    omega
  simp only [outcomeWords, pair]
  rfl

theorem rowByte_toNat (r : RowId) : (rowByte r).toNat = r.val := Nat.mod_eq_of_lt r.isLt

/-! ### The row a parameter names -/

theorem State.namedRow_of_names {s : State} {p : Vector Word 16} {r : RowId} (h : Names s p[0] r) :
    s.namedRow p = some r := by
  obtain ⟨number, used⟩ := h
  have row : rowOfWord p[0] = some r := by
    rw [rowOfWord, dif_pos (by omega)]
    exact congrArg some (Fin.ext number)
  simp [State.namedRow, row, used]

theorem State.namedRow_of_none {s : State} {p : Vector Word 16} (h : NamesNone s p[0]) : s.namedRow p = none := by
  unfold State.namedRow rowOfWord
  by_cases small : p[0].toNat < 256
  · have free : (s.row ⟨p[0].toNat, small⟩).state = .free := h _ rfl
    simp [small, free]
  · simp [small]

/-- The lowest-numbered row that satisfies a condition. -/
theorem State.firstRow_eq_some {s : State} {p : RowId → Row → Bool} {r : RowId} (holds : p r (s.row r) = true)
    (first : ∀ q, q < r → p q (s.row q) = false) : s.firstRow p = some r := by
  refine List.find?_eq_some_iff_getElem.2 ⟨holds, r.val, by simp [allRows], by simp [allRows], fun j before => ?_⟩
  have fails := first ⟨j, by omega⟩ before
  simpa [allRows] using fails

theorem State.firstRow_eq_none {s : State} {p : RowId → Row → Bool} (h : ∀ r, p r (s.row r) = false) :
    s.firstRow p = none :=
  List.find?_eq_none.2 fun r _ => by simp [h r]

/-! ### FIND and LIST (R167) -/

theorem State.lookup_eq_none {s : State} {topic : Word} (h : ∀ r, (topic, r) ∉ s.topicIndex) :
    s.lookup topic = none := by
  refine Option.map_eq_none_iff.2 (List.find?_eq_none.2 fun e mem same => h e.2 ?_)
  simp only [decide_eq_true_eq] at same
  rwa [← same]

theorem State.TopicsOk.lookup {s : State} (ok : s.TopicsOk) {topic : Word} {r : RowId} (h : (topic, r) ∈ s.topicIndex) :
    s.lookup topic = some r := by
  cases found : s.topicIndex.find? fun e => e.1 = topic with
  | none => exact absurd (by simp) (List.find?_eq_none.1 found _ h)
  | some e =>
    have topics : e.1 = topic := by simpa using List.find?_some found
    have mem := List.mem_of_find?_eq_some found
    have same : e = (topic, r) := List.inj_on_of_nodup_map ok.once mem h topics
    simp [State.lookup, found, same]

/-- A transaction that reports without a change ends with the table as it was. -/
theorem SameTable.of_finish (s : State) (code : Word) (row : Byte) (words : List Word) :
    SameTable s ((s.commanded code).finish row words).wakeAll := ⟨rfl, rfl, rfl, rfl, rfl⟩

/-- Settles O22: `State.lookup` and `State.firstRow` say what the two commands report. -/
theorem findAndListReportRows : Obligations.FindAndListReportRows := by
  refine ⟨fun s ready => ⟨_, Carried.of_command ready (code := 3) (k := .find) rfl rfl nofun, fun none => ?_,
    fun ok r mem => ?_⟩, fun s ready => ⟨_, Carried.of_command ready (code := 4) (k := .list) rfl rfl nofun,
      fun none => ?_, fun r above used first => ?_⟩⟩
  · have found : (s.commanded 3).lookup s.cu.params[0] = Option.none := State.lookup_eq_none (s := s) none
    simp only [State.commandTransaction, State.findTransaction, found]
    exact Refuses.of_refuse s 3 .notFound
  · have found : (s.commanded 3).lookup s.cu.params[0] = some r := State.TopicsOk.lookup ok mem
    simp only [State.commandTransaction, State.findTransaction, found, rowAndState_eq]
    exact ⟨.of_finish s 3 _ _, .of_finish _ (rowByte_toNat r) _⟩
  · have found : (s.commanded 4).firstRow (fun r row => s.cu.params[0].toNat ≤ r.val ∧ row.state ≠ .free) =
        Option.none := by
      refine State.firstRow_eq_none fun r => ?_
      exact decide_eq_false fun ⟨above, used⟩ => used (none r above)
    simp only [State.commandTransaction, State.listTransaction, found]
    exact Refuses.of_refuse s 4 .notFound
  · have found : (s.commanded 4).firstRow (fun r row => s.cu.params[0].toNat ≤ r.val ∧ row.state ≠ .free) = some r := by
      refine State.firstRow_eq_some (by simp [above, used]) fun q lower => ?_
      exact decide_eq_false fun ⟨above, used⟩ => used (first q above lower)
    simp only [State.commandTransaction, State.listTransaction, found, rowAndState_eq]
    exact ⟨.of_finish s 4 _ _, .of_finish _ (rowByte_toNat r) _⟩

/-! ### TAKE (R176) and CLEAR TABLE (R177) -/

/-- Settles O30: the head of the attention list leaves it. -/
theorem takeRemovesTheHead : Obligations.TakeRemovesTheHead := by
  intro s ready
  refine ⟨_, Carried.of_command ready (code := 13) (k := .take) rfl rfl nofun, fun empty => ?_, fun e rest list => ?_⟩
  · have list : (s.commanded 13).attention = [] := empty
    simp only [State.commandTransaction, State.takeTransaction, list]
    exact Refuses.of_refuse s 13 .empty
  · have list : (s.commanded 13).attention = e :: rest := list
    have values (n : Nat) : placed n 0 = BitVec.ofNat 16 n := congrArg _ (Nat.mul_one n)
    simp only [State.commandTransaction, State.takeTransaction, list, values]
    exact ⟨rfl, rfl, rfl, rfl, rfl, .of_finish _ (rowByte_toNat e.row) _⟩

/-- Settles O31: with no channel online the table is emptied; else the transaction refuses. -/
theorem clearTableFreesEveryRow : Obligations.ClearTableFreesEveryRow := by
  refine ⟨fun s ready off => ?_, fun s p code requested working next online => ?_⟩
  · have offline : s.channelsOnline = false := by
      rw [← Bool.not_eq_true, s.channelsOnline_iff]
      rintro ⟨c, on | owed⟩
      · exact on (off c)
      · simp [(ready.2.2.2 c).2] at owed
    have offline' : (s.commanded 14).channelsOnline = false := offline
    refine ⟨_, Carried.of_command ready (code := 14) (k := .clearTable) rfl rfl fun _ => offline, ?_⟩
    have idle : s.channels.map ChannelEngine.wake = s.channels := by
      refine Quad.ext_get fun c => ?_
      rw [Quad.get_map]
      exact ChannelEngine.wake_of_other (by rw [show (s.channels.get c).state = .offline from off c]; nofun)
    have void : s.iu.presented.map (fun (q : Presented) => { q with void := true }) = none := by
      rw [ready.2.2.1]
      rfl
    simp only [State.commandTransaction, State.clearTransaction, offline', Bool.false_eq_true, if_false]
    refine ⟨fun r => row_replicate_free r, rfl, rfl, ?_, idle, .of_finish _ rfl _⟩
    exact congrArg (fun o => ({ dueList := [], presented := o, tickCount := s.iu.tickCount } : IntervalUnit)) void
  · have online := s.channelsOnline_iff.2 online
    have known : CommandKind.ofCode s.cu.code = some .clearTable := CommandKind.ofCode_eq_clearTable.2 code
    have runs : execCommandTransaction s = .next (s.transact .cu fun t => t.commandTransaction .clearTable p) := by
      simp only [execCommandTransaction, requested, working, known]
    have refused : State.commandTransaction { s with served := .cu, turn := none } .clearTable p =
        { s with served := .cu, turn := none }.refuse .channelsOnline := if_pos online
    refine ⟨_, runs.trans (congrArg _ ((State.transact_turn next _).trans (congrArg _ refused))), ?_⟩
    exact ⟨rfl, rfl, rfl, rfl, rfl, rfl, rfl, rfl⟩

/-! ### FETCH (R168) -/

theorem sendStateWord_eq (row : Row) : sendStateWord row = BitVec.ofNat 16
    (64 * (row.side.get 3).sendState.code + 16 * (row.side.get 2).sendState.code +
      4 * (row.side.get 1).sendState.code + (row.side.get 0).sendState.code) := by
  have a := (row.side.get 0).sendState.code_lt
  have b := (row.side.get 1).sendState.code_lt
  have d := (row.side.get 2).sendState.code_lt
  have e := (row.side.get 3).sendState.code_lt
  simp only [sendStateWord, placed, Row.sendStateOn]
  rw [ofNat_or_ofNat_low 2 (by decide) (by omega) (by omega), ofNat_or_ofNat_low 4 (by decide) (by omega) (by omega),
    ofNat_or_ofNat_low 6 (by decide) (by omega) (by omega)]
  exact congrArg _ (by omega)

theorem lastResultWord_eq (row : Row) : lastResultWord row = BitVec.ofNat 16
    (4096 * (row.side.get 3).lastResult.code + 256 * (row.side.get 2).lastResult.code +
      16 * (row.side.get 1).lastResult.code + (row.side.get 0).lastResult.code) := by
  have a := row.side.q0.lastResult.code_lt
  have b := row.side.q1.lastResult.code_lt
  have d := row.side.q2.lastResult.code_lt
  have e := row.side.q3.lastResult.code_lt
  simp only [lastResultWord, placed]
  rw [ofNat_or_ofNat_low 4 (by decide) (by omega) (by omega), ofNat_or_ofNat_low 8 (by decide) (by omega) (by omega),
    ofNat_or_ofNat_low 12 (by decide) (by omega) (by omega)]
  simp only [Quad.get]
  exact congrArg _ (by omega)

theorem bytesWord_high (hi lo : Byte) : (bytesWord hi lo).extractLsb' 8 8 = hi := by
  have a := hi.isLt
  have b := lo.isLt
  refine BitVec.eq_of_toNat_eq ?_
  simp only [bytesWord, BitVec.extractLsb'_toNat, BitVec.toNat_ofNat, Nat.shiftRight_eq_div_pow]
  omega

theorem bytesWord_low (hi lo : Byte) : (bytesWord hi lo).extractLsb' 0 8 = lo := by
  have a := hi.isLt
  have b := lo.isLt
  refine BitVec.eq_of_toNat_eq ?_
  simp only [bytesWord, BitVec.extractLsb'_toNat, BitVec.toNat_ofNat, Nat.shiftRight_zero]
  omega

/-- The bytes of an image and the zero bytes after it. -/
def paddedImage (bytes : List Byte) : List Byte := bytes ++ List.replicate (16 - bytes.length) 0

theorem paddedImage_getD (bytes : List Byte) (k : Nat) : (paddedImage bytes).getD k 0 = bytes.getD k 0 := by
  unfold paddedImage
  by_cases within : k < bytes.length
  · simp [List.getD, List.getElem?_append_left within]
  · rw [List.getD, List.getElem?_append_right (by omega), List.getElem?_replicate, List.getD,
      List.getElem?_eq_none (by omega)]
    split <;> rfl

theorem imageWords_hold {bytes : List Byte} (short : bytes.length ≤ 16) :
    ImageWordsHold (fun k => (imageWords bytes).getD k 0) (paddedImage bytes) := by
  refine ⟨by simp [paddedImage]; omega, fun k small => ?_⟩
  have word : (imageWords bytes).getD k 0 = bytesWord (bytes.getD (2 * k) 0) (bytes.getD (2 * k + 1) 0) := by
    simp [imageWords, List.getD, small]
  dsimp only
  rw [word, bytesWord_high, bytesWord_low, paddedImage_getD, paddedImage_getD]
  exact ⟨rfl, rfl⟩

/-- The first eight words FETCH copies. -/
theorem fetchResults_eq {row : Row} (ok : row.Ok) : fetchResults row =
    [BitVec.ofNat 16 (64 * row.arrivalChannel.isSome.toNat + 32 * row.sourceStation.isSome.toNat +
        16 * row.image.isSome.toNat + row.state.code),
      row.topic.getD 0, row.generation,
      BitVec.ofNat 16 (256 * row.sequence.toNat + (row.sourceStation.getD 0).toNat), row.age,
      BitVec.ofNat 16 (64 * (row.side.get 3).sendState.code + 16 * (row.side.get 2).sendState.code +
        4 * (row.side.get 1).sendState.code + (row.side.get 0).sendState.code),
      BitVec.ofNat 16 (4096 * (row.side.get 3).lastResult.code + 256 * (row.side.get 2).lastResult.code +
        16 * (row.side.get 1).lastResult.code + (row.side.get 0).lastResult.code),
      BitVec.ofNat 16 (256 * (row.arrivalChannel.getD 0).val + row.rejectCount.toNat)] ++
      imageWords (row.image.getD []) := by
  have state := row.state.code_lt
  have rejects := row.rejectCount.isLt
  have station : (row.sourceStation.getD 0).toNat < 32 := by
    cases source : row.sourceStation with
    | none => decide
    | some b => exact Nat.lt_succ_of_le (ok.source b source).2
  have first : bitWord 6 row.arrivalChannel.isSome ||| bitWord 5 row.sourceStation.isSome |||
      bitWord 4 row.image.isSome ||| placed row.state.code 0 =
      BitVec.ofNat 16 (64 * row.arrivalChannel.isSome.toNat + 32 * row.sourceStation.isSome.toNat +
        16 * row.image.isSome.toNat + row.state.code) := by
    have a := row.sourceStation.isSome.toNat_le
    have b := row.image.isSome.toNat_le
    simp only [bitWord_eq_ofNat, placed]
    rw [ofNat_or_ofNat 6 (by decide) (by omega) (by omega), ofNat_or_ofNat 5 (by decide) (by omega) (by omega),
      ofNat_or_ofNat 4 (by decide) (by omega) (by omega)]
    exact congrArg _ (by omega)
  have origin : placed row.sequence.toNat 8 ||| placed ((row.sourceStation.getD 0).toNat % 32) 0 =
      BitVec.ofNat 16 (256 * row.sequence.toNat + (row.sourceStation.getD 0).toNat) := by
    refine (ofNat_or_ofNat 8 (by decide) (by omega) (by omega)).trans (congrArg _ ?_)
    omega
  have last : placed (row.arrivalChannel.getD 0).val 8 ||| placed row.rejectCount.toNat 0 =
      BitVec.ofNat 16 (256 * (row.arrivalChannel.getD 0).val + row.rejectCount.toNat) := by
    refine (ofNat_or_ofNat 8 (by decide) (by omega) (by omega)).trans (congrArg _ ?_)
    omega
  rw [fetchResults, first, origin, ← last, sendStateWord_eq, lastResultWord_eq]
  cases row.arrivalChannel <;> rfl

/-- Settles O23: `fetchResults_eq` word by word; the clearing option acts after the copy. -/
theorem fetchCopiesTheRow : Obligations.FetchCopiesTheRow := by
  intro s ready
  refine ⟨_, Carried.of_command ready (code := 5) (k := .fetch) rfl rfl nofun, fun none => ?_, fun r named ok => ?_⟩
  · have found : (s.commanded 5).namedRow s.cu.params = Option.none := State.namedRow_of_none (s := s) none
    simp only [State.commandTransaction, State.fetchTransaction, found]
    exact Refuses.of_refuse s 5 .noRow
  have found : (s.commanded 5).namedRow s.cu.params = some r := State.namedRow_of_names (s := s) named
  have short : ((s.row r).image.getD []).length ≤ 16 := by
    cases image : (s.row r).image with
    | none => exact Nat.zero_le _
    | some bytes => exact (ok.image bytes image).trans_le ok.length
  have images : ∃ images : List Word, images.length = 8 ∧
      (∃ bytes, ImageWordsHold (fun k => images.getD k 0) bytes ∧
        (∀ image, (s.row r).image = some image → bytes.take (s.row r).length = image ∧
          ∀ b ∈ bytes.drop (s.row r).length, b = 0) ∧
        ((s.row r).image = Option.none → ∀ b ∈ bytes, b = 0)) ∧ images = imageWords ((s.row r).image.getD []) := by
    refine ⟨_, by simp [imageWords], ⟨_, imageWords_hold short, fun image present => ?_, fun absent b mem => ?_⟩, rfl⟩
    · have length := ok.image image present
      simp [paddedImage, present, ← length]
    · simp only [absent, paddedImage, Option.getD_none, List.nil_append] at mem
      exact List.eq_of_mem_replicate mem
  obtain ⟨images, eight, bytes, made⟩ := images
  simp only [State.commandTransaction, State.fetchTransaction, found, State.commanded_row, fetchResults_eq ok]
  split
  case isTrue clears =>
    have clears : s.cu.params[1].getLsbD 0 = true := clears
    refine ⟨?_, ⟨fun q ne => ?_, rfl, rfl⟩, rfl, rfl, images, eight, bytes, ?_⟩
    · rw [clears, State.wakeAll_row, State.row_updRow_self]
      rfl
    · rw [State.wakeAll_row, State.row_updRow_ne _ _ (Ne.symm ne)]
      rfl
    · rw [made]
      exact Finishes.of_finish (s.commanded 5) (rowByte_toNat r) _
  case isFalse keeps =>
    have keeps : s.cu.params[1].getLsbD 0 = false := eq_false_of_ne_true keeps
    refine ⟨?_, ⟨fun q ne => rfl, rfl, rfl⟩, rfl, rfl, images, eight, bytes, ?_⟩
    · rw [keeps]
      rfl
    · rw [made]
      exact .of_finish _ (rowByte_toNat r) _

end Sys2Proof.Machine
end

section
/-! PROOFS. The commands that set a row's fields: DECLARE, AMEND and RESUME (O20, O21, O28). -/

namespace Sys2Proof.Machine

set_option Elab.async false

/-! ### Fields of a parameter word -/

theorem field_eq (w : Word) (low width : Nat) : field w low width = (w.extractLsb' low width).toNat := by
  rw [field, BitVec.extractLsb'_toNat, Nat.shiftRight_eq_div_pow]

theorem ofNat_field (w : Word) (low width n : Nat) :
    BitVec.ofNat n (field w low width) = (w.extractLsb' low width).setWidth n := by
  rw [field_eq, BitVec.ofNat_toNat]

theorem ofNat_field_self (w : Word) (low width : Nat) :
    BitVec.ofNat width (field w low width) = w.extractLsb' low width := by
  rw [ofNat_field, BitVec.setWidth_eq]

theorem wordBytes_eq (w : Word) : wordBytes w = [w.extractLsb' 8 8, w.extractLsb' 0 8] := by
  have high : BitVec.ofNat 8 (w.toNat / 256) = w.extractLsb' 8 8 := by
    refine BitVec.eq_of_toNat_eq ?_
    simp only [BitVec.extractLsb'_toNat, BitVec.toNat_ofNat, Nat.shiftRight_eq_div_pow]
  have low : BitVec.ofNat 8 w.toNat = w.extractLsb' 0 8 := by
    refine BitVec.eq_of_toNat_eq ?_
    simp only [BitVec.extractLsb'_toNat, BitVec.toNat_ofNat, Nat.shiftRight_zero]
  rw [wordBytes, high, low]

/-- The bytes of a list of words, read in pairs. -/
theorem flatMap_wordBytes_getD (l : List Word) {k : Nat} (h : k < l.length) :
    (l.flatMap wordBytes).getD (2 * k) 0 = (l.getD k 0).extractLsb' 8 8 ∧
      (l.flatMap wordBytes).getD (2 * k + 1) 0 = (l.getD k 0).extractLsb' 0 8 := by
  induction l generalizing k with
  | nil => simp at h
  | cons w l ih =>
    cases k with
    | zero => simp [wordBytes_eq]
    | succ k =>
      have within : k < l.length := by simpa using h
      have next := ih within
      simpa [wordBytes_eq, Nat.mul_succ] using next

theorem imageBytes_hold (p : Vector Word 16) {first : Nat} (h : first ≤ 8) :
    ImageWordsHold (fun k => p.toList.getD (first + k) 0) (imageBytes p first) := by
  refine ⟨imageBytes_length p h, fun k small => ?_⟩
  have within : k < ((p.toList.drop first).take 8).length := by
    simp only [List.length_take, List.length_drop, Vector.length_toList]
    omega
  have word : ((p.toList.drop first).take 8).getD k 0 = p.toList.getD (first + k) 0 := by
    simp [List.getD, small, List.getElem?_drop]
  rw [imageBytes]
  simp only [← word]
  exact flatMap_wordBytes_getD _ within

/-! ### The checks of DECLARE and AMEND (R164, R166) -/

theorem badTiming_iff (role : Role) (limit period : Word) (recallOnStale sequenceCheck : Bool) :
    badTiming role limit period recallOnStale sequenceCheck = true ↔
      TimingUnsuited role limit period recallOnStale sequenceCheck := by
  cases role <;> simp [badTiming, TimingUnsuited, or_assoc]

theorem badMask_iff (role : Role) (source send : ChannelMask) :
    badMask role source send = true ↔ MasksUnsuited role source send := by
  cases role <;> simp [badMask, MasksUnsuited]

/-! ### Deadlines that leave the due list (R88) -/

theorem LeftDueList.refl {s : State} (r : RowId) {gone : DeadlineKind → Prop} (h : ∀ k, ¬ gone k) :
    LeftDueList r gone s s := ⟨rfl, rfl, fun e => by simp [h e.kind]⟩

theorem LeftDueList.trans {s t u : State} {r : RowId} {g k : DeadlineKind → Prop} (a : LeftDueList r g s t)
    (b : LeftDueList r k t u) : LeftDueList r (fun x => g x ∨ k x) s u := by
  obtain ⟨presented, count, due⟩ := a
  obtain ⟨presented', count', due'⟩ := b
  refine ⟨presented'.trans presented, count'.trans count, fun e => ?_⟩
  rw [due' e, due e]
  tauto

theorem LeftDueList.congr {s u : State} {r : RowId} {g k : DeadlineKind → Prop} (a : LeftDueList r g s u)
    (same : ∀ x, g x ↔ k x) : LeftDueList r k s u := by
  obtain ⟨presented, count, due⟩ := a
  refine ⟨presented, count, fun e => ?_⟩
  rw [due e, same]

/-- Only the interval unit matters. -/
theorem LeftDueList.of_iu {s s' u u' : State} {r : RowId} {gone : DeadlineKind → Prop} (a : LeftDueList r gone s u)
    (before : s'.iu = s.iu) (after : u'.iu = u.iu) : LeftDueList r gone s' u' := by
  unfold LeftDueList at a ⊢
  rwa [before, after]

/-- With nothing presented, a withdrawn expiry leaves the due list and no more. -/
theorem LeftDueList.withdraw {s : State} (idle : s.iu.presented = none) (r : RowId) (k : DeadlineKind) :
    LeftDueList r (· = k) s (s.withdraw r k) := by
  refine ⟨?_, rfl, fun e => ?_⟩
  · rw [State.withdraw_presented, idle]
    rfl
  · rw [State.withdraw_dueList, List.mem_filter]
    have entry : e = { row := r, kind := k } ↔ e.row = r ∧ e.kind = k := by cases e; simp
    rw [decide_eq_true_eq, ne_eq, entry]

theorem LeftDueList.startDeadline {s : State} (idle : s.iu.presented = none) (r : RowId) (k : DeadlineKind) :
    LeftDueList r (· = k) s (s.startDeadline r k) := LeftDueList.withdraw idle r k

/-! ### DECLARE (R17, R164, R165) -/

/-- A row taken for a declaration holds its fields, with its two deadlines started. -/
theorem State.takeRow_row (s : State) (r : RowId) (d : DeclareParams) : (s.takeRow r d).row r = { declaredRow d with
    freshness := startedDeadline d.freshnessLimit.toNat, refresh := startedDeadline d.refreshPeriod.toNat } := by
  have set : (({ s.updRow r fun _ => declaredRow d with
      topicIndex := s.topicIndex ++ [(d.topic, r)] } : State).row r) = declaredRow d :=
    State.row_updRow_self s r fun _ => declaredRow d
  have start := State.startDeadline_row_self ({ s.updRow r fun _ => declaredRow d with
    topicIndex := s.topicIndex ++ [(d.topic, r)] } : State) r .freshness
  rw [set] at start
  rw [State.takeRow, State.startDeadline_row_self]
  refine (congrArg (fun row : Row => row.withDeadline .refresh (startedDeadline
    (row.deadlineLength .refresh))) start).trans ?_
  rfl

theorem State.takeRow_leftDueList {s : State} (idle : s.iu.presented = none) (r : RowId) (d : DeclareParams) :
    LeftDueList r (fun k => k ≠ .gap) s (s.takeRow r d) := by
  let set : State := { s.updRow r fun _ => declaredRow d with topicIndex := s.topicIndex ++ [(d.topic, r)] }
  have first : LeftDueList r (· = .freshness) set (set.startDeadline r .freshness) := .startDeadline idle r _
  have second := LeftDueList.startDeadline (first.1.trans idle) r .refresh
  have both : LeftDueList r (fun k => k ≠ .gap) set _ := (first.trans second).congr fun k => by cases k <;> simp
  exact both

/-- Settles O20: the checks are `declareFault`'s in their order, the row is `declaredRow`. -/
theorem declareTakesTheLowestFreeRow : Obligations.DeclareTakesTheLowestFreeRow := by
  intro s ready
  refine ⟨_, Carried.of_command ready (code := 1) (k := .declare) rfl rfl nofun, ?_⟩
  intro p role source send topicBad timingBad inUse
  have sourceEq : (declareParams p).sourceMask = source := ofNat_field_self _ _ _
  have sendEq : (declareParams p).sendMask = send := ofNat_field_self _ _ _
  have masks : badMask (declareParams p).role (declareParams p).sourceMask (declareParams p).sendMask = true ↔
      MasksUnsuited role source send := by
    rw [badMask_iff, sourceEq, sendEq]
    rfl
  have timing : badTiming (declareParams p).role (declareParams p).freshnessLimit (declareParams p).refreshPeriod
      (declareParams p).recallOnStale (declareParams p).sequenceCheck = true ↔ timingBad := badTiming_iff _ _ _ _ _
  have fit (topic : ¬ topicBad) : ¬ ((declareParams p).topic.toNat = 0 ∨ 4094 < (declareParams p).topic.toNat) := topic
  have refused (code : ResultCode) (fault : declareFault (declareParams p) = some code) :
      Refuses s ((s.commanded 1).commandTransaction .declare s.cu.params).wakeAll code := by
    simp only [State.commandTransaction, State.declareTransaction, show s.cu.params = p from rfl, fault]
    exact Refuses.of_refuse s 1 code
  have passes (topic : ¬ topicBad) (length : p[2].toNat ≤ 16) (mask : ¬ MasksUnsuited role source send)
      (time : ¬ timingBad) : declareFault (declareParams p) = none := by
    have length : ¬ Config.maxLength < (declareParams p).length := Nat.not_lt.2 length
    rw [declareFault, if_neg (fit topic), if_neg length, if_neg (masks.not.2 mask), if_neg (timing.not.2 time)]
  have known : (s.commanded 1).lookup (declareParams p).topic = s.lookup p[0] := rfl
  have lookup (free : ¬ inUse) : s.lookup p[0] = none := State.lookup_eq_none fun r mem => free ⟨r, mem⟩
  refine ⟨fun topic => refused _ ?_, fun topic length => refused _ ?_, fun topic length mask => refused _ ?_,
    fun topic length mask time => refused _ ?_, fun topic length mask time used => ?_,
    fun topic length mask time free full => ?_, fun topic length mask time free r unused first => ?_⟩
  · rw [declareFault]
    exact if_pos topic
  · have length : Config.maxLength < (declareParams p).length := length
    rw [declareFault, if_neg (fit topic), if_pos length]
  · have length : ¬ Config.maxLength < (declareParams p).length := Nat.not_lt.2 length
    rw [declareFault, if_neg (fit topic), if_neg length, if_pos (masks.2 mask)]
  · have length : ¬ Config.maxLength < (declareParams p).length := Nat.not_lt.2 length
    rw [declareFault, if_neg (fit topic), if_neg length, if_neg (masks.not.2 mask), if_pos (timing.2 time)]
  · have found : (s.lookup p[0]).isSome = true := by
      obtain ⟨r, mem⟩ := used
      rw [State.lookup, Option.isSome_map, List.find?_isSome]
      exact ⟨_, mem, by simp⟩
    simp only [State.commandTransaction, State.declareTransaction, show s.cu.params = p from rfl,
      passes topic length mask time, known, found, if_true]
    exact Refuses.of_refuse s 1 .topicInUse
  · have none_free : (s.commanded 1).firstRow (fun _ row => decide (row.state = .free)) = none :=
      State.firstRow_eq_none fun r => decide_eq_false (full r)
    simp only [State.commandTransaction, State.declareTransaction, show s.cu.params = p from rfl,
      passes topic length mask time, known, lookup free, Option.isSome_none, Bool.false_eq_true, if_false, none_free]
    exact Refuses.of_refuse s 1 .tableFull
  · have lowest : (s.commanded 1).firstRow (fun _ row => decide (row.state = .free)) = some r :=
      State.firstRow_eq_some (decide_eq_true unused) fun q lower => decide_eq_false (first q lower)
    refine ⟨imageBytes p 7, imageBytes_hold p (by decide), ?_⟩
    simp only [State.commandTransaction, State.declareTransaction, show s.cu.params = p from rfl,
      passes topic length mask time, known, lookup free, Option.isSome_none, Bool.false_eq_true, if_false, lowest,
      rowAndState_eq]
    have row := State.takeRow_row (s.commanded 1) r (declareParams p)
    have others : ∀ q, q ≠ r → ((s.commanded 1).takeRow r (declareParams p)).row q = s.row q :=
      fun q ne => State.takeRow_row_ne (s.commanded 1) (Ne.symm ne) _
    have left : LeftDueList r (fun k => k ≠ .gap) s ((s.commanded 1).takeRow r (declareParams p)) :=
      State.takeRow_leftDueList (s := s.commanded 1) ready.2.2.1 r (declareParams p)
    have topics : ((s.commanded 1).takeRow r (declareParams p)).topicIndex = s.topicIndex ++ [(p[0], r)] := rfl
    have attention : ((s.commanded 1).takeRow r (declareParams p)).attention = s.attention := rfl
    have channels : ((s.commanded 1).takeRow r (declareParams p)).channels = s.channels := rfl
    generalize (s.commanded 1).takeRow r (declareParams p) = t at row others left topics attention channels
    refine ⟨row.trans ?_, others, topics, attention, congrArg (Quad.map ChannelEngine.wake) channels, left,
      .of_finish _ (rowByte_toNat r) _⟩
    simp only [declaredRow, declareParams, ofNat_field_self, ofNat_field]
    simp only [field_eq]
    rfl

/-! ### AMEND (R166) -/

/-- A deadline an AMEND has changed is restarted unless the row is SUSPENDED. -/
theorem State.amendDeadline_row_self (s : State) (r : RowId) (k : DeadlineKind) (changed : Bool) :
    (s.amendDeadline r k changed).row r = if changed = true ∧ (s.row r).state ≠ .suspended then
      (s.row r).withDeadline k (startedDeadline ((s.row r).deadlineLength k)) else s.row r := by
  unfold State.amendDeadline
  split
  · exact State.startDeadline_row_self s r k
  · rfl

theorem State.amendDeadline_row_ne (s : State) {r q : RowId} (ne : r ≠ q) (k : DeadlineKind) (changed : Bool) :
    (s.amendDeadline r k changed).row q = s.row q := by
  unfold State.amendDeadline
  split
  · exact State.startDeadline_row_ne s k ne
  · rfl

/-- An AMEND of a deadline leaves the lists and the channels. -/
theorem State.amendDeadline_rest (s : State) (r : RowId) (k : DeadlineKind) (changed : Bool) :
    (s.amendDeadline r k changed).topicIndex = s.topicIndex ∧ (s.amendDeadline r k changed).attention = s.attention ∧
      (s.amendDeadline r k changed).channels = s.channels := by
  unfold State.amendDeadline
  split <;> exact ⟨rfl, rfl, rfl⟩

theorem LeftDueList.amendDeadline {s : State} (idle : s.iu.presented = none) (r : RowId) (k : DeadlineKind)
    (changed : Bool) : LeftDueList r (fun x => x = k ∧ changed = true ∧ (s.row r).state ≠ .suspended) s
      (s.amendDeadline r k changed) := by
  unfold State.amendDeadline
  split
  case isTrue restarts => exact (LeftDueList.startDeadline idle r k).congr fun x => (and_iff_left restarts).symm
  case isFalse keeps => exact .refl r fun x h => keeps h.2

/-- A row with changed fields, the deadlines whose lengths changed restarted. -/
def State.amended (s : State) (r : RowId) (new : Row) (freshness refresh : Bool) : State :=
  ((s.updRow r fun _ => new).amendDeadline r .freshness freshness).amendDeadline r .refresh refresh

theorem State.amended_row_self (s : State) (r : RowId) (new : Row) (freshness refresh : Bool) :
    (s.amended r new freshness refresh).row r = { new with
      freshness := if freshness = true ∧ new.state ≠ .suspended then startedDeadline new.freshnessLimit.toNat
        else new.freshness
      refresh := if refresh = true ∧ new.state ≠ .suspended then startedDeadline new.refreshPeriod.toNat
        else new.refresh } := by
  rw [State.amended, State.amendDeadline_row_self, State.amendDeadline_row_self, State.row_updRow_self]
  by_cases first : freshness = true ∧ new.state ≠ .suspended
  · by_cases second : refresh = true ∧ new.state ≠ .suspended
    · rw [if_pos first, if_pos second, if_pos first]
      exact if_pos second
    · rw [if_pos first, if_neg second, if_pos first]
      exact if_neg second
  · by_cases second : refresh = true ∧ new.state ≠ .suspended
    · rw [if_neg first, if_pos second, if_pos second, if_neg first]
      rfl
    · rw [if_neg first, if_neg second, if_neg second, if_neg first]

theorem State.amended_row_ne (s : State) {r q : RowId} (ne : r ≠ q) (new : Row) (freshness refresh : Bool) :
    (s.amended r new freshness refresh).row q = s.row q := by
  rw [State.amended, State.amendDeadline_row_ne _ ne, State.amendDeadline_row_ne _ ne, State.row_updRow_ne _ _ ne]

theorem State.amended_rest (s : State) (r : RowId) (new : Row) (freshness refresh : Bool) :
    (s.amended r new freshness refresh).topicIndex = s.topicIndex ∧
      (s.amended r new freshness refresh).attention = s.attention ∧
      (s.amended r new freshness refresh).channels = s.channels := by
  obtain ⟨topics, attention, channels⟩ := (s.updRow r fun _ => new).amendDeadline_rest r .freshness freshness
  obtain ⟨topics', attention', channels'⟩ :=
    ((s.updRow r fun _ => new).amendDeadline r .freshness freshness).amendDeadline_rest r .refresh refresh
  exact ⟨topics'.trans topics, attention'.trans attention, channels'.trans channels⟩

theorem LeftDueList.amended {s : State} (idle : s.iu.presented = none) (r : RowId) (new : Row)
    (freshness refresh : Bool) : LeftDueList r (fun k => new.state ≠ .suspended ∧
      ((k = .freshness ∧ freshness = true) ∨ (k = .refresh ∧ refresh = true))) s
        (s.amended r new freshness refresh) := by
  have first := LeftDueList.amendDeadline (s := s.updRow r fun _ => new) idle r .freshness freshness
  have second := LeftDueList.amendDeadline (first.1.trans idle) r .refresh refresh
  have state : (((s.updRow r fun _ => new).amendDeadline r .freshness freshness).row r).state = new.state := by
    rw [State.amendDeadline_row_self, State.row_updRow_self]
    split <;> rfl
  rw [State.row_updRow_self] at first
  rw [state] at second
  refine ((first.trans second).congr fun k => ⟨?_, ?_⟩).of_iu rfl rfl
  · rintro (⟨kind, changed, serves⟩ | ⟨kind, changed, serves⟩)
    · exact ⟨serves, .inl ⟨kind, changed⟩⟩
    · exact ⟨serves, .inr ⟨kind, changed⟩⟩
  · rintro ⟨serves, ⟨kind, changed⟩ | ⟨kind, changed⟩⟩
    · exact .inl ⟨kind, changed, serves⟩
    · exact .inr ⟨kind, changed, serves⟩

/-- AMEND's words as the manual lays them out (R200). -/
theorem amendResults_eq (r : RowId) (row : Row) : amendResults r row = [rowStateWord r row.state,
    BitVec.ofNat 16 (8192 * row.sequenceCheck.toNat + 4096 * row.recallOnStale.toNat + row.attentionMask.toNat),
    row.freshnessLimit, row.refreshPeriod, BitVec.ofNat 16
      (256 * row.confirmStation.toNat + row.inhibitGap.toNat)] := by
  have mask := row.attentionMask.isLt
  have gap := row.inhibitGap.isLt
  have flag := row.recallOnStale.toNat_le
  have flags : bitWord 13 row.sequenceCheck ||| bitWord 12 row.recallOnStale ||| placed row.attentionMask.toNat 0 =
      BitVec.ofNat 16 (8192 * row.sequenceCheck.toNat + 4096 * row.recallOnStale.toNat + row.attentionMask.toNat) := by
    simp only [bitWord_eq_ofNat, placed]
    rw [ofNat_or_ofNat 13 (by decide) (by omega) (by omega), ofNat_or_ofNat 12 (by decide) (by omega) (by omega)]
    exact congrArg _ (by omega)
  have last : placed row.confirmStation.toNat 8 ||| placed row.inhibitGap.toNat 0 =
      BitVec.ofNat 16 (256 * row.confirmStation.toNat + row.inhibitGap.toNat) := by
    refine (ofNat_or_ofNat 8 (by decide) (by omega) (by omega)).trans (congrArg _ ?_)
    omega
  rw [amendResults, flags, last, rowAndState_eq]

/-- BAD_TIMING of a row as AMEND would leave it. -/
def Row.badTiming (row : Row) : Bool :=
  Machine.badTiming row.role row.freshnessLimit row.refreshPeriod row.recallOnStale row.sequenceCheck

section Amend

variable {s : State} {p : Vector Word 16} {r : RowId} (named : s.namedRow p = some r)
include named

theorem State.amendTransaction_retiring (retiring : (s.row r).state = .retiring) :
    s.amendTransaction p = s.refuse .wrongState := by
  simp [State.amendTransaction, named, retiring]

theorem State.amendTransaction_badTiming (other : (s.row r).state ≠ .retiring)
    (bad : (amendedRow (s.row r) p).badTiming = true) : s.amendTransaction p = s.refuse .badTiming := by
  unfold Row.badTiming at bad
  simp [State.amendTransaction, named, other, bad]

theorem State.amendTransaction_done (other : (s.row r).state ≠ .retiring)
    (suited : (amendedRow (s.row r) p).badTiming = false) : s.amendTransaction p =
      (s.amended r (amendedRow (s.row r) p) ((s.row r).freshnessLimit ≠ (amendedRow (s.row r) p).freshnessLimit)
        ((s.row r).refreshPeriod ≠ (amendedRow (s.row r) p).refreshPeriod)).finish (rowByte r)
          (amendResults r (amendedRow (s.row r) p)) := by
  unfold Row.badTiming at suited
  simp only [State.amendTransaction, named, if_neg other, suited, Bool.false_eq_true, if_false]
  rfl

end Amend

/-- Settles O21: the row is `amendedRow` with the deadlines of `State.amended`. -/
theorem amendReplacesSelectedFields : Obligations.AmendReplacesSelectedFields := by
  intro s ready
  refine ⟨_, Carried.of_command ready (code := 2) (k := .amend) rfl rfl nofun, fun none => ?_, ?_⟩
  · have found : (s.commanded 2).namedRow s.cu.params = Option.none := State.namedRow_of_none (s := s) none
    exact .of_eq (code := 2) (by simp only [State.commandTransaction, State.amendTransaction, found])
  intro r named old mask limit period gap confirm recallFlag sequenceFlag bad
  have found : (s.commanded 2).namedRow s.cu.params = some r := State.namedRow_of_names (s := s) named
  have fields : amendedRow old s.cu.params = { old with
      attentionMask := mask, freshnessLimit := limit, refreshPeriod := period, inhibitGap := gap
      confirmStation := confirm, recallOnStale := recallFlag, sequenceCheck := sequenceFlag } := by
    simp only [amendedRow, ofNat_field_self, ofNat_field]
    rfl
  have timing : (amendedRow old s.cu.params).badTiming = true ↔ bad := by
    rw [fields]
    exact badTiming_iff _ _ _ _ _
  refine ⟨fun retiring => .of_eq (State.amendTransaction_retiring found retiring),
    fun other unsuited => .of_eq (State.amendTransaction_badTiming found other (timing.2 unsuited)),
    fun other suited => ?_⟩
  have done := State.amendTransaction_done found other (eq_false_of_ne_true (timing.not.2 suited))
  rw [amendResults_eq, State.commanded_row, show s.row r = old from rfl, fields] at done
  dsimp only at done
  rw [State.commandTransaction, done]
  let new : Row := { old with
    attentionMask := mask, freshnessLimit := limit, refreshPeriod := period, inhibitGap := gap
    confirmStation := confirm, recallOnStale := recallFlag, sequenceCheck := sequenceFlag }
  obtain ⟨topics, attention, channels⟩ :=
    (s.commanded 2).amended_rest r new (old.freshnessLimit ≠ limit) (old.refreshPeriod ≠ period)
  have row := (s.commanded 2).amended_row_self r new (old.freshnessLimit ≠ limit) (old.refreshPeriod ≠ period)
  have others : ∀ q, q ≠ r → _ := fun q ne => (s.commanded 2).amended_row_ne (Ne.symm ne) new
    (old.freshnessLimit ≠ limit) (old.refreshPeriod ≠ period)
  have left := LeftDueList.amended (s := s.commanded 2) ready.2.2.1 r new (old.freshnessLimit ≠ limit)
    (old.refreshPeriod ≠ period)
  change let t := (s.commanded 2).amended r new (old.freshnessLimit ≠ limit) (old.refreshPeriod ≠ period)
    let u := (t.finish (rowByte r) _).wakeAll
    u.row r = _ ∧ OtherRowsSame r s u ∧ u.channels = _ ∧ LeftDueList r _ s u ∧ Finishes u _ _
  generalize (s.commanded 2).amended r new (old.freshnessLimit ≠ limit) (old.refreshPeriod ≠ period) = t
    at topics attention channels row others left
  refine ⟨row.trans ?_, ⟨others, topics, attention⟩, congrArg (Quad.map ChannelEngine.wake) channels,
    (left.congr fun k => ?_).of_iu rfl rfl, .of_finish t (rowByte_toNat r) _⟩
  · simp only [decide_eq_true_eq, ne_comm (a := old.freshnessLimit), ne_comm (a := old.refreshPeriod), new]
  · simp only [decide_eq_true_eq, ne_comm (a := old.freshnessLimit), ne_comm (a := old.refreshPeriod), new]

/-! ### RESUME (R20, R174) -/

section Resume

variable {s : State} {p : Vector Word 16} {r : RowId} (named : s.namedRow p = some r)
include named

theorem State.resumeTransaction_refused (other : (s.row r).state ≠ .suspended) :
    s.resumeTransaction p = s.refuse .wrongState := by
  simp [State.resumeTransaction, named, other]

theorem State.resumeTransaction_done (suspended : (s.row r).state = .suspended) : s.resumeTransaction p =
    ((s.updRow r fun row => { row with state := resumedState row }).startDeadline r
      (resumedDeadline (s.row r))).finish (rowByte r) [rowAndState r (resumedState (s.row r))] := by
  simp [State.resumeTransaction, named, suspended]

end Resume

/-- Settles O28: the state of `resumedState`, the deadline of `resumedDeadline`. -/
theorem resumeReturnsToService : Obligations.ResumeReturnsToService := by
  intro s ready
  refine ⟨_, Carried.of_command ready (code := 11) (k := .resume) rfl rfl nofun, fun none => ?_, ?_⟩
  · have found : (s.commanded 11).namedRow s.cu.params = Option.none := State.namedRow_of_none (s := s) none
    exact .of_eq (code := 11) (by simp only [State.commandTransaction, State.resumeTransaction, found])
  intro r named old state
  have found : (s.commanded 11).namedRow s.cu.params = some r := State.namedRow_of_names (s := s) named
  refine ⟨fun other => .of_eq (State.resumeTransaction_refused found other), fun suspended => ?_⟩
  have same : resumedState old = state := by
    simp only [resumedState, state]
    cases old.role <;> rfl
  have done := State.resumeTransaction_done found suspended
  rw [rowAndState_eq, State.commanded_row, show s.row r = old from rfl, same] at done
  rw [State.commandTransaction, done]
  refine ⟨?_, ⟨fun q ne => ?_, rfl, rfl⟩, rfl, ?_, .of_finish _ (rowByte_toNat r) _⟩
  · refine (State.startDeadline_row_self _ _ _).trans ?_
    rw [State.row_updRow_self, State.commanded_row, show s.row r = old from rfl, same]
    cases role : old.role <;> simp [resumedDeadline, role, Row.withDeadline, Row.deadlineLength]
  · refine (State.startDeadline_row_ne _ _ (Ne.symm ne)).trans ?_
    rw [State.row_updRow_ne _ _ (Ne.symm ne), State.commanded_row]
  · let resumed := (s.commanded 11).updRow r fun row => { row with state := resumedState row }
    have left := LeftDueList.startDeadline (s := resumed) ready.2.2.1 r (resumedDeadline old)
    refine (left.congr fun k => ?_).of_iu rfl rfl
    cases role : old.role <;> simp [resumedDeadline, role]

end Sys2Proof.Machine
end

section
/-! PROOFS. The commands that make enqueue requests: POST, SEND and RECALL (O24, O25). -/

namespace Sys2Proof.Machine

set_option Elab.async false

/-! ### An enqueue request does not see the port, the command unit and the table controller -/

/-- A table as it stands in one state, with the port, the command unit and the table controller of another. -/
def State.around (s x : State) : State := { s with port := x.port, cu := x.cu, served := x.served, turn := x.turn }

section Around

variable (s x : State) (r : RowId)

@[simp] theorem State.around_row : (s.around x).row r = s.row r := rfl

@[simp] theorem State.around_ch (c : Channel) : (s.around x).ch c = s.ch c := rfl

theorem State.around_record (q : Reason) : (s.around x).record r q = (s.record r q).around x := by
  by_cases h : hasReason (s.row r).attentionMask q = true
  · have plain : s.record r q = { s with attention := addReason s.attention r q } := if_pos h
    have framed : (s.around x).record r q = { s.around x with attention := addReason s.attention r q } := if_pos h
    rw [plain, framed]
    rfl
  · have plain : s.record r q = s := if_neg h
    have framed : (s.around x).record r q = s.around x := if_neg h
    rw [plain, framed]

theorem State.around_fullDrop (c : Channel) : (s.around x).fullDrop r c = (s.fullDrop r c).around x :=
  congrArg (fun t : State => t.updCh c ChannelEngine.countFullDrop)
    (State.around_record (s.setLastResult r c .droppedFull) x r .sendDropped)

theorem State.around_enqueueOn (src : Source) (gap : Bool) (c : Channel) :
    (s.around x).enqueueOn src r gap c = ((s.enqueueOn src r gap c).1.around x, (s.enqueueOn src r gap c).2) := by
  simp only [State.enqueueOn, State.around_ch, State.around_row, State.around_fullDrop]
  split
  · rfl
  · split
    · rfl
    · split
      · rfl
      · rfl
      · split <;> rfl
      · split
        · rfl
        · split <;> rfl

theorem State.around_enqueueNext (src : Source) (gap : Bool) (mask : ChannelMask) (o : Quad ChannelOutcome)
    (l : List Channel) : l.foldl (State.enqueueNext src r gap mask) (s.around x, o) =
      ((l.foldl (State.enqueueNext src r gap mask) (s, o)).1.around x,
        (l.foldl (State.enqueueNext src r gap mask) (s, o)).2) := by
  induction l generalizing s o with
  | nil => rfl
  | cons c l ih =>
    have one : State.enqueueNext src r gap mask (s.around x, o) c =
        ((State.enqueueNext src r gap mask (s, o) c).1.around x, (State.enqueueNext src r gap mask (s, o) c).2) := by
      simp only [State.enqueueNext, State.around_enqueueOn]
      split <;> rfl
    rw [List.foldl_cons, List.foldl_cons, one]
    exact ih _ _

theorem State.around_startGap : (s.around x).startGap r = (s.startGap r).around x := by
  by_cases h : (s.row r).inhibitGap = 0
  · have plain : s.startGap r = s := if_pos h
    have framed : (s.around x).startGap r = s.around x := if_pos h
    rw [plain, framed]
  · have plain : s.startGap r = (s.updRow r fun row => { row with gapRunning := true }).startDeadline r .gap := if_neg h
    have framed : (s.around x).startGap r = ((s.around x).updRow r fun row => { row with gapRunning :=
        true }).startDeadline r .gap := if_neg h
    rw [plain, framed]
    rfl

theorem State.around_startRefresh : (s.around x).startRefresh r = (s.startRefresh r).around x := by
  by_cases h : (s.row r).role = .produced ∧ (s.row r).refreshPeriod ≠ 0
  · have plain : s.startRefresh r = s.startDeadline r .refresh := if_pos h
    have framed : (s.around x).startRefresh r = (s.around x).startDeadline r .refresh := if_pos h
    rw [plain, framed]
    rfl
  · have plain : s.startRefresh r = s := if_neg h
    have framed : (s.around x).startRefresh r = s.around x := if_neg h
    rw [plain, framed]

theorem State.around_afterQueuing : (s.around x).afterQueuing r = (s.afterQueuing r).around x := by
  rw [State.afterQueuing_eq, State.around_startGap, State.around_startRefresh, State.afterQueuing_eq]

/-- A request has the same outcomes and the same effect on the table whatever the rest of the state is. -/
theorem State.around_enqueue (src : Source) (mask : ChannelMask) :
    (s.around x).enqueue src r mask = ((s.enqueue src r mask).1.around x, (s.enqueue src r mask).2) := by
  simp only [State.enqueue, State.around_row, State.around_enqueueNext, State.around_afterQueuing]
  split
  · split <;> rfl
  · rfl

end Around

/-! ### What an enqueue request leaves of its row and reports elsewhere (R56, R161) -/

/-- A request changes of its row only what R57 and R59 name. -/
theorem State.enqueue_restored (s : State) (src : Source) (r : RowId) (mask : ChannelMask) :
    ((s.enqueue src r mask).1.row r).restored (s.row r) = s.row r := by
  obtain ⟨u, o, made, refused, done⟩ := enqueueFollowsTheTable s src r mask
  rw [made]
  by_cases serves : (s.row r).serves
  · obtain ⟨-, -, -, kept, -⟩ := done serves
    exact kept
  · rw [(refused serves).1]
    rfl

theorem State.enqueue_keeps (s : State) (src : Source) (r : RowId) (mask : ChannelMask) :
    ((s.enqueue src r mask).1.row r).image = (s.row r).image ∧
      ((s.enqueue src r mask).1.row r).generation = (s.row r).generation ∧
      ((s.enqueue src r mask).1.row r).sequence = (s.row r).sequence ∧
      ((s.enqueue src r mask).1.row r).age = (s.row r).age ∧
      ((s.enqueue src r mask).1.row r).state = (s.row r).state := by
  have kept := s.enqueue_restored src r mask
  exact ⟨(congrArg Row.image kept :), (congrArg Row.generation kept :), (congrArg Row.sequence kept :),
    (congrArg Row.age kept :), (congrArg Row.state kept :)⟩

theorem enqueueNext_notNamed (src : Source) (r : RowId) (gap : Bool) (mask : ChannelMask) {c : Channel}
    (out : inMask mask c = false) (l : List Channel) (a : State × Quad ChannelOutcome) (new : a.2.get c = .notNamed) :
    (l.foldl (State.enqueueNext src r gap mask) a).2.get c = .notNamed := by
  induction l generalizing a with
  | nil => exact new
  | cons d l ih =>
    refine ih _ ?_
    unfold State.enqueueNext
    split
    · next named =>
      have ne : d ≠ c := fun same => by simp [same, out] at named
      rwa [Quad.get_set_ne _ _ ne]
    · exact new

/-- A channel the mask does not name reports NOT_NAMED. -/
theorem State.enqueue_notNamed (s : State) (src : Source) (r : RowId) {mask : ChannelMask} {c : Channel}
    (out : inMask mask c = false) : (s.enqueue src r mask).2.get c = .notNamed := by
  have fold := enqueueNext_notNamed src r (s.row r).gapRunning mask out allChannels (s, Quad.all .notNamed)
    (Quad.get_all _ c)
  unfold State.enqueue
  split
  · dsimp only
    split <;> exact fold
  · exact Quad.get_all _ c

/-! ### POST (R170) -/

section Post

variable {s : State} {p : Vector Word 16} {r : RowId} (named : s.namedRow p = some r)
include named

theorem State.postTransaction_consumed (role : (s.row r).role = .consumed) :
    s.postTransaction p = s.refuse .wrongRole := by
  simp [State.postTransaction, named, role]

theorem State.postTransaction_wrongState (role : (s.row r).role = .produced)
    (out : (s.row r).state = .suspended ∨ (s.row r).state = .retiring) :
    s.postTransaction p = s.refuse .wrongState := by
  simp [State.postTransaction, named, role, out]

theorem State.postTransaction_done (role : (s.row r).role = .produced) (suspended : (s.row r).state ≠ .suspended)
    (retiring : (s.row r).state ≠ .retiring) : s.postTransaction p =
      ((s.updRow r fun row => row.post (imageBytes p 1)).enqueue .post r (s.row r).sendMask).1.finish (rowByte r)
        (((s.updRow r fun row => row.post (imageBytes p 1)).row r).generation ::
          outcomeWords ((s.updRow r fun row => row.post (imageBytes p 1)).enqueue .post r (s.row r).sendMask).2) := by
  simp [State.postTransaction, named, role, suspended, retiring]

end Post

/-- Settles O24: the image stored by `Row.post`, then one request, which the rest of the state does not touch
(`State.around_enqueue`). -/
theorem postStoresAndEnqueues : Obligations.PostStoresAndEnqueues := by
  intro s ready
  refine ⟨_, Carried.of_command ready (code := 6) (k := .post) rfl rfl nofun, ?_⟩
  intro p
  refine ⟨fun none => ?_, ?_⟩
  · have found : (s.commanded 6).namedRow s.cu.params = Option.none := State.namedRow_of_none (s := s) none
    exact .of_eq (code := 6) (by simp only [State.commandTransaction, State.postTransaction, found])
  intro r named old
  have found : (s.commanded 6).namedRow p = some r := State.namedRow_of_names (s := s) named
  refine ⟨fun role => .of_eq (State.postTransaction_consumed found role),
    fun role out => .of_eq (State.postTransaction_wrongState found role out), fun role suspended retiring => ?_⟩
  refine ⟨imageBytes p 1, imageBytes_hold p (by decide), ?_⟩
  intro stored asked
  have done := State.postTransaction_done found role suspended retiring
  have put : (s.commanded 6).updRow r (fun row => row.post (imageBytes p 1)) = stored.around (s.commanded 6) := rfl
  have row : stored.row r = old.post (imageBytes p 1) := State.row_updRow_self s r _
  have generation : ((stored.around (s.commanded 6)).row r).generation = old.generation + 1 :=
    (congrArg Row.generation row :)
  have request : (stored.around (s.commanded 6)).enqueue .post r old.sendMask = (asked.1.around (s.commanded 6),
      asked.2) :=
    State.around_enqueue stored _ r .post old.sendMask
  have kept : ∀ q, q ≠ r → asked.1.row q = s.row q := fun q ne =>
    ((stored.enqueue_frame .post r old.sendMask).rows q ne).trans (State.row_updRow_ne s _ (Ne.symm ne))
  have topics : asked.1.topicIndex = s.topicIndex := (stored.enqueue_frame .post r old.sendMask).topicIndex
  have stays : (asked.1.row r).restored (stored.row r) = stored.row r := stored.enqueue_restored .post r old.sendMask
  have elsewhere : ∀ c, inMask old.sendMask c = false → asked.2.get c = .notNamed :=
    fun c out => State.enqueue_notNamed _ _ _ out
  rw [put, show ((s.commanded 6).row r).sendMask = old.sendMask from rfl, request, generation, outcomeWords_eq] at done
  rw [State.commandTransaction, show s.cu.params = p from rfl, done]
  rw [row] at stays
  clear_value asked
  exact ⟨rfl, rfl, rfl, topics, rfl, (congrArg Row.image stays :), (congrArg Row.generation stays :),
    (congrArg Row.sequence stays :), (congrArg Row.age stays :), (congrArg Row.state stays :), kept, elsewhere,
    .of_finish _ (rowByte_toNat r) _⟩

/-! ### SEND and RECALL (R171) -/

section Send

variable {s : State} {p : Vector Word 16} {r : RowId} (named : s.namedRow p = some r)
include named

theorem State.sendTransaction_wrongRole (role : (s.row r).role = .consumed) :
    s.sendTransaction p = s.refuse .wrongRole := by
  simp [State.sendTransaction, named, role]

theorem State.sendTransaction_wrongState (role : (s.row r).role = .produced) (state : (s.row r).state ≠ .live) :
    s.sendTransaction p = s.refuse .wrongState := by
  simp [State.sendTransaction, named, role, state]

theorem State.sendTransaction_done (role : (s.row r).role = .produced) (state : (s.row r).state = .live) :
    s.sendTransaction p = (s.enqueue .sendCommand r (maskParam p &&& (s.row r).sendMask)).1.finish (rowByte r)
      (0 :: outcomeWords (s.enqueue .sendCommand r (maskParam p &&& (s.row r).sendMask)).2) := by
  simp [State.sendTransaction, named, role, state]

theorem State.recallTransaction_wrongRole (role : (s.row r).role = .produced) :
    s.recallCommandTransaction p = s.refuse .wrongRole := by
  simp [State.recallCommandTransaction, named, role]

theorem State.recallTransaction_wrongState (role : (s.row r).role = .consumed)
    (out : (s.row r).state = .suspended ∨ (s.row r).state = .retiring) :
    s.recallCommandTransaction p = s.refuse .wrongState := by
  simp [State.recallCommandTransaction, named, role, out]

theorem State.recallTransaction_done (role : (s.row r).role = .consumed) (suspended : (s.row r).state ≠ .suspended)
    (retiring : (s.row r).state ≠ .retiring) : s.recallCommandTransaction p =
      (s.enqueue .recallCommand r (maskParam p &&& (s.row r).sourceMask)).1.finish (rowByte r)
        (0 :: outcomeWords (s.enqueue .recallCommand r (maskParam p &&& (s.row r).sourceMask)).2) := by
  simp [State.recallCommandTransaction, named, role, suspended, retiring]

end Send

theorem maskParam_eq (p : Vector Word 16) : maskParam p = p[1].extractLsb' 0 4 := ofNat_field_self _ _ _

theorem inMask_maskParam (p : Vector Word 16) (m : ChannelMask) (c : Channel) :
    inMask (p[1].extractLsb' 0 4 &&& m) c = (p[1].getLsbD c.val && inMask m c) := by
  rw [inMask, BitVec.getLsbD_and, BitVec.getLsbD_extractLsb', Nat.zero_add, decide_eq_true c.isLt, Bool.true_and]
  rfl

/-- A command that ends with the outcomes of one request: what O25 says of SEND and RECALL alike. -/
theorem Finishes.of_request (s : State) (code : Word) (src : Source) (r : RowId) (m : ChannelMask) :
    let asked := s.enqueue src r (s.cu.params[1].extractLsb' 0 4 &&& m)
    let made := (s.commanded code).enqueue src r (maskParam s.cu.params &&& m)
    let u := (made.1.finish (rowByte r) (0 :: outcomeWords made.2)).wakeAll
    u.rows = asked.1.rows ∧ u.attention = asked.1.attention ∧ u.iu = asked.1.iu ∧ u.topicIndex = s.topicIndex ∧
      u.channels = asked.1.channels.map ChannelEngine.wake ∧ (u.row r).image = (s.row r).image ∧
      (u.row r).generation = (s.row r).generation ∧ (u.row r).age = (s.row r).age ∧
      (∀ c, (s.cu.params[1].getLsbD c.val && inMask m c) = false → asked.2.get c = .notNamed) ∧
      Finishes u r.val (0 :: outcomePair asked.2.get) := by
  intro asked made u
  have same : made = (asked.1.around (s.commanded code), asked.2) := by
    simp only [made, maskParam_eq]
    exact State.around_enqueue s (s.commanded code) r src _
  have topics : asked.1.topicIndex = s.topicIndex := (s.enqueue_frame src r _).topicIndex
  have stays : (asked.1.row r).restored (s.row r) = s.row r := s.enqueue_restored src r _
  have elsewhere : ∀ c, (s.cu.params[1].getLsbD c.val && inMask m c) = false → asked.2.get c = .notNamed :=
    fun c out => State.enqueue_notNamed _ _ _ ((inMask_maskParam _ _ _).trans out)
  simp only [u, same, outcomeWords_eq]
  clear_value asked
  exact ⟨rfl, rfl, rfl, topics, rfl, (congrArg Row.image stays :), (congrArg Row.generation stays :),
    (congrArg Row.age stays :), elsewhere, .of_finish _ (rowByte_toNat r) _⟩

/-- Settles O25: the checks in order, then `Finishes.of_request`. -/
theorem sendAndRecallEnqueue : Obligations.SendAndRecallEnqueue := by
  refine ⟨fun s ready => ⟨_, Carried.of_command ready (code := 7) (k := .send) rfl rfl nofun, fun none => ?_,
    fun r named => ?_⟩, fun s ready => ⟨_, Carried.of_command ready (code := 8) (k := .recall) rfl rfl nofun,
      fun none => ?_, fun r named => ?_⟩⟩
  · have found : (s.commanded 7).namedRow s.cu.params = Option.none := State.namedRow_of_none (s := s) none
    exact .of_eq (code := 7) (by simp only [State.commandTransaction, State.sendTransaction, found])
  · have found : (s.commanded 7).namedRow s.cu.params = some r := State.namedRow_of_names (s := s) named
    refine ⟨fun role => .of_eq (State.sendTransaction_wrongRole found role),
      fun role state => .of_eq (State.sendTransaction_wrongState found role state), fun role state => ?_⟩
    intro asked
    rw [State.commandTransaction, State.sendTransaction_done found role state]
    exact Finishes.of_request s 7 .sendCommand r (s.row r).sendMask
  · have found : (s.commanded 8).namedRow s.cu.params = Option.none := State.namedRow_of_none (s := s) none
    exact .of_eq (code := 8) (by simp only [State.commandTransaction, State.recallCommandTransaction, found])
  · have found : (s.commanded 8).namedRow s.cu.params = some r := State.namedRow_of_names (s := s) named
    refine ⟨fun role => .of_eq (State.recallTransaction_wrongRole found role),
      fun role out => .of_eq (State.recallTransaction_wrongState found role out), fun role suspended retiring => ?_⟩
    intro asked
    rw [State.commandTransaction, State.recallTransaction_done found role suspended retiring]
    exact Finishes.of_request s 8 .recallCommand r (s.row r).sourceMask

end Sys2Proof.Machine
end

section
/-! PROOFS. The commands that take a row off its channels: CANCEL, SUSPEND and RETIRE (O26, O27, O29). -/

namespace Sys2Proof.Machine

set_option Elab.async false

/-! ### A row taken off channels (R19, R23, R76) -/

theorem Side.removed_eq_withdrawn (d : Side) : d.removed = d.withdrawn := by
  obtain ⟨send, _, _, _, _⟩ := d
  cases send <;> rfl

/-- A side that CANCEL acts on: off the channel, or marked where the row is IN_FLIGHT (R76). -/
def Side.cancelled (d : Side) : Side := if d.sendState = .inFlight then { d with cancelRequested :=
    true } else d.removed

/-- What taking row `r` off the channels `named` leaves, with `act` done to each of its sides there. -/
structure TakenOff (s : State) (r : RowId) (act : Side → Side) (named : Channel → Bool) (u : State) : Prop where
  row : { u.row r with side := (s.row r).side, heldMask := (s.row r).heldMask } = s.row r
  side : ∀ c, (u.row r).side.get c = if named c then act ((s.row r).side.get c) else (s.row r).side.get c
  held : ∀ c, inMask (u.row r).heldMask c =
    (inMask (s.row r).heldMask c && !(named c && decide ((s.row r).sendStateOn c = .held)))
  ch : ∀ c, u.ch c = (s.ch c).without r (named c && decide ((s.row r).sendStateOn c = .pending))
  others : ∀ q, q ≠ r → u.row q = s.row q
  iu : u.iu = s.iu
  topics : u.topicIndex = s.topicIndex
  attention : u.attention = s.attention

/-- One step: a channel not yet acted on is acted on. -/
def Acts (act : Side → Side) (r : RowId) (f : State → Channel → State) : Prop :=
  ∀ s c, TakenOff s r act (fun d => decide (d = c)) (f s c)

section Fold

variable {s u v : State} {r : RowId} {act : Side → Side} {named : Channel → Bool} {c : Channel}

theorem TakenOff.start (s : State) (r : RowId) (act : Side → Side) : TakenOff s r act (fun _ => false) s where
  row := rfl
  side _ := rfl
  held c := by simp
  ch c := rfl
  others _ _ := rfl
  iu := rfl
  topics := rfl
  attention := rfl

theorem TakenOff.congr {named' : Channel → Bool} (a : TakenOff s r act named u) (same : ∀ c, named c = named' c) :
    TakenOff s r act named' u := by
  rw [← funext same]
  exact a

theorem TakenOff.next (a : TakenOff s r act named u) (new : named c = false)
    (b : TakenOff u r act (fun d => decide (d = c)) v) : TakenOff s r act (fun d => named d || decide (d = c)) v := by
  have before : (u.row r).side.get c = (s.row r).side.get c := by rw [a.side, new]; rfl
  refine ⟨?_, fun d => ?_, fun d => ?_, fun d => ?_, fun q ne => (b.others q ne).trans (a.others q ne),
    b.iu.trans a.iu, b.topics.trans a.topics, b.attention.trans a.attention⟩
  · have step := congrArg (fun row : Row => { row with side := (s.row r).side, heldMask := (s.row r).heldMask }) b.row
    exact step.trans a.row
  · by_cases own : d = c
    · subst own
      simp [b.side, a.side, new]
    · simp [b.side, a.side, own]
  · by_cases own : d = c
    · subst own
      have sends : (u.row r).sendStateOn d = (s.row r).sendStateOn d := (congrArg Side.sendState before :)
      rw [b.held, sends, a.held, new]
      simp
    · simp [b.held, a.held, own]
  · by_cases own : d = c
    · subst own
      have sends : (u.row r).sendStateOn d = (s.row r).sendStateOn d := (congrArg Side.sendState before :)
      rw [b.ch, sends, a.ch, new]
      simp [ChannelEngine.without]
    · simp [b.ch, a.ch, own, ChannelEngine.without]

theorem TakenOff.fold {f : State → Channel → State} (acts : Acts act r f) (n : Channel → Bool) (l : List Channel)
    (once : l.Nodup) (a : TakenOff s r act named u) (new : ∀ c ∈ l, named c = false) :
    TakenOff s r act (fun d => named d || (decide (d ∈ l) && n d)) (l.foldl
      (fun t c => if n c then f t c else t) u) := by
  induction l generalizing u named with
  | nil => exact a.congr fun c => by simp
  | cons c l ih =>
    obtain ⟨out, once⟩ := List.nodup_cons.1 once
    have fresh : ∀ d ∈ l, named d = false := fun d mem => new d (List.mem_cons_of_mem _ mem)
    rw [List.foldl_cons]
    cases on : n c with
    | true =>
      have step := a.next (new c List.mem_cons_self) (acts u c)
      refine (ih once step fun d mem => ?_).congr fun d => ?_
      · have ne : d ≠ c := fun same => out (same ▸ mem)
        simp [fresh d mem, ne]
      · by_cases own : d = c <;> simp [own, on]
    | false =>
      refine (ih once a fresh).congr fun d => ?_
      by_cases own : d = c
      · simp [own, on]
      · simp [own]

/-- The four channels of a mask acted on one after the other. -/
theorem TakenOff.all {f : State → Channel → State} (acts : Acts act r f) (n : Channel → Bool) (s : State) :
    TakenOff s r act n (allChannels.foldl (fun t c => if n c then f t c else t) s) :=
  ((TakenOff.start s r act).fold acts n allChannels (by decide) (fun _ _ => rfl)).congr fun c => by
    simp [mem_allChannels c]

end Fold

/-! ### The two ways a row leaves a channel (R19, R23, R76) -/

theorem inMask_maskErase (m : ChannelMask) (c d : Channel) :
    inMask (maskErase m c) d = (inMask m d && !decide (d = c)) := by
  revert m c d; decide

section Step

variable {s : State} {r : RowId} {c : Channel} {act : Side → Side}

theorem TakenOff.of_pending (pending : (s.row r).sendStateOn c = .pending)
    (does : act ((s.row r).side.get c) = ((s.row r).side.get c).removed) :
    TakenOff s r act (fun d => decide (d = c)) (s.removePending r c) := by
  have sends : ((s.row r).side.get c).sendState = .pending := pending
  have side : ((s.row r).side.get c).removed =
      { (s.row r).side.get c with sendState := .idle, attemptCount := 0, lastResult := .cancelled } := by
    simp [Side.removed, sends]
  refine ⟨?_, fun d => ?_, fun d => ?_, fun d => ?_, fun q ne => ?_, rfl, rfl, rfl⟩
  · simp [State.removePending, Row.updSide]
  · by_cases own : d = c
    · subst own
      simp [State.removePending, does, side]
    · simp [State.removePending, own, Ne.symm own]
  · by_cases own : d = c
    · subst own
      simp [State.removePending, pending]
    · simp [State.removePending, own]
  · by_cases own : d = c
    · subst own
      simp [State.removePending, pending, ChannelEngine.without, ChannelEngine.dropRow]
    · simp [State.removePending, own, Ne.symm own, ChannelEngine.without]
  · simp [State.removePending, Ne.symm ne]

theorem TakenOff.of_held (held : (s.row r).sendStateOn c = .held)
    (does : act ((s.row r).side.get c) = ((s.row r).side.get c).removed) :
    TakenOff s r act (fun d => decide (d = c)) (s.removeHeld r c) := by
  have sends : ((s.row r).side.get c).sendState = .held := held
  have side : ((s.row r).side.get c).removed =
      { (s.row r).side.get c with sendState := .idle, lastResult := .cancelled } := by
    simp [Side.removed, sends]
  refine ⟨?_, fun d => ?_, fun d => ?_, fun d => ?_, fun q ne => ?_, rfl, rfl, rfl⟩
  · simp [State.removeHeld, Row.updSide]
  · by_cases own : d = c
    · subst own
      simp [State.removeHeld, does, side, Row.updSide]
    · simp [State.removeHeld, own, Ne.symm own, Row.updSide]
  · by_cases own : d = c
    · subst own
      simp [State.removeHeld, held, inMask_maskErase]
    · simp [State.removeHeld, own, inMask_maskErase]
  · by_cases own : d = c
    · subst own
      simp [State.removeHeld, held, ChannelEngine.without]
    · simp [State.removeHeld, own, ChannelEngine.without]
  · simp [State.removeHeld, Ne.symm ne]

theorem TakenOff.of_other (pending : (s.row r).sendStateOn c ≠ .pending) (held : (s.row r).sendStateOn c ≠ .held)
    (f : Side → Side) (keeps : (f ((s.row r).side.get c)).sendState = ((s.row r).side.get c).sendState)
    (does : act ((s.row r).side.get c) = f ((s.row r).side.get c)) :
    TakenOff s r act (fun d => decide (d = c)) (s.updRow r fun row => row.updSide c f) := by
  refine ⟨?_, fun d => ?_, fun d => ?_, fun d => ?_, fun q ne => ?_, rfl, rfl, rfl⟩
  · simp [Row.updSide]
  · by_cases own : d = c
    · subst own
      simp [does]
    · simp [own, Ne.symm own]
  · by_cases own : d = c
    · subst own
      simp [held]
    · simp [own]
  · by_cases own : d = c
    · subst own
      simp [pending, ChannelEngine.without]
    · simp [own, ChannelEngine.without]
  · simp [Ne.symm ne]

/-- A side that stays as it is. -/
theorem TakenOff.of_same (pending : (s.row r).sendStateOn c ≠ .pending) (held : (s.row r).sendStateOn c ≠ .held)
    (does : act ((s.row r).side.get c) = (s.row r).side.get c) : TakenOff s r act (fun d => decide (d = c)) s := by
  refine ⟨rfl, fun d => ?_, fun d => ?_, fun d => ?_, fun _ _ => rfl, rfl, rfl, rfl⟩
  · by_cases own : d = c
    · subst own
      simp [does]
    · simp [own]
  · by_cases own : d = c
    · subst own
      simp [held]
    · simp [own]
  · by_cases own : d = c
    · subst own
      simp [pending, ChannelEngine.without]
    · simp [own, ChannelEngine.without]

end Step

theorem acts_removeOn (r : RowId) : Acts Side.removed r (fun s c => s.removeOn r c) := by
  intro s c
  dsimp only
  unfold State.removeOn
  split
  · next pending => exact .of_pending pending rfl
  · next held => exact .of_held held rfl
  · next pending held =>
    refine .of_same pending held ?_
    unfold Side.removed
    split
    · next on => exact absurd on pending
    · next on => exact absurd on held
    · rfl
    · rfl

theorem acts_cancelOn (r : RowId) : Acts Side.cancelled r (fun s c => s.cancelOn r c) := by
  intro s c
  dsimp only
  unfold State.cancelOn
  cases sends : (s.row r).sendStateOn c with
  | pending => exact .of_pending sends (if_neg (by rw [show
    ((s.row r).side.get c).sendState = .pending from sends]; nofun))
  | held => exact .of_held sends (if_neg (by rw [show ((s.row r).side.get c).sendState = .held from sends]; nofun))
  | idle =>
    have idle : ((s.row r).side.get c).sendState = .idle := sends
    refine .of_same (by rw [sends]; nofun) (by rw [sends]; nofun) ?_
    simp [Side.cancelled, Side.removed, idle]
  | inFlight =>
    exact .of_other (by rw [sends]; nofun) (by rw [sends]; nofun) (fun d => { d with cancelRequested := true }) rfl
      (if_pos sends)

/-! ### The end of a removal: at once, or when its attempts end (R162) -/

theorem removalOutcomes_get (row : Row) (mask : ChannelMask) (inFlight : ChannelOutcome) (c : Channel) :
    (row.removalOutcomes mask inFlight).get c =
      if inMask mask c then removalReport (row.side.get c) inFlight else .notNamed := by
  rw [Row.removalOutcomes, Quad.get_tabulate]
  unfold removalOutcome removalReport Row.sendStateOn
  cases (row.side.get c).sendState <;> rfl

theorem inMask_or (a b : ChannelMask) (c : Channel) : inMask (a ||| b) c = (inMask a c || inMask b c) :=
  BitVec.getLsbD_or

theorem removalOutcomes_both (row : Row) (inFlight : ChannelOutcome) :
    (row.removalOutcomes (row.sourceMask ||| row.sendMask) inFlight).get = removalReports row inFlight := by
  funext c
  rw [removalOutcomes_get, inMask_or]
  rfl

/-- What a waiting removal shows in the command unit. -/
def Awaits (u : State) (isCancel : Bool) (r : RowId) (report : Channel → ChannelOutcome) (flies : Channel → Prop) :
    Prop :=
  u.cu.phase = .busy ∧ u.cu.resultCode = .none ∧ u.cu.rowNumber = 0 ∧ (∀ k : Fin 16, u.cu.results[k] = 0) ∧
    ∃ w, u.cu.wait = some w ∧ w.isCancel = isCancel ∧ w.row = r ∧ ∀ c, w.outcomes.get c = report c ∧
      (inMask w.awaited c = true ↔ flies c)

/-- A removal that has changed nothing but the table ends at once where no attempt flies, and else waits. -/
theorem State.finishOrWait_ends {s t : State} {code : Word} (kept : Kept (s.commanded code) t) (isCancel : Bool)
    (r : RowId) {awaited : ChannelMask} (o : Quad ChannelOutcome) {flies : Channel → Prop}
    (which : ∀ c, inMask awaited c = true ↔ flies c) :
    ((∀ c, ¬ flies c) → Finishes (t.finishOrWait isCancel r awaited o).wakeAll r.val (0 :: outcomePair o.get)) ∧
      ((∃ c, flies c) → Awaits (t.finishOrWait isCancel r awaited o).wakeAll isCancel r o.get flies) := by
  refine ⟨fun none => ?_, fun ⟨c, flown⟩ => ?_⟩
  · have zero : awaited = 0 := eq_zero_of_inMask fun c on => none c ((which c).1 on)
    rw [State.finishOrWait, if_pos zero, ← outcomeWords_eq]
    exact .of_finish _ (rowByte_toNat r) _
  · have nonzero : awaited ≠ 0 := fun zero => by
      have on := (which c).2 flown
      rw [zero] at on
      simp [inMask] at on
    rw [State.finishOrWait, if_neg nonzero]
    have unit := kept.cu
    refine ⟨(congrArg CommandUnit.phase unit :), (congrArg CommandUnit.resultCode unit :),
      (congrArg CommandUnit.rowNumber unit :), fun k => ?_, _, rfl, rfl, rfl, fun c => ⟨rfl, which c⟩⟩
    refine (congrArg (fun cu : CommandUnit => cu.results[k]) unit).trans ?_
    exact Vector.getElem_replicate _

/-- The end of a removal leaves the table. -/
theorem State.finishOrWait_table (t : State) (isCancel : Bool) (r : RowId) (awaited : ChannelMask)
    (o : Quad ChannelOutcome) : ∃ cu, t.finishOrWait isCancel r awaited o = { t with cu := cu } := by
  unfold State.finishOrWait
  split <;> exact ⟨_, rfl⟩

/-! ### CANCEL (R172) -/

theorem State.cancelTransaction_eq {s : State} {p : Vector Word 16} {r : RowId} (named : s.namedRow p = some r) :
    s.cancelTransaction p = (allChannels.foldl (fun t c =>
      if inMask (maskParam p &&& ((s.row r).sourceMask ||| (s.row r).sendMask)) c then t.cancelOn r c else t)
        s).finishOrWait true r ((s.row r).inFlightMask (maskParam p &&& ((s.row r).sourceMask ||| (s.row r).sendMask)))
          ((s.row r).removalOutcomes (maskParam p &&& ((s.row r).sourceMask ||| (s.row r).sendMask)) .notNamed) := by
  simp only [State.cancelTransaction, named]

/-- Settles O26: `TakenOff` on the named channels, and the end of `State.finishOrWait_ends`. -/
theorem cancelRemovesOrWaits : Obligations.CancelRemovesOrWaits := by
  intro s ready
  refine ⟨_, Carried.of_command ready (code := 9) (k := .cancel) rfl rfl nofun, fun none => ?_, ?_⟩
  · have found : (s.commanded 9).namedRow s.cu.params = Option.none := State.namedRow_of_none (s := s) none
    exact .of_eq (code := 9) (by simp only [State.commandTransaction, State.cancelTransaction, found])
  intro r named old acted report
  have found : (s.commanded 9).namedRow s.cu.params = some r := State.namedRow_of_names (s := s) named
  have done := State.cancelTransaction_eq found
  rw [State.commanded_row, show s.row r = old from rfl] at done
  have mask (c : Channel) : inMask (maskParam s.cu.params &&& (old.sourceMask ||| old.sendMask)) c = acted c := by
    rw [maskParam_eq, inMask_maskParam, inMask_or]
  have reports : (old.removalOutcomes (maskParam s.cu.params &&& (old.sourceMask ||| old.sendMask)) .notNamed).get =
      report := by
    funext c
    rw [removalOutcomes_get, mask]
  have flying (c : Channel) : inMask (old.inFlightMask (maskParam s.cu.params &&&
      (old.sourceMask ||| old.sendMask))) c =
      true ↔ acted c = true ∧ old.sendStateOn c = .inFlight := by
    rw [Row.mem_inFlightMask, mask]
  have off := TakenOff.all (acts_cancelOn r) acted (s.commanded 9)
  have kept : Kept (s.commanded 9) (allChannels.foldl (fun t c => if acted c then t.cancelOn r c else t)
      (s.commanded 9)) := by
    refine .foldl (fun t c => ?_) allChannels _
    split
    · exact .cancelOn t r c
    · exact .refl t
  simp only [mask] at done
  rw [State.commandTransaction, done]
  generalize allChannels.foldl (fun t c => if acted c then t.cancelOn r c else t) (s.commanded 9) = t at off kept
  obtain ⟨now, waits⟩ := State.finishOrWait_ends kept true r
    (old.removalOutcomes (maskParam s.cu.params &&& (old.sourceMask ||| old.sendMask)) .notNamed) flying
  obtain ⟨cu, table⟩ := t.finishOrWait_table true r
    (old.inFlightMask (maskParam s.cu.params &&& (old.sourceMask ||| old.sendMask)))
    (old.removalOutcomes (maskParam s.cu.params &&& (old.sourceMask ||| old.sendMask)) .notNamed)
  rw [reports] at now waits
  rw [table] at now waits ⊢
  refine ⟨⟨off.others, off.topics, off.attention⟩, off.iu, off.row, off.held, fun c => ⟨fun out => ?_,
    fun on still => ?_, fun on flies => ?_, ?_⟩, fun none => now fun c h => none c h.1 h.2, waits⟩
  · exact (off.side c).trans (by rw [out]; rfl)
  · refine (off.side c).trans ?_
    rw [on]
    exact if_neg still
  · refine (off.side c).trans ?_
    rw [on]
    exact if_pos flies
  · rw [State.wakeAll_ch]
    exact congrArg ChannelEngine.wake (off.ch c)

/-! ### SUSPEND and RETIRE (R173, R175) -/

/-- What taking a row out of service leaves (R19, R23). -/
structure OutOfService (s : State) (r : RowId) (u : State) : Prop where
  row : u.row r = { s.row r with
    side := (s.row r).side.map Side.removed, heldMask := 0, gapRunning := false
    freshness := .stopped, refresh := .stopped, gap := .stopped }
  ch : ∀ c, u.ch c = (s.ch c).without r (decide ((s.row r).sendStateOn c = .pending))
  others : OtherRowsSame r s u
  left : LeftDueList r (fun _ => True) s u

theorem LeftDueList.stopDeadlines {s : State} (idle : s.iu.presented = none) (r : RowId) :
    LeftDueList r (fun _ => True) s (s.stopDeadlines r) := by
  have first := LeftDueList.withdraw idle r .freshness
  have second := (LeftDueList.withdraw (first.1.trans idle) r .refresh)
  have third := (LeftDueList.withdraw (second.1.trans (first.1.trans idle)) r .gap)
  refine (((first.trans second).trans third).congr fun k => ?_).of_iu rfl rfl
  cases k <;> simp

theorem State.takeOutOfService_spec {s : State} (idle : s.iu.presented = none) (r : RowId) :
    OutOfService s r (s.takeOutOfService r) := by
  have off := (TakenOff.all (acts_removeOn r) (fun _ => true) s)
  have row := s.takeOutOfService_row_self r
  have others := fun q (ne : q ≠ r) => s.takeOutOfService_row_ne (Ne.symm ne)
  have map : (s.row r).side.map Side.withdrawn = (s.row r).side.map Side.removed :=
    congrArg (fun f => (s.row r).side.map f) (funext fun d => (Side.removed_eq_withdrawn d).symm)
  rw [Row.outOfService, map] at row
  simp only [if_true] at off
  unfold State.takeOutOfService at row others ⊢
  generalize allChannels.foldl (fun s c => s.removeOn r c) s = t at off row others
  refine ⟨row, fun c => ?_, ⟨others, off.topics, off.attention⟩, ?_⟩
  · rw [State.stopDeadlines_ch, State.ch_updRow, off.ch]
    rfl
  · exact (LeftDueList.stopDeadlines (s := t.updRow r _) (by rw [State.updRow_iu, off.iu,
    idle]) r).of_iu off.iu.symm rfl

/-- Settles O27: `State.takeOutOfService_spec`, with the state SUSPENDED. -/
theorem suspendTakesOutOfService : Obligations.SuspendTakesOutOfService := by
  intro s ready
  refine ⟨_, Carried.of_command ready (code := 10) (k := .suspend) rfl rfl nofun, fun none => ?_, ?_⟩
  · have found : (s.commanded 10).namedRow s.cu.params = Option.none := State.namedRow_of_none (s := s) none
    exact .of_eq (code := 10) (by simp only [State.commandTransaction, State.suspendTransaction, found])
  intro r named old
  have found : (s.commanded 10).namedRow s.cu.params = some r := State.namedRow_of_names (s := s) named
  refine ⟨fun out => .of_eq (code := 10) ?_, fun suspended retiring => ?_⟩
  · have out : ((s.commanded 10).row r).state = .suspended ∨ ((s.commanded 10).row r).state = .retiring := out
    simp only [State.commandTransaction, State.suspendTransaction, found, if_pos out]
  have serves : ¬ (((s.commanded 10).row r).state = .suspended ∨ ((s.commanded 10).row r).state = .retiring) :=
    not_or.2 ⟨suspended, retiring⟩
  have spec := State.takeOutOfService_spec (s := s.commanded 10) ready.2.2.1 r
  simp only [State.commandTransaction, State.suspendTransaction, found, if_neg serves, outcomeWords_eq,
    removalOutcomes_both]
  generalize (s.commanded 10).takeOutOfService r = t at spec
  obtain ⟨row, ch, ⟨others, topics, attention⟩, left⟩ := spec
  refine ⟨?_, ⟨fun q ne => ?_, topics, attention⟩, left, fun c => congrArg ChannelEngine.wake (ch c) ▸ ?_,
    .of_finish _ (rowByte_toNat r) _⟩
  · rw [State.wakeAll_row, State.finish_row, State.row_updRow_self, row]
    rfl
  · rw [State.wakeAll_row, State.finish_row, State.row_updRow_ne _ _ (Ne.symm ne), others q ne]
    rfl
  · exact State.wakeAll_ch _ c

/-- A row out of service on its way to FREE: freed at once where no attempt flies, else RETIRING (R23, R175). -/
def State.retired (t : State) (r : RowId) (awaited : ChannelMask) : State :=
  if awaited = 0 then t.freeRow r else t.updRow r fun row => { row with state := .retiring }

theorem State.retireTransaction_eq {s : State} {p : Vector Word 16} {r : RowId} (named : s.namedRow p = some r)
    (other : (s.row r).state ≠ .retiring) : s.retireTransaction p =
      ((s.takeOutOfService r).retired r ((s.row r).inFlightMask 15)).finishOrWait false r ((s.row r).inFlightMask 15)
        ((s.row r).removalOutcomes ((s.row r).sourceMask ||| (s.row r).sendMask) .notNamed) := by
  simp only [State.retireTransaction, named, if_neg other]
  rfl

theorem Kept.retired (t : State) (r : RowId) (awaited : ChannelMask) : Kept t (t.retired r awaited) := by
  unfold State.retired
  split
  · exact .freeRow t r
  · exact .updRow t r _

theorem State.retired_row_ne (t : State) {r q : RowId} (ne : r ≠ q) (awaited : ChannelMask) :
    (t.retired r awaited).row q = t.row q := by
  unfold State.retired
  split
  · exact State.freeRow_row_ne t ne
  · exact State.row_updRow_ne t _ ne

theorem State.retired_ch (t : State) (r : RowId) (awaited : ChannelMask) (c : Channel) :
    (t.retired r awaited).ch c = t.ch c := by
  unfold State.retired
  split <;> rfl

theorem LeftDueList.retired {t : State} (idle : t.iu.presented = none) (r : RowId) (awaited : ChannelMask) :
    LeftDueList r (fun _ => awaited = 0) t (t.retired r awaited) := by
  unfold State.retired
  split
  case isTrue zero => exact ((LeftDueList.stopDeadlines idle r).congr fun _ => ⟨fun _ => zero,
    fun _ => trivial⟩).of_iu rfl rfl
  case isFalse nonzero => exact (LeftDueList.refl r fun _ => nonzero).of_iu rfl rfl

/-- Settles O29: `State.takeOutOfService_spec`, then `State.retired` and the end of `State.finishOrWait_ends`. -/
theorem retireFreesOrWaits : Obligations.RetireFreesOrWaits := by
  intro s ready
  refine ⟨_, Carried.of_command ready (code := 12) (k := .retire) rfl rfl nofun, fun none => ?_, ?_⟩
  · have found : (s.commanded 12).namedRow s.cu.params = Option.none := State.namedRow_of_none (s := s) none
    exact .of_eq (code := 12) (by simp only [State.commandTransaction, State.retireTransaction, found])
  intro r named old report
  have found : (s.commanded 12).namedRow s.cu.params = some r := State.namedRow_of_names (s := s) named
  refine ⟨fun out => .of_eq (code := 12) ?_, fun other => ?_⟩
  · have out : ((s.commanded 12).row r).state = .retiring := out
    simp only [State.commandTransaction, State.retireTransaction, found, if_pos out]
  have done := State.retireTransaction_eq found other
  rw [State.commanded_row, show s.row r = old from rfl] at done
  have flying (c : Channel) : inMask (old.inFlightMask 15) c = true ↔ old.sendStateOn c = .inFlight := by
    rw [Row.mem_inFlightMask, inMask_full]
    simp
  have spec := State.takeOutOfService_spec (s := s.commanded 12) ready.2.2.1 r
  have kept := (Kept.takeOutOfService (s.commanded 12) r).trans (.retired _ r (old.inFlightMask 15))
  rw [State.commandTransaction, done]
  generalize (s.commanded 12).takeOutOfService r = t at spec kept
  obtain ⟨row, ch, ⟨others, topics, attention⟩, left⟩ := spec
  obtain ⟨now, waits⟩ := State.finishOrWait_ends kept false r
    (old.removalOutcomes (old.sourceMask ||| old.sendMask) .notNamed) flying
  obtain ⟨cu, table⟩ := (t.retired r (old.inFlightMask 15)).finishOrWait_table false r (old.inFlightMask 15)
    (old.removalOutcomes (old.sourceMask ||| old.sendMask) .notNamed)
  rw [removalOutcomes_both] at now waits
  rw [table] at now waits ⊢
  have stopped := (left.trans (.retired (left.1.trans ready.2.2.1) r (old.inFlightMask 15))).congr
    (k := fun _ => True) fun _ => by simp
  refine ⟨fun q ne => ?_, stopped.of_iu rfl rfl, fun c => ?_, fun none => ?_, fun ⟨c, flies⟩ => ?_⟩
  · exact (t.retired_row_ne (Ne.symm ne) _).trans (others q ne)
  · rw [State.wakeAll_ch]
    exact congrArg ChannelEngine.wake ((t.retired_ch r _ c).trans (ch c))
  · have zero : old.inFlightMask 15 = 0 := eq_zero_of_inMask fun c on => none c ((flying c).1 on)
    have freed : t.retired r (old.inFlightMask 15) = t.freeRow r := if_pos zero
    rw [freed] at now ⊢
    refine ⟨State.freeRow_row_self t r, fun e => ?_, ?_, now none⟩
    · have list : (t.freeRow r).topicIndex = s.topicIndex.filter fun e => e.2 ≠ r :=
        (State.freeRow_topicIndex t r).trans (congrArg _ topics)
      exact (congrArg (e ∈ ·) list).to_iff.trans (by simp)
    · exact (State.freeRow_attention t r).trans (congrArg _ attention)
  · have nonzero : old.inFlightMask 15 ≠ 0 := fun zero => by
      have on := (flying c).2 flies
      rw [zero] at on
      simp [inMask] at on
    have marked : t.retired r (old.inFlightMask 15) = t.updRow r fun row => { row with state := .retiring } :=
      if_neg nonzero
    obtain ⟨phase, code, number, results, wait⟩ := waits ⟨c, flies⟩
    refine ⟨?_, (congrArg State.topicIndex marked).trans topics, (congrArg State.attention marked).trans attention,
      phase,
      code, number, results, wait⟩
    refine (congrArg (fun t : State => t.row r) marked).trans ?_
    rw [State.row_updRow_self, row]
    rfl

end Sys2Proof.Machine
end

section
/-! PROOFS. Ticks and the deadlines that fall due (O33). -/

namespace Sys2Proof.Machine

set_option Elab.async false

/-! ### Presenting the head of the due list (R88) -/

theorem State.presentDue_offers {s : State} (idle : s.iu.presented = none) : s.presentDue.iu.offers s.iu.dueList := by
  unfold State.presentDue
  cases due : s.iu.dueList with
  | nil => simp [idle, IntervalUnit.offers, due]
  | cons e rest => simp [idle, IntervalUnit.offers]

theorem State.presentDue_of_presented {s : State} {p : Presented} (h : s.iu.presented = some p) : s.presentDue = s := by
  simp [State.presentDue, h]

/-- Presenting changes the interval unit alone. -/
theorem State.presentDue_frame (s : State) : ∃ iu, s.presentDue = { s with iu :=
    iu } ∧ iu.tickCount = s.iu.tickCount := by
  unfold State.presentDue
  split
  · exact ⟨_, rfl, rfl⟩
  · exact ⟨s.iu, rfl, rfl⟩

/-! ### Deadlines that fall due, in their order (R88) -/

theorem Deadline.atLastTick_iff (d : Deadline) : d.atLastTick = true ↔ ∃ n, d = .running n 0 := by
  cases d with
  | running n k => cases k <;> simp [Deadline.atLastTick]
  | stopped => simp [Deadline.atLastTick]
  | due n => simp [Deadline.atLastTick]

/-- The deadlines at their last tick, by row and kind (R88). -/
theorem State.fallen_ordered (s : State) : s.fallen.Pairwise fun a b => a.place < b.place := by
  have kinds : deadlineKinds.Pairwise fun a b =>
      ∀ r : RowId, DueEntry.place { row := r, kind := a } < DueEntry.place { row := r, kind := b } := by
    simp [deadlineKinds, DueEntry.place]
  unfold State.fallen
  rw [List.pairwise_flatMap]
  refine ⟨fun r _ => ?_, ?_⟩
  · rw [List.pairwise_map]
    exact (kinds.filter _).imp fun h => h r
  · refine (List.pairwise_lt_finRange 256).imp fun {r q} lower => ?_
    intro e first f second
    obtain ⟨k, -, rfl⟩ := List.mem_map.1 first
    obtain ⟨j, -, rfl⟩ := List.mem_map.1 second
    have lower : r.val < q.val := lower
    cases k <;> cases j <;> simp only [DueEntry.place] <;> omega

/-- A row some of whose deadlines have fallen due. -/
def Row.withFallen (row : Row) (fell : DeadlineKind → Bool) : Row :=
  { row with
    freshness := bif fell .freshness then row.freshness.fallDue else row.freshness
    refresh := bif fell .refresh then row.refresh.fallDue else row.refresh
    gap := bif fell .gap then row.gap.fallDue else row.gap }

theorem Deadline.fallDue_twice (d : Deadline) : d.fallDue.fallDue = d.fallDue := by cases d <;> rfl

theorem State.makeDue_row_eq (s : State) (e : DueEntry) (r : RowId) :
    (s.makeDue e).row r = (s.row r).withFallen fun k => decide ({ row := r, kind := k } = e) := by
  obtain ⟨q, k⟩ := e
  rw [State.makeDue_row]
  by_cases own : q = r
  · subst own
    rw [State.row_updRow_self]
    cases k <;> simp [Row.withFallen, Row.withDeadline, Row.deadline]
  · rw [State.row_updRow_ne _ _ own]
    simp [Row.withFallen, Ne.symm own]

theorem State.foldl_makeDue_row (l : List DueEntry) (s : State) (r : RowId) :
    (l.foldl State.makeDue s).row r = (s.row r).withFallen fun k => decide ({ row := r, kind := k } ∈ l) := by
  induction l generalizing s with
  | nil => simp [Row.withFallen]
  | cons e l ih =>
    rw [List.foldl_cons, ih, State.makeDue_row_eq]
    have both (d : Deadline) (one rest : Bool) :
        (bif rest then (bif one then d.fallDue else d).fallDue else (bif one then d.fallDue else d)) =
          bif one || rest then d.fallDue else d := by
      cases one <;> cases rest <;> simp [Deadline.fallDue_twice]
    simp only [Row.withFallen, both, List.mem_cons, Bool.decide_or]

theorem State.foldl_makeDue_frame (l : List DueEntry) (s : State) :
    { l.foldl State.makeDue s with rows := s.rows, iu := s.iu } = s ∧
      (l.foldl State.makeDue s).iu = { s.iu with dueList := s.iu.dueList ++ l } := by
  induction l generalizing s with
  | nil => exact ⟨rfl, by simp⟩
  | cons e l ih =>
    obtain ⟨rest, due⟩ := ih (s.makeDue e)
    refine ⟨(congrArg (fun t : State => { t with rows := s.rows, iu := s.iu }) rest).trans rfl, ?_⟩
    rw [List.foldl_cons, due]
    simp [State.makeDue]

/-! ### A tick (R85, R86) -/

/-- What a tick makes of a deadline, one that an earlier tick brought to its last included. -/
def Deadline.ticked : Deadline → Deadline
  | .running d (n + 1) => .running d n
  | .running d 0 => .due d
  | .due d => .due d
  | .stopped => .stopped

theorem Deadline.advance_fallen (d : Deadline) : (bif d.atLastTick then d.fallDue else d).advance = d.ticked := by
  cases d with
  | running n k => cases k <;> rfl
  | stopped => rfl
  | due n => rfl

/-- Every row as a tick leaves it. -/
theorem State.tick_row (s : State) (r : RowId) : s.tick.row r = { s.row r with
    age := if (s.row r).state = .free then (s.row r).age else satInc (s.row r).age
    freshness := (s.row r).freshness.ticked, refresh := (s.row r).refresh.ticked, gap := (s.row r).gap.ticked } := by
  have fell : (fun k => decide ({ row := r, kind := k } ∈ s.fallen)) = fun k => ((s.row r).deadline k).atLastTick := by
    funext k
    rw [Bool.eq_iff_iff, decide_eq_true_iff, State.mem_fallen]
  have row : s.tick.row r = ((s.fallen.foldl State.makeDue s).presentDue.row r).tick :=
    State.row_mapRows _ (fun _ row => row.tick) r
  rw [row, State.presentDue_row, State.foldl_makeDue_row, fell]
  simp only [Row.tick, Row.withFallen, Row.deadline, Deadline.advance_fallen]
  rfl

theorem State.tick_deadline (s : State) (r : RowId) (k : DeadlineKind) :
    (s.tick.row r).deadline k = ((s.row r).deadline k).ticked := by
  rw [State.tick_row]
  cases k <;> rfl

theorem State.tick_ch (s : State) (c : Channel) : s.tick.ch c = (s.ch c).recoveryExpiry.recoveryTick := by
  have channels : (s.fallen.foldl State.makeDue s).channels = s.channels :=
    (congrArg State.channels (s.foldl_makeDue_frame s.fallen).1 :)
  have engine : s.tick.ch c =
      ((s.fallen.foldl State.makeDue s).presentDue.channels.get c).recoveryExpiry.recoveryTick :=
    Quad.get_map _ _ c
  rw [engine, State.presentDue_channels, channels]
  rfl

/-- The interval unit after a tick. -/
theorem State.tick_iu (s : State) : s.tick.iu.tickCount = s.iu.tickCount + 1 ∧
    (s.iu.presented = none → s.tick.iu.offers (s.iu.dueList ++ s.fallen)) ∧
    ∀ p, s.iu.presented = some p → s.tick.iu.presented = some p ∧ s.tick.iu.dueList = s.iu.dueList ++ s.fallen := by
  obtain ⟨-, due⟩ := s.foldl_makeDue_frame s.fallen
  have unit : s.tick.iu = { (s.fallen.foldl State.makeDue s).presentDue.iu with
      tickCount := (s.fallen.foldl State.makeDue s).presentDue.iu.tickCount + 1 } := rfl
  generalize s.fallen.foldl State.makeDue s = t at due unit
  refine ⟨?_, fun idle => ?_, fun p presented => ?_⟩
  · obtain ⟨iu, same, count⟩ := t.presentDue_frame
    rw [unit, same]
    simp only [count, due]
  · have offers := State.presentDue_offers (s := t) (by rw [due]; exact idle)
    rw [due] at offers
    rw [unit]
    generalize s.iu.dueList ++ s.fallen = l at offers
    cases l <;> exact offers
  · have shown : t.iu.presented = some p := by rw [due]; exact presented
    rw [unit, State.presentDue_of_presented shown, due]
    exact ⟨presented, rfl⟩

theorem State.tick_frame (s : State) : { s.tick with rows := s.rows, channels := s.channels, iu := s.iu } = s := by
  obtain ⟨rest, -⟩ := s.foldl_makeDue_frame s.fallen
  have table : { s.tick with rows := s.rows, channels := s.channels, iu := s.iu } =
      { (s.fallen.foldl State.makeDue s).presentDue with rows := s.rows, channels := s.channels, iu := s.iu } := rfl
  rw [table]
  generalize s.fallen.foldl State.makeDue s = t at rest
  obtain ⟨iu, same, -⟩ := t.presentDue_frame
  rw [same]
  exact (congrArg (fun u : State => { u with channels := s.channels }) rest :)

theorem ChannelEngine.recoveryExpiry_of_ne {ce : ChannelEngine} (h : ce.recovery ≠ some 0) : ce.recoveryExpiry = ce :=
  if_neg h

theorem ChannelEngine.recoveryExpiry_of_eq {ce : ChannelEngine} (h : ce.recovery = some 0) :
    ce.recoveryExpiry = if ce.state = .silent then ce.recovered else { ce with recovery := none } := by
  have expires : ce.recoveryExpiry = { ce with recovery := none }.recoverNow := if_pos h
  rw [expires]
  split
  case isTrue silent => exact ChannelEngine.recoverNow_silent (ce := { ce with recovery := none }) silent
  case isFalse other => exact ChannelEngine.recoverNow_of_ne (ce := { ce with recovery := none }) other

/-- Settles O33: `State.tick_row`, `State.tick_iu` and the order of `State.fallen`. -/
theorem ticksRunDeadlinesToDue : Obligations.TicksRunDeadlinesToDue := by
  unfold Obligations.TicksRunDeadlinesToDue
  intro atLast
  have fallen (s : State) (e : DueEntry) : e ∈ s.fallen ↔ atLast s e :=
    (s.mem_fallen e).trans (Deadline.atLastTick_iff _)
  refine ⟨fun s => ?_, fun states d r k runs first n => ?_, fun s e d last lowest => ?_, fun s none => ?_⟩
  · obtain ⟨turn, choice, presented⟩ := s.presenting_eq State.tick
    have turnKept : s.tick.turn = s.turn := (congrArg State.turn s.tick_frame :)
    rw [turnKept] at choice
    refine ⟨_, congrArg Host.Outcome.next presented, ?_, choice, s.tick_iu.1, fun r => ⟨?_, ?_, fun k => ?_⟩,
      ⟨s.fallen, s.fallen_ordered, fallen s, s.tick_iu.2⟩, fun c => ⟨fun still => ?_, fun runOut => ?_⟩⟩
    · exact (congrArg (fun u : State => { u with turn := s.turn }) s.tick_frame :)
    · refine (congrArg (fun row : Row => row.age.toNat) (s.tick_row r)).trans ?_
      dsimp only
      split
      · rfl
      · exact satInc_toNat _
    · exact (congrArg (fun row : Row => { row with
        age := (s.row r).age, freshness := (s.row r).freshness, refresh := (s.row r).refresh
        gap := (s.row r).gap }) (s.tick_row r) :)
    · refine (s.tick_deadline r k).trans ?_
      unfold Deadline.ticked
      split <;> simp_all
    · refine (s.tick_ch c).trans ?_
      rw [ChannelEngine.recoveryExpiry_of_ne still]
      rfl
    · refine (s.tick_ch c).trans ?_
      rw [ChannelEngine.recoveryExpiry_of_eq runOut]
      split <;> rfl
  · induction n with
    | zero => exact fun _ => first
    | succ n ih =>
      intro within
      have before := ih (by omega)
      have step : states (n + 1) = (states n).presenting State.tick :=
        (Host.Outcome.next.inj (runs n (by omega))).symm
      have row : (states (n + 1)).row r = (states n).tick.row r := by rw [step, State.presenting_row]
      rw [row, State.tick_deadline, before, show d + 1 - n = (d - n) + 1 by omega, Deadline.ticked]
      exact congrArg _ (by omega)
  · have mem : e ∈ s.fallen := (fallen s e).2 ⟨d, last⟩
    obtain ⟨rest, list⟩ : ∃ rest, s.fallen = e :: rest := by
      have order := s.fallen_ordered
      cases list : s.fallen with
      | nil => simp [list] at mem
      | cons h rest =>
        rw [list] at mem order
        obtain rfl | later := List.mem_cons.1 mem
        · exact ⟨rest, rfl⟩
        · exact absurd ((fallen s h).1 (by simp [list])) (lowest h ((List.pairwise_cons.1 order).1 e later))
    have runs : execDeadlineDue s = .next (s.presenting fun s => (s.makeDue e).presentDue) := by
      simp only [execDeadlineDue, list]
    obtain ⟨turn, choice, presented⟩ := s.presenting_eq fun s => (s.makeDue e).presentDue
    obtain ⟨iu, same, count⟩ := (s.makeDue e).presentDue_frame
    have offers (idle : s.iu.presented = Option.none) : (s.makeDue e).presentDue.iu.offers (s.iu.dueList ++ [e]) :=
      State.presentDue_offers (s := s.makeDue e) idle
    have shown (p : Presented) (h : s.iu.presented = some p) : (s.makeDue e).presentDue = s.makeDue e :=
      State.presentDue_of_presented (s := s.makeDue e) h
    rw [presented] at runs
    have choice : turn = s.turn ∨ turn = s.nextServed := by rwa [same] at choice
    refine ⟨_, runs, ?_, choice, ?_, fun q ne => ?_, ?_, offers, fun p h => ?_⟩
    · rw [same]
      rfl
    · exact (congrArg (fun t : State => t.iu.tickCount) same).trans count
    · refine (State.presentDue_row _ q).trans ?_
      rw [State.makeDue_row, State.row_updRow_ne s _ (Ne.symm ne)]
    · refine (State.presentDue_row _ e.row).trans ?_
      rw [State.makeDue_row, State.row_updRow_self, last]
      rfl
    · rw [shown p h]
      exact ⟨h, rfl⟩
  · have empty : s.fallen = [] := List.eq_nil_iff_forall_not_mem.2 fun e mem => none e ((fallen s e).1 mem)
    show execDeadlineDue s = .next s
    simp only [execDeadlineDue, empty]

end Sys2Proof.Machine
end

section
/-! PROOFS. The expiries of the interval unit (O34, O35). -/

namespace Sys2Proof.Machine

set_option Elab.async false

/-! ### Changes of one row -/

theorem State.updRow_congr (s : State) (r : RowId) {f g : Row → Row} (h : f (s.row r) = g (s.row r)) :
    s.updRow r f = s.updRow r g := by
  rw [State.updRow, h]
  rfl

theorem State.updRow_same (s : State) (r : RowId) {f : Row → Row} (h : f (s.row r) = s.row r) : s.updRow r f = s := by
  have rows : (s.updRow r f).rows = s.rows := rows_ext fun q => by
    by_cases own : r = q
    · subst own
      exact (State.row_updRow_self s r f).trans h
    · exact State.row_updRow_ne s f own
  exact congrArg (fun v => { s with rows := v }) rows

theorem State.updRow_updRow (s : State) (r : RowId) (f g : Row → Row) :
    (s.updRow r f).updRow r g = s.updRow r fun row => g (f row) := by
  have rows : ((s.updRow r f).updRow r g).rows = (s.updRow r fun row => g (f row)).rows := rows_ext fun q => by
    by_cases own : r = q
    · subst own
      refine (State.row_updRow_self (s.updRow r f) r g).trans ?_
      rw [State.row_updRow_self]
      exact (State.row_updRow_self s r (fun row => g (f row))).symm
    · refine (State.row_updRow_ne (s.updRow r f) g own).trans ?_
      rw [State.row_updRow_ne _ _ own]
      exact (State.row_updRow_ne s (fun row => g (f row)) own).symm
  exact congrArg (fun v => { s with rows := v }) rows

theorem State.rows_of_updRow {u s : State} (r : RowId) (f : Row → Row) (h : u.rows = (s.updRow r f).rows) :
    u.row r = f (s.row r) ∧ ∀ q, q ≠ r → u.row q = s.row q := by
  refine ⟨Eq.trans (congrArg (fun v => v.get r) h) (State.row_updRow_self s r f), fun q ne => ?_⟩
  exact Eq.trans (congrArg (fun v => v.get q) h) (State.row_updRow_ne s f (Ne.symm ne))

/-- Recording a reason changes the attention list alone. -/
theorem State.record_eq (s : State) (r : RowId) (q : Reason) : s.record r q =
    { s with attention := attentionAfter s.attention r ((s.row r).attentionMask &&& q.bit) } := by
  rw [← State.record_attention]
  obtain ⟨-, same⟩ | ⟨-, same⟩ := State.record_cases s r q
  · rw [same]
  · rw [same]

/-! ### An expiry taken (R88, R89) -/

/-- The state in which a presented expiry is applied. -/
def State.expiring (s : State) : State :=
  { s with served := .iu, turn := none, iu := { s.iu with presented := none } }

theorem State.takeExpiry_taken {s : State} {p : Presented} (presented : s.iu.presented = some p)
    (next : s.nextServed = some .iu) {k : DeadlineKind} (kind : p.entry.kind = k) (apply : State → RowId → State) :
    s.takeExpiry k apply = ((if !p.void && ((s.row p.entry.row).deadline k).isDue then apply s.expiring p.entry.row
      else s.expiring).presentDue).wakeAll := by
  simp only [State.takeExpiry, presented, kind, if_true]
  exact State.transact_turn next _

/-- A DUE expiry is applied. -/
theorem State.takeExpiry_due {s : State} {r : RowId} {k : DeadlineKind} {d : Nat}
    (presented : s.iu.presented = some { entry := { row := r, kind := k }, void := false })
    (due : (s.row r).deadline k = .due d) (next : s.nextServed = some .iu) (apply : State → RowId → State) :
    s.takeExpiry k apply = (apply s.expiring r).presentDue.wakeAll := by
  rw [State.takeExpiry_taken presented next rfl]
  simp [due, Deadline.isDue]

/-- An expiry that is void, or whose deadline is not DUE, is turned away. -/
theorem State.takeExpiry_turnedAway {s : State} {p : Presented} (presented : s.iu.presented = some p)
    (next : s.nextServed = some .iu) (out : p.void = true ∨ ∀ d, (s.row p.entry.row).deadline p.entry.kind ≠ .due d)
    (apply : State → RowId → State) : s.takeExpiry p.entry.kind apply = s.expiring.presentDue.wakeAll := by
  have not_due : (!p.void && ((s.row p.entry.row).deadline p.entry.kind).isDue) = false := by
    obtain void | other := out
    · simp [void]
    · cases deadline : (s.row p.entry.row).deadline p.entry.kind with
      | due d => exact absurd deadline (other d)
      | stopped => simp [Deadline.isDue]
      | running d n => simp [Deadline.isDue]
  rw [State.takeExpiry_taken presented next rfl, not_due]
  rfl

/-- An enqueue request presents no expiry. -/
theorem State.enqueue_idle {s : State} (idle : s.iu.presented = none) (src : Source) (r : RowId) (mask : ChannelMask) :
    (s.enqueue src r mask).1.iu.presented = none := by
  obtain ⟨u, o, made, refused, done⟩ := enqueueFollowsTheTable s src r mask
  rw [made]
  by_cases serves : (s.row r).serves
  · obtain ⟨-, -, -, -, -, -, -, -, kept, queued, -⟩ := done serves
    have less (iu : IntervalUnit) (e : DueEntry) (none : iu.presented = Option.none) :
        (iu.less e).presented = Option.none := by
      rw [IntervalUnit.less, none]
      rfl
    by_cases any : ∃ c, o.get c = .queued
    · rw [queued any]
      dsimp only
      split <;> split
      · exact less _ _ (less _ _ idle)
      · exact less _ _ idle
      · exact less _ _ idle
      · exact idle
    · rw [kept any]
      exact idle
  · rw [(refused serves).1]
    exact idle

theorem EnqueueFrame.tableOnly {r : RowId} {s u : State} (f : EnqueueFrame r s u) : TableOnly s u := by
  have rest := f.rest
  exact (congrArg (fun t : State => { t with served := s.served, turn := s.turn }) rest :)

theorem TableOnly.trans {s t u : State} (a : TableOnly s t) (b : TableOnly t u) : TableOnly s u := by
  unfold TableOnly at a b ⊢
  have step := congrArg (fun v : State => { v with
    rows := s.rows, attention := s.attention, iu := s.iu, channels := s.channels, served := s.served
    turn := s.turn }) b
  exact step.trans a

theorem TableOnly.around {s u x : State} (a : TableOnly s u) (port : x.port = s.port) (cu : x.cu = s.cu) :
    TableOnly s (u.around x) := by
  unfold TableOnly State.around
  rw [port, cu]
  exact congrArg (fun v : State => { v with port := s.port, cu := s.cu }) a

/-- What every expiry leaves behind: the table of `m`, the next expiry presented, the visits awoken. -/
theorem State.expiry_ends {s m : State} (idle : m.iu.presented = none) (count : m.iu.tickCount = s.iu.tickCount)
    (served : m.served = .iu) (turn : m.turn = none) (frame : TableOnly s m) :
    m.presentDue.wakeAll.rows = m.rows ∧ m.presentDue.wakeAll.attention = m.attention ∧
      m.presentDue.wakeAll.channels = m.channels.map ChannelEngine.wake ∧
      m.presentDue.wakeAll.iu.offers m.iu.dueList ∧ m.presentDue.wakeAll.iu.tickCount = s.iu.tickCount ∧
      m.presentDue.wakeAll.servedBy .iu ∧ TableOnly s m.presentDue.wakeAll := by
  have offers := State.presentDue_offers idle
  obtain ⟨iu, same, counts⟩ := m.presentDue_frame
  rw [same] at offers ⊢
  exact ⟨rfl, rfl, rfl, offers, counts.trans count, ⟨served, turn⟩, frame⟩

/-! ### The freshness expiry (R91, R92) -/

/-- A row's move into STALE, if it makes one (R91). -/
theorem State.goStale_eq (s : State) (r : RowId) : s.goStale r = { s.updRow r (fun row => { row with
    state := if (s.row r).role = .consumed ∧ ((s.row r).state = .live ∨ (s.row r).state = .awaiting) then .stale
      else (s.row r).state }) with
    attention := if (s.row r).role = .consumed ∧ ((s.row r).state = .live ∨ (s.row r).state = .awaiting) then
      attentionAfter s.attention r ((s.row r).attentionMask &&& 0x04) else s.attention } := by
  unfold State.goStale
  by_cases moves : (s.row r).role = .consumed ∧ ((s.row r).state = .live ∨ (s.row r).state = .awaiting)
  · simp only [if_pos moves]
    rw [State.record_eq, State.row_updRow_self]
    rfl
  · simp only [if_neg moves]
    rw [State.updRow_same s r rfl]

/-- Settles O34: `State.goStale_eq`, the deadline restarted, then at most one request (`State.around_enqueue`). -/
theorem freshnessExpiryMakesStale : Obligations.FreshnessExpiryMakesStale := by
  intro s r d presented due next old moves base m
  have runs := State.takeExpiry_due presented due next State.applyFreshness
  have stale : ((s.expiring).goStale r).startDeadline r .freshness = base.around s.expiring := by
    have step : ((s.expiring).goStale r).startDeadline r .freshness = { (s.updRow r (fun row => { row with
        state := if moves then .stale else old.state })).updRow r (fun row =>
          row.withDeadline .freshness (startedDeadline (row.deadlineLength .freshness))) with
        served := .iu, turn := none, iu := base.iu, attention := base.attention } := by
      rw [State.goStale_eq]
      rfl
    rw [step, State.updRow_updRow]
    rfl
  obtain ⟨row, others⟩ := State.rows_of_updRow (u := base) (s := s) r (fun row => { row with
      state := if moves then .stale else old.state, freshness := startedDeadline old.freshnessLimit.toNat }) rfl
  have idle : base.iu.presented = none := rfl
  have baseFrame : TableOnly s base := rfl
  have count : base.iu.tickCount = s.iu.tickCount := rfl
  have flag : (base.row r).recallOnStale = old.recallOnStale := (congrArg Row.recallOnStale row :)
  have mask : (base.row r).sourceMask = old.sourceMask := (congrArg Row.sourceMask row :)
  have made : State.applyFreshness s.expiring r = m.around s.expiring := by
    simp only [State.applyFreshness, stale, State.around_row, flag, mask, State.around_enqueue]
    simp only [m]
    split <;> rfl
  have kept : (m.row r).restored (base.row r) = base.row r ∧ (m.iu.presented = none) ∧ TableOnly s m ∧
      m.iu.tickCount = s.iu.tickCount ∧ ∀ q, q ≠ r → m.row q = s.row q := by
    simp only [m]
    split
    · have frame := base.enqueue_frame .recallOnStale r old.sourceMask
      refine ⟨base.enqueue_restored _ _ _, State.enqueue_idle idle _ _ _, ?_, frame.tickCount.trans count,
        fun q ne => (frame.rows q ne).trans (others q ne)⟩
      exact TableOnly.trans baseFrame frame.tableOnly
    · exact ⟨rfl, idle, baseFrame, count, others⟩
  obtain ⟨restored, idle, frame, count, others⟩ := kept
  rw [row] at restored
  rw [made] at runs
  clear_value m
  obtain ⟨rows, attention, channels, offers, ticks, served, table⟩ :=
    State.expiry_ends (s := s) (m := m.around s.expiring) idle count rfl rfl (frame.around rfl rfl)
  refine ⟨_, congrArg Host.Outcome.next runs, rows, attention, channels, offers, ticks, served, table, ?_, ?_, ?_,
    fun q ne => ?_⟩
  · rw [State.wakeAll_row, State.presentDue_row]
    exact (congrArg Row.state restored :)
  · rw [State.wakeAll_row, State.presentDue_row]
    exact (congrArg Row.freshness restored :)
  · rw [State.wakeAll_row, State.presentDue_row]
    exact (congrArg Row.image restored :)
  · rw [State.wakeAll_row, State.presentDue_row]
    exact others q ne

/-! ### The refresh and the gap expiry (R94, R96) -/

/-- Settles O35: at most one request, the refresh deadline restarted after it, the held channels released before it. -/
theorem refreshAndGapExpiriesEnqueue : Obligations.RefreshAndGapExpiriesEnqueue := by
  refine ⟨fun s r d presented due next => ?_, fun s r d presented due next => ?_⟩
  · intro old base m
    have runs := State.takeExpiry_due presented due next State.applyRefresh
    have put : s.expiring = base.around s.expiring := rfl
    have made : State.applyRefresh s.expiring r = (m.startDeadline r .refresh).around s.expiring := by
      have inner : (if (s.expiring.row r).image.isSome then
          (s.expiring.enqueue .refreshExpiry r
            (s.expiring.row r).sendMask).1 else s.expiring) = m.around s.expiring := by
        have row : s.expiring.row r = old := rfl
        rw [row]
        cases image : old.image with
        | none => simp [m, image, ← put]
        | some bytes =>
          have asked := congrArg Prod.fst (State.around_enqueue base s.expiring r .refreshExpiry old.sendMask)
          rw [← put] at asked
          simp [m, image, asked]
      rw [State.applyRefresh, inner]
      rfl
    have kept : (m.row r).restored old = old ∧ m.iu.presented = none ∧ TableOnly s m ∧
        m.iu.tickCount = s.iu.tickCount ∧ ∀ q, q ≠ r → m.row q = s.row q := by
      simp only [m]
      split
      · exact ⟨rfl, rfl, rfl, rfl, fun _ _ => rfl⟩
      · have frame := base.enqueue_frame .refreshExpiry r old.sendMask
        exact ⟨base.enqueue_restored _ _ _, State.enqueue_idle rfl _ _ _,
          TableOnly.trans (t := base) rfl frame.tableOnly, frame.tickCount, frame.rows⟩
    obtain ⟨restored, idle, frame, count, others⟩ := kept
    rw [made] at runs
    clear_value m
    have withdrawn : (m.startDeadline r .refresh).iu.presented = none := by
      rw [State.startDeadline_iu, State.withdraw_presented, idle]
      rfl
    have started : TableOnly s (m.startDeadline r .refresh) :=
      frame.trans (EnqueueFrame.of_startDeadline r m .refresh).tableOnly
    obtain ⟨rows, attention, channels, offers, ticks, served, table⟩ :=
      State.expiry_ends (s := s) (m := (m.startDeadline r .refresh).around s.expiring) withdrawn count rfl rfl
        (started.around rfl rfl)
    refine ⟨_, congrArg Host.Outcome.next runs, attention, channels, offers, ticks, served, table, ?_, fun q ne => ?_⟩
    · rw [State.wakeAll_row, State.presentDue_row, State.around_row, State.startDeadline_row_self]
      have period : (m.row r).refreshPeriod = old.refreshPeriod := (congrArg Row.refreshPeriod restored :)
      rw [← period]
      rfl
    · rw [State.wakeAll_row, State.presentDue_row, State.around_row, State.startDeadline_row_ne _ _ (Ne.symm ne)]
      exact others q ne
  · intro old base m
    have runs := State.takeExpiry_due presented due next State.applyGap
    have put : s.expiring.updRow r Row.release = base.around s.expiring := by
      have same : s.updRow r Row.release = s.updRow r (fun row => { row with
          gapRunning := false, heldMask := 0, gap := .stopped
          side := Quad.tabulate fun c => { row.side.get c with
            sendState := if inMask old.heldMask c then .idle else (row.side.get c).sendState } }) := by
        refine State.updRow_congr s r ?_
        have sides : (Quad.tabulate fun c => if inMask old.heldMask c then { old.side.get c with sendState := .idle }
            else old.side.get c) = Quad.tabulate fun c => { old.side.get c with
              sendState := if inMask old.heldMask c then .idle else (old.side.get c).sendState } := by
          refine congrArg Quad.tabulate (funext fun c => ?_)
          cases inMask old.heldMask c <;> rfl
        exact congrArg (fun q => ({ old with gapRunning := false, heldMask := 0, gap := .stopped, side := q } :
          Row)) sides
      exact congrArg (fun t : State => ({ t with
        served := .iu, turn := none, iu := { s.iu with presented := none } } : State)) same
    have made : State.applyGap s.expiring r = m.around s.expiring := by
      rw [State.applyGap, put, show s.expiring.row r = old from rfl, State.around_enqueue]
      simp only [m]
      split <;> rfl
    obtain ⟨row, others⟩ := State.rows_of_updRow (u := base) (s := s) r (fun row => { row with
        gapRunning := false, heldMask := 0, gap := .stopped
        side := Quad.tabulate fun c => { row.side.get c with
          sendState := if inMask old.heldMask c then .idle else (row.side.get c).sendState } }) rfl
    have kept : m.iu.presented = none ∧ TableOnly s m ∧ m.iu.tickCount = s.iu.tickCount ∧
        (∀ q, q ≠ r → m.row q = s.row q) ∧
        (old.heldMask = 0 → (m.row r).gapRunning = false ∧ (m.row r).gap = .stopped ∧ (m.row r).heldMask = 0) := by
      simp only [m]
      split
      case isTrue none =>
        exact ⟨rfl, rfl, rfl, others, fun _ => by rw [row]; exact ⟨rfl, rfl, rfl⟩⟩
      case isFalse held =>
        have frame := base.enqueue_frame .gapRelease r old.heldMask
        exact ⟨State.enqueue_idle rfl _ _ _, TableOnly.trans (t := base) rfl frame.tableOnly, frame.tickCount,
          fun q ne => (frame.rows q ne).trans (others q ne), fun none => absurd none held⟩
    obtain ⟨idle, frame, count, others, released⟩ := kept
    rw [made] at runs
    clear_value m
    obtain ⟨rows, attention, channels, offers, ticks, served, table⟩ :=
      State.expiry_ends (s := s) (m := m.around s.expiring) idle count rfl rfl (frame.around rfl rfl)
    refine ⟨_, congrArg Host.Outcome.next runs, rows, attention, channels, offers, ticks, served, table, fun q ne => ?_,
      fun none => ?_⟩
    · rw [State.wakeAll_row, State.presentDue_row]
      exact others q ne
    · rw [State.wakeAll_row, State.presentDue_row]
      exact released none

end Sys2Proof.Machine
end

section
/-! PROOFS. The rotation of requesters (O36). -/

namespace Sys2Proof.Machine

set_option Elab.async false

/-! ### The ring (R29) -/

/-- The ring after a requester, in the order of its places. -/
theorem ringAfter_ordered (served : Requester) :
    (ringAfter served).Pairwise fun p q => p.after served < q.after served := by
  cases served with
  | cu => decide
  | iu => decide
  | rx c => revert c; decide
  | tx c => revert c; decide

/-- The first of an ordered list that satisfies a condition. -/
theorem find?_eq_some_of_ordered {α : Type} {key : α → Nat} {p : α → Bool} {l : List α} {a : α}
    (order : l.Pairwise fun x y => key x < key y) :
    l.find? p = some a ↔ a ∈ l ∧ p a = true ∧ ∀ x ∈ l, key x < key a → p x = false := by
  induction l with
  | nil => simp
  | cons h l ih =>
    obtain ⟨least, order⟩ := List.pairwise_cons.1 order
    cases first : p h with
    | true =>
      rw [List.find?_cons_of_pos first]
      refine ⟨fun same => ?_, fun ⟨mem, holds, before⟩ => ?_⟩
      · cases same
        refine ⟨List.mem_cons_self, first, fun x mem lower => ?_⟩
        obtain rfl | later := List.mem_cons.1 mem
        · exact absurd lower (lt_irrefl _)
        · exact absurd (least x later) (by omega)
      · obtain rfl | later := List.mem_cons.1 mem
        · rfl
        · simp [before h List.mem_cons_self (least a later)] at first
    | false =>
      rw [List.find?_cons_of_neg (by simp [first]), ih order]
      refine ⟨fun ⟨mem, holds, before⟩ => ⟨List.mem_cons_of_mem _ mem, holds, fun x among lower => ?_⟩,
        fun ⟨mem, holds, before⟩ => ⟨?_, holds, fun x among lower => before x (List.mem_cons_of_mem _ among) lower⟩⟩
      · obtain rfl | later := List.mem_cons.1 among
        · exact first
        · exact before x later lower
      · obtain rfl | later := List.mem_cons.1 mem
        · simp [first] at holds
        · exact later

/-- The first waiting requester after the one served last. -/
theorem State.firstWaiting_eq_some (s : State) (q : Requester) : s.firstWaiting = some q ↔
    s.waits q = true ∧ ∀ p : Requester, p.after s.served < q.after s.served → s.waits p = false := by
  rw [State.firstWaiting, find?_eq_some_of_ordered (ringAfter_ordered s.served)]
  simp [mem_ringAfter]

theorem State.firstWaiting_eq_none (s : State) : s.firstWaiting = none ↔ ∀ q, s.waits q = false := by
  simp [State.firstWaiting, List.find?_eq_none, mem_ringAfter]

/-- The next one served is the one chosen, or the first waiting one where the choice does not wait. -/
theorem State.nextServed_cases {s : State} {q : Requester} (h : s.nextServed = some q) :
    (s.turn = some q ∧ s.waits q = true) ∨
      ((∀ p, s.turn = some p → s.waits p = false) ∧ s.firstWaiting = some q) := by
  unfold State.nextServed at h
  split at h
  · next p turn =>
    split at h
    · next waits =>
      cases h
      exact .inl ⟨turn, waits⟩
    · next still =>
      refine .inr ⟨fun r same => ?_, h⟩
      rw [turn] at same
      cases same
      simpa using still
  · next free => exact .inr ⟨fun p same => by simp [free] at same, h⟩

theorem State.nextServed_eq_none (s : State) : s.nextServed = none ↔ ∀ q, s.waits q = false := by
  refine ⟨fun none => ?_, fun still => ?_⟩
  · unfold State.nextServed at none
    split at none
    · split at none
      · cases none
      · exact s.firstWaiting_eq_none.1 none
    · exact s.firstWaiting_eq_none.1 none
  · rw [State.nextServed_of_free fun p _ => still p, s.firstWaiting_eq_none]
    exact still

/-! ### What leaves the choice as it is (R29) -/

/-- Whoever waits afterwards waited before, by the same choice and the same last requester served; or the next one
served
has been fixed. -/
def Calm (s t : State) : Prop :=
  (∀ q, t.waits q = true → s.waits q = true ∧ t.turn = s.turn ∧ t.served = s.served) ∨ t.turn = s.nextServed

/-- A calm step leaves the next one served in its place while it waits. -/
theorem Calm.nextServed {s t : State} (calm : Calm s t) {q : Requester} (next : s.nextServed = some q)
    (waits : t.waits q = true) : t.nextServed = some q := by
  obtain still | fixed := calm
  · obtain ⟨-, turn, served⟩ := still q waits
    obtain ⟨chosen, -⟩ | ⟨free, first⟩ := State.nextServed_cases next
    · exact State.nextServed_of_turn (turn.trans chosen) waits
    · have fewer (p : Requester) (none : s.waits p = false) : t.waits p = false := by
        by_contra on
        simp [(still p (by simpa using on)).1] at none
      rw [State.nextServed_of_free fun p same => fewer p (free p (turn ▸ same)), State.firstWaiting_eq_some, served]
      exact ⟨waits, fun p lower => fewer p (((s.firstWaiting_eq_some q).1 first).2 p lower)⟩
  · exact State.nextServed_of_turn (fixed.trans next) waits

theorem Calm.refl (s : State) : Calm s s := .inl fun _ waits => ⟨waits, rfl, rfl⟩

/-- The rotation and the waiting requesters are all that matters. -/
theorem Calm.congr {s t u : State} (calm : Calm s t) (waits : ∀ q, u.waits q = t.waits q) (turn : u.turn = t.turn)
    (served : u.served = t.served) : Calm s u := by
  obtain still | fixed := calm
  · refine .inl fun q on => ?_
    obtain ⟨before, t', s'⟩ := still q ((waits q).symm.trans on)
    exact ⟨before, turn.trans t', served.trans s'⟩
  · exact .inr (turn.trans fixed)

/-- A change of the port does not touch the table controller. -/
theorem Calm.withPort {s t : State} (calm : Calm s t) (p : Port) : Calm s { t with port := p } :=
  calm.congr (fun q => by cases q <;> rfl) rfl rfl

/-- Requests that arrive come after the one that would have been taken. -/
theorem Calm.presenting {s : State} {f : State → State} (turn : (f s).turn = s.turn) (served :
    (f s).served = s.served) :
    Calm s (s.presenting f) := by
  by_cases new : ∃ q, (f s).waits q = true ∧ s.waits q = false
  · obtain ⟨q, waits, waited⟩ := new
    exact .inr (State.presenting_turn_of_new waits waited)
  · have same : s.presenting f = f s := State.presenting_of_same fun q waits => by
      by_contra not
      exact new ⟨q, waits, by simpa using not⟩
    rw [same]
    refine .inl fun q waits => ⟨?_, turn, served⟩
    by_contra not
    exact new ⟨q, waits, by simpa using not⟩

theorem Calm.onChannel (s : State) (c : Channel) (f : ChannelEngine → ChannelEngine) : Calm s (s.onChannel c f) :=
  .presenting rfl rfl

/-- A channel engine presents nothing and takes nothing in. -/
def ChannelEngine.Quiet (ce u : ChannelEngine) : Prop := u.arrivalQueue = ce.arrivalQueue ∧ u.requests = ce.requests

theorem Calm.updCh (s : State) (c : Channel) {f : ChannelEngine → ChannelEngine} (quiet : (s.ch c).Quiet (f (s.ch c))) :
    Calm s (s.updCh c f) := by
  refine (Calm.refl s).congr (fun q => ?_) rfl rfl
  cases q with
  | cu => rfl
  | iu => rfl
  | rx d =>
    by_cases own : c = d
    · subst own
      simp [State.waits, quiet.1]
    · simp [State.waits, own]
  | tx d =>
    by_cases own : c = d
    · subst own
      simp [State.waits, quiet.2]
    · simp [State.waits, own]

namespace ChannelEngine.Quiet

variable {ce u v : ChannelEngine}

theorem refl (ce : ChannelEngine) : ce.Quiet ce := ⟨rfl, rfl⟩

theorem trans (a : ce.Quiet u) (b : u.Quiet v) : ce.Quiet v := ⟨b.1.trans a.1, b.2.trans a.2⟩

theorem begin (ce : ChannelEngine) : ce.Quiet ce.begin := by
  unfold ChannelEngine.begin
  split
  · split
    · exact ⟨rfl, rfl⟩
    · exact refl ce
  · exact refl ce

theorem settle (ce : ChannelEngine) : ce.Quiet ce.settle := trans (u := ce.restartSilence) ⟨rfl, rfl⟩ (begin _)

theorem begun (ce : ChannelEngine) (job : TxJob) : ce.Quiet (ce.begun job) := by
  unfold ChannelEngine.begun
  (repeat' split) <;> exact ⟨rfl, rfl⟩

theorem sendReply (ce : ChannelEngine) : ce.Quiet ce.sendReply := by
  unfold ChannelEngine.sendReply
  (repeat' split) <;> exact ⟨rfl, rfl⟩

theorem replyTooLate (ce : ChannelEngine) : ce.Quiet ce.replyTooLate := by
  unfold ChannelEngine.replyTooLate
  split
  · next rest _ => exact trans (u := { ce with replyQueue := _ }) ⟨rfl, rfl⟩ (begin _)
  · exact refl ce

theorem replyEcho (ce : ChannelEngine) (readBack : List Byte) (clean : Bool) :
    ce.Quiet (ce.replyEcho readBack clean) := by
  unfold ChannelEngine.replyEcho
  split
  · split
    · exact trans (u := ce.sentGood) ⟨rfl, rfl⟩ (settle _)
    · exact ⟨rfl, rfl⟩
  · exact refl ce

theorem joinCallEcho (ce : ChannelEngine) (readBack : List Byte) (clean : Bool) :
    ce.Quiet (ce.joinCallEcho readBack clean) := by
  refine trans (begun ce .joinCall) ?_
  unfold ChannelEngine.joinCallEcho
  generalize ce.begun .joinCall = v
  dsimp only
  split
  · split
    · refine trans ?_ (settle _)
      split <;> exact ⟨rfl, rfl⟩
    · exact ⟨rfl, rfl⟩
  · exact refl v

theorem passTokenEcho (ce : ChannelEngine) (readBack : List Byte) (clean : Bool) :
    ce.Quiet (ce.passTokenEcho readBack clean) := by
  refine trans (begun ce .passToken) ?_
  unfold ChannelEngine.passTokenEcho
  generalize ce.begun .passToken = v
  dsimp only
  split
  · split
    · exact trans (u := v.sentGood.openPassWindow) ⟨rfl, rfl⟩ (settle _)
    · exact ⟨rfl, rfl⟩
  · exact refl v

theorem silenceExpiry (ce : ChannelEngine) : ce.Quiet ce.silenceExpiry := by
  unfold ChannelEngine.silenceExpiry
  split <;> exact ⟨rfl, rfl⟩

theorem claimTransmit (ce : ChannelEngine) : ce.Quiet ce.claimTransmit := by
  unfold ChannelEngine.claimTransmit
  split <;> exact ⟨rfl, rfl⟩

theorem recoveryExpiry (ce : ChannelEngine) : ce.Quiet ce.recoveryExpiry := by
  unfold ChannelEngine.recoveryExpiry ChannelEngine.recoverNow
  (repeat' split) <;> exact ⟨rfl, rfl⟩

end ChannelEngine.Quiet

/-! ### Words of the port -/

theorem Calm.resetBlocks (s : State) (cause : ResetCause) (phase : PortPhase) : Calm s (s.resetBlocks cause phase) := by
  refine .inl fun q waits => ?_
  have none : (s.resetBlocks cause phase).waits q = false := by
    cases q with
    | cu => rfl
    | iu => rfl
    | rx c =>
      have engine : (s.resetBlocks cause phase).ch c = ChannelEngine.reset := Quad.get_all _ c
      rw [State.waits, engine]
      rfl
    | tx c =>
      have engine : (s.resetBlocks cause phase).ch c = ChannelEngine.reset := Quad.get_all _ c
      rw [State.waits, engine]
      rfl
  simp [none] at waits

/-- A word of a channel page leaves the rotation. -/
theorem State.writeChannel_rotation (s : State) (c : Channel) (addr : Nat) (data mask : Word) :
    (s.writeChannel c addr data mask).turn = s.turn ∧ (s.writeChannel c addr data mask).served = s.served := by
  unfold State.writeChannel State.writeConfig
  (repeat' split) <;> exact ⟨rfl, rfl⟩

theorem State.foldl_writeChannel_rotation (l : List Channel) (s : State) (addr : Nat) (data mask : Word) :
    (l.foldl (fun s c => s.writeChannel c addr data mask) s).turn = s.turn ∧
      (l.foldl (fun s c => s.writeChannel c addr data mask) s).served = s.served := by
  induction l generalizing s with
  | nil => exact ⟨rfl, rfl⟩
  | cons c l ih =>
    obtain ⟨turn, served⟩ := s.writeChannel_rotation c addr data mask
    obtain ⟨turn', served'⟩ := ih (s.writeChannel c addr data mask)
    exact ⟨turn'.trans turn, served'.trans served⟩

theorem Calm.writeWord (s : State) (page : Option Page) (addr : Nat) (data mask : Word) :
    Calm s (s.writeWord page addr data mask) := by
  unfold State.writeWord
  split
  · exact .refl s
  · unfold State.writeGlobal
    split
    · dsimp only
      split
      · exact .resetBlocks s _ _
      · exact (Calm.refl s).congr (fun q => by cases q <;> rfl) rfl rfl
    · split
      · exact (Calm.refl s).congr (fun q => by cases q <;> rfl) rfl rfl
      · split
        · refine .presenting ?_ ?_ <;> rw [State.writeCode_eq]
        · exact (Calm.refl s).withPort _
  · split
    · obtain ⟨turn, served⟩ := s.writeChannel_rotation ‹_› addr data mask
      exact .presenting turn served
    · exact (Calm.refl s).withPort _
  · split
    · obtain ⟨turn, served⟩ := State.foldl_writeChannel_rotation allChannels s addr data mask
      exact .presenting turn served
    · exact (Calm.refl s).withPort _

theorem Calm.strayBits (s : State) : Calm s s.strayBits := by
  unfold State.strayBits
  split
  · exact (Calm.refl s).withPort _
  · exact .refl s

theorem Calm.portWrite (s : State) (addr : Byte) (data mask : Word) : Calm s (s.portWrite addr data mask) := by
  unfold State.portWrite
  split
  · exact (Calm.writeWord s _ _ _ _).withPort _
  · exact (Calm.writeWord s _ _ _ _).withPort _
  · exact .refl s
  · exact .refl s
  · exact .strayBits s

theorem Calm.wordOn (s : State) (p : Page → Bool) {f : State → State} (h : ∀ s, Calm s (f s)) : Calm s
    (s.wordOn p f) := by
  unfold State.wordOn
  split
  · exact h s
  · exact .refl s

theorem Calm.clearReported (s : State) (c : Channel) (reported : BitVec 9) : Calm s (s.clearReported c reported) :=
  .updCh s c ⟨rfl, rfl⟩

theorem Calm.portRead (s : State) (addr : Byte) : Calm s (s.portRead addr) := by
  have after (page : Page) : Calm s (s.afterWord page addr.toNat) := by
    unfold State.afterWord
    split
    · exact .clearReported s _ _
    · exact .refl s
  unfold State.portRead
  dsimp only
  split
  · exact (Calm.refl s).withPort _
  · split
    · exact (after _).withPort _
    · exact (Calm.refl s).withPort _
  · exact .refl s
  · exact .refl s
  · exact .refl s
  · exact .strayBits s

theorem Calm.portCompare (s : State) (addr : Byte) (expected mask : Word) :
    Calm s (s.portCompare addr expected mask) := by
  unfold State.portCompare
  split
  · exact (Calm.refl s).withPort _
  · split <;> exact (Calm.refl s).withPort _
  · exact .refl s
  · exact .refl s
  · exact .refl s
  · exact .strayBits s

theorem Calm.takeEvents (s : State) : Calm s s.takeEvents := by
  unfold State.takeEvents
  split
  · exact (Calm.refl s).withPort _
  · exact .refl s
  · exact .strayBits s

theorem Calm.eventsShifted (s : State) : Calm s s.eventsShifted := by
  unfold State.eventsShifted
  split
  · exact (Calm.clearReported s _ _).withPort _
  · exact .strayBits s

/-! ### Every command -/

/-- The transactions of the table and the requester each one serves, with channel `c` for those of a channel. -/
def Takes (c : Channel) (i : Instr) (q : Requester) : Prop :=
  (i, q) ∈ [(Instr.commandTransaction, Requester.cu), (.freshnessExpiry, .iu), (.refreshExpiry, .iu),
    (.inhibitGapExpiry, .iu), (.publishArrival c, .rx c), (.recallArrival c, .rx c), (.attemptStart c, .tx c),
    (.attemptOutcome c, .tx c), (.removalTransaction c, .tx c)]

theorem takes_iff (c : Channel) (i : Instr) (q : Requester) : Takes c i q ↔
    (i = .commandTransaction ∧ q = .cu) ∨
      ((i = .freshnessExpiry ∨ i = .refreshExpiry ∨ i = .inhibitGapExpiry) ∧ q = .iu) ∨
      ((i = .publishArrival c ∨ i = .recallArrival c) ∧ q = .rx c) ∨
        ((i = .attemptStart c ∨ i = .attemptOutcome c ∨ i = .removalTransaction c) ∧ q = .tx c) := by
  simp only [Takes, List.mem_cons, Prod.mk.injEq, List.not_mem_nil, or_false, or_and_right, or_assoc]

/-- Every command that is no table transaction is calm. -/
theorem exec_calm {i : Instr} {s t : State} (h : exec i s = .next t) (other : ∀ c q, ¬ Takes c i q) : Calm s t := by
  cases i
  case pinReset selLow => cases h; exact .resetBlocks s _ _
  case portStatusByte control => cases h; exact (Calm.refl s).withPort _
  case endInsideTransaction bits =>
    simp only [exec, execEndInsideTransaction] at h
    split at h <;> cases h
    · exact (Calm.refl s).withPort _
    · exact .refl s
  case registerWrite addr data mask => cases h; exact .portWrite s addr data mask
  case compare addr expected mask => cases h; exact .portCompare s addr expected mask
  case eventRead part =>
    cases part <;> cases h
    · exact .wordOn s _ fun s => .portRead s _
    · exact .wordOn s _ .takeEvents
    · exact .eventsShifted s
  case readAtAbsentAddress addr => cases h; exact .portRead s addr
  case softReset | attnEnable | eventEnableWrite | configWrite | channelEnable | channelDisable | restart | recover |
      clearCounters | declare | amend | find | list | fetch | post | send | _ | cancel | suspend | resume |
      retire | take | clearTable | unknownCommand => cases h; exact .wordOn s _ fun s => .portWrite s _ _ _
  case tick =>
    cases h
    exact .presenting (congrArg State.turn s.tick_frame :) (congrArg State.served s.tick_frame :)
  case deadlineDue =>
    simp only [exec, execDeadlineDue] at h
    split at h <;> cases h
    · obtain ⟨iu, same, -⟩ := (s.makeDue ‹_›).presentDue_frame
      exact .presenting (congrArg State.turn same :) (congrArg State.served same :)
    · exact .refl s
  case recoveryIntervalExpiry c => cases h; exact .updCh s c (.recoveryExpiry _)
  case publishReceived c p => cases h; exact .onChannel s c _
  case recallReceived c q => cases h; exact .onChannel s c _
  case confirmReceived c q => cases h; exact .onChannel s c _
  case tokenReceived c source => cases h; exact .onChannel s c _
  case joinCallReceived c source => cases h; exact .onChannel s c _
  case joinReplyReceived c source => cases h; exact .onChannel s c _
  case unmatchedRingTelegram c kind source target => cases kind <;> cases h <;> exact .onChannel s c _
  case checkFailure c bytes => cases h; exact .onChannel s c _
  case unknownKindTelegram c bytes => cases h; exact .onChannel s c _
  case framingFault c kind => cases h; exact .onChannel s c _
  case startBit c => cases h; exact .onChannel s c _
  case endGap c => cases h; exact .onChannel s c _
  case attemptEcho c readBack clean => cases h; exact .onChannel s c _
  case replyWindowExpiry c => cases h; exact .onChannel s c _
  case passWindowExpiry c => cases h; exact .onChannel s c _
  case claimEcho c readBack clean => cases h; exact .onChannel s c _
  case sendReply c => cases h; exact .updCh s c (.sendReply _)
  case replyLatestStart c => cases h; exact .updCh s c (.replyTooLate _)
  case replyEcho c readBack clean => cases h; exact .updCh s c (.replyEcho _ readBack clean)
  case joinCallEcho c readBack clean => cases h; exact .updCh s c (.joinCallEcho _ readBack clean)
  case passTokenEcho c readBack clean => cases h; exact .updCh s c (.passTokenEcho _ readBack clean)
  case silenceTimerExpiry c => cases h; exact .updCh s c (.silenceExpiry _)
  case claimTransmit c => cases h; exact .updCh s c (.claimTransmit _)
  case commandTransaction => exact absurd ((takes_iff 0 _ .cu).2 (by simp)) (other 0 .cu)
  case freshnessExpiry => exact absurd ((takes_iff 0 _ .iu).2 (by simp)) (other 0 .iu)
  case refreshExpiry => exact absurd ((takes_iff 0 _ .iu).2 (by simp)) (other 0 .iu)
  case inhibitGapExpiry => exact absurd ((takes_iff 0 _ .iu).2 (by simp)) (other 0 .iu)
  case publishArrival c => exact absurd ((takes_iff c _ (.rx c)).2 (by simp)) (other c (.rx c))
  case recallArrival c => exact absurd ((takes_iff c _ (.rx c)).2 (by simp)) (other c (.rx c))
  case attemptStart c => exact absurd ((takes_iff c _ (.tx c)).2 (by simp)) (other c (.tx c))
  case attemptOutcome c => exact absurd ((takes_iff c _ (.tx c)).2 (by simp)) (other c (.tx c))
  case removalTransaction c => exact absurd ((takes_iff c _ (.tx c)).2 (by simp)) (other c (.tx c))

theorem State.takeExpiry_outOfTurn {s : State} (out : s.nextServed ≠ some .iu) (k : DeadlineKind)
    (apply : State → RowId → State) : s.takeExpiry k apply = s := by
  unfold State.takeExpiry
  split
  · split
    · exact State.transact_other out _
    · rfl
  · rfl

/-- A table transaction out of its turn is not taken (log entry 4). -/
theorem exec_outOfTurn {c : Channel} {i : Instr} {q : Requester} {s : State} (takes : Takes c i q)
    (out : s.nextServed ≠ some q) : exec i s = .next s := by
  obtain ⟨rfl, rfl⟩ | ⟨rfl | rfl | rfl, rfl⟩ | ⟨rfl | rfl, rfl⟩ | ⟨rfl | rfl | rfl, rfl⟩ := (takes_iff c i q).1 takes
  · simp only [exec, execCommandTransaction]
    split
    · rw [State.transact_other out]
    · rfl
  · exact congrArg Host.Outcome.next (State.takeExpiry_outOfTurn out _ _)
  · exact congrArg Host.Outcome.next (State.takeExpiry_outOfTurn out _ _)
  · exact congrArg Host.Outcome.next (State.takeExpiry_outOfTurn out _ _)
  · simp only [exec, execPublishArrival]
    split
    · rw [State.transact_other out]
    · rfl
  · simp only [exec, execRecallArrival]
    split
    · rw [State.transact_other out]
    · rfl
  · simp only [exec, execAttemptStart]
    split
    · rw [State.transact_other out]
    · rfl
  · simp only [exec, execAttemptOutcome]
    split
    · rw [State.transact_other out]
    · rfl
  · simp only [exec, execRemovalTransaction]
    split
    · rw [State.transact_other out]
    · rfl

/-- Settles O36: `State.firstWaiting_eq_some` for the ring, `exec_calm` for what arrives later, `exec_outOfTurn` and
`State.takeExpiry_turnedAway` for what is not applied. -/
theorem rotationAndTurnedAwayExpiries : Obligations.RotationAndTurnedAwayExpiries := by
  unfold Obligations.RotationAndTurnedAwayExpiries
  intro takes
  refine ⟨fun s q => State.nextServed_of_turn, fun s q free => ?_, State.nextServed_eq_none,
    fun s t i q h next not waits => ?_, fun s c i q => exec_outOfTurn, fun s p i kind presented next out => ?_⟩
  · rw [State.nextServed_of_free free, State.firstWaiting_eq_some]
  · by_cases tx : ∃ c p, Takes c i p
    · obtain ⟨c, p, taken⟩ := tx
      have ne : p ≠ q := fun same => not c (same ▸ taken)
      have out : s.nextServed ≠ some p := by
        rw [next]
        exact fun same => ne (Option.some.inj same).symm
      rw [exec_outOfTurn taken out] at h
      cases h
      exact next
    · exact (exec_calm h fun c p taken => tx ⟨c, p, taken⟩).nextServed next waits
  · have runs (apply : State → RowId → State) (row : exec i s = .next (s.takeExpiry p.entry.kind apply)) :
        exec i s = .next s.expiring.presentDue.wakeAll := by
      rw [row, State.takeExpiry_turnedAway presented next out]
    have row : ∃ apply, exec i s = .next (s.takeExpiry p.entry.kind apply) := by
      simp only [List.mem_cons, Prod.mk.injEq, List.not_mem_nil, or_false] at kind
      obtain ⟨kind, rfl⟩ | ⟨kind, rfl⟩ | ⟨kind, rfl⟩ := kind
      · exact ⟨State.applyFreshness, by rw [kind]; rfl⟩
      · exact ⟨State.applyRefresh, by rw [kind]; rfl⟩
      · exact ⟨State.applyGap, by rw [kind]; rfl⟩
    obtain ⟨apply, row⟩ := row
    have offers := State.presentDue_offers (s := s.expiring) rfl
    obtain ⟨iu, same, count⟩ := s.expiring.presentDue_frame
    rw [same] at offers
    refine ⟨_, runs apply row, ?_⟩
    rw [same]
    exact ⟨offers, count, ⟨rfl, rfl⟩, rfl, rfl⟩

end Sys2Proof.Machine
end

section
/-! PROOFS. The station list of the token ring (O40): the successor, the gap and the join cursor, each found where the
manual says (R143, R149). -/

namespace Sys2Proof.Machine

set_option Elab.async false

/-! ### The successor (R143) -/

theorem Successor.unique {own t u : Nat} {l : List Nat} (a : Successor own l t) (b : Successor own l u) : t = u := by
  obtain ⟨memT, ⟨aboveT, leastT⟩ | ⟨noneT, leastT⟩⟩ := a
  all_goals obtain ⟨memU, ⟨aboveU, leastU⟩ | ⟨noneU, leastU⟩⟩ := b
  · exact Nat.le_antisymm (leastT u memU aboveU) (leastU t memT aboveT)
  · exact absurd aboveT (noneU t memT)
  · exact absurd aboveU (noneT u memU)
  · exact Nat.le_antisymm (leastT u memU) (leastU t memT)

theorem Successor.nonempty {own t : Nat} {l : List Nat} (h : Successor own l t) : l ≠ [] := by
  rintro rfl
  exact absurd h.1 (List.not_mem_nil)

/-- In an ascending list the first member above the own station is the lowest above it, and the head the lowest. -/
theorem successor_of_successorOf {own t : Nat} {l : List Nat} (asc : l.Pairwise (fun a b => a < b))
    (h : successorOf own l = some t) : Successor own l t := by
  unfold successorOf at h
  split at h
  case h_1 x found =>
    obtain rfl := Option.some.inj h
    obtain ⟨above, before, after, rfl, below⟩ := List.find?_eq_some_iff_append.mp found
    refine ⟨by simp, .inl ⟨of_decide_eq_true above, fun y mem higher => ?_⟩⟩
    obtain early | late := List.mem_append.mp mem
    · simp only [Bool.not_eq_true', decide_eq_false_iff_not] at below
      exact absurd higher (below y early)
    · obtain rfl | later := List.mem_cons.mp late
      · exact Nat.le_refl _
      · exact Nat.le_of_lt ((List.pairwise_cons.mp (List.pairwise_append.mp asc).2.1).1 y later)
  case h_2 missing =>
    cases l with
    | nil => exact absurd h nofun
    | cons x l =>
      obtain rfl := Option.some.inj h
      simp only [List.find?_eq_none, decide_eq_true_eq] at missing
      refine ⟨List.mem_cons_self, .inr ⟨missing, fun y mem => ?_⟩⟩
      obtain rfl | later := List.mem_cons.mp mem
      · exact Nat.le_refl _
      · exact Nat.le_of_lt ((List.pairwise_cons.mp asc).1 y later)

theorem successorOf_eq_none {own : Nat} {l : List Nat} : successorOf own l = none ↔ l = [] := by
  refine ⟨fun h => ?_, fun empty => by rw [empty]; rfl⟩
  unfold successorOf at h
  split at h
  · exact absurd h nofun
  · exact List.head?_eq_none_iff.mp h

theorem successorOf_eq_some {own t : Nat} {l : List Nat} (asc : l.Pairwise (fun a b => a < b)) :
    successorOf own l = some t ↔ Successor own l t := by
  refine ⟨successor_of_successorOf asc, fun h => ?_⟩
  cases found : successorOf own l with
  | none => exact absurd (successorOf_eq_none.mp found) h.nonempty
  | some u => rw [(successor_of_successorOf asc found).unique h]

/-! ### The gap (R143) -/

theorem mem_stationsAfter {own x : Nat} : x ∈ stationsAfter own ↔ x ≠ 0 ∧ x ≤ 31 ∧ x ≠ own := by
  simp only [stationsAfter, List.mem_append, List.mem_filter, List.mem_range, Bool.and_eq_true, decide_eq_true_eq]
  omega

/-- Counting on from the own station, each number stands farther from it than the one before. -/
theorem stationsAfter_ordered {own : Nat} (low : 1 ≤ own) (high : own ≤ 31) :
    (stationsAfter own).Pairwise (fun a b => stationDistance own a < stationDistance own b) := by
  have counted (p : Nat → Bool) : ((List.range 32).filter p).Pairwise (fun a b => a < b) :=
    List.pairwise_lt_range.filter p
  refine List.pairwise_append.mpr ⟨?_, ?_, ?_⟩
  · refine (counted _).imp_of_mem fun {a b} memA memB below => ?_
    simp only [List.mem_filter, List.mem_range, decide_eq_true_eq] at memA memB
    unfold stationDistance
    omega
  · refine (counted _).imp_of_mem fun {a b} memA memB below => ?_
    simp only [List.mem_filter, List.mem_range, Bool.and_eq_true, decide_eq_true_eq] at memA memB
    unfold stationDistance
    omega
  · intro a memA b memB
    simp only [List.mem_filter, List.mem_range, Bool.and_eq_true, decide_eq_true_eq] at memA memB
    unfold stationDistance
    omega

/-- In a list ordered by a distance, the members before `t` are those at a smaller distance. -/
theorem mem_takeWhile_ne {f : Nat → Nat} {l : List Nat} (ordered : l.Pairwise (fun a b => f a < f b)) {t : Nat}
    (mem : t ∈ l) (x : Nat) : x ∈ (l.takeWhile fun y => y ≠ t) ↔ x ∈ l ∧ f x < f t := by
  induction l with
  | nil => exact absurd mem List.not_mem_nil
  | cons y l ih =>
    obtain ⟨first, rest⟩ := List.pairwise_cons.mp ordered
    by_cases here : y = t
    · subst here
      have nearer : ∀ z ∈ y :: l, f y ≤ f z := by
        intro z member
        obtain rfl | later := List.mem_cons.mp member
        · exact Nat.le_refl _
        · exact Nat.le_of_lt (first z later)
      simp only [List.takeWhile_cons, ne_eq, not_true_eq_false, decide_false, Bool.false_eq_true, if_false,
        List.not_mem_nil, false_iff, not_and, Nat.not_lt]
      exact nearer x
    · have later : t ∈ l := (List.mem_cons.mp mem).resolve_left (Ne.symm here)
      simp only [List.takeWhile_cons, ne_eq, here, not_false_eq_true, decide_true, if_true, List.mem_cons]
      constructor
      · rintro (rfl | inside)
        · exact ⟨.inl rfl, first t later⟩
        · exact ⟨.inr ((ih rest later).mp inside).1, ((ih rest later).mp inside).2⟩
      · rintro ⟨rfl | inside, nearer⟩
        · exact .inl rfl
        · exact .inr ((ih rest later).mpr ⟨inside, nearer⟩)

theorem gapOf_ordered {own : Nat} (low : 1 ≤ own) (high : own ≤ 31) (l : List Nat) :
    (gapOf own l).Pairwise (fun a b => stationDistance own a < stationDistance own b) := by
  unfold gapOf
  split
  · exact (stationsAfter_ordered low high).sublist (List.takeWhile_sublist _)
  · exact stationsAfter_ordered low high

theorem mem_gapOf {own : Nat} (low : 1 ≤ own) (high : own ≤ 31) {l : List Nat} (asc : l.Pairwise (fun a b => a < b))
    (stations : ∀ x ∈ l, 1 ≤ x ∧ x ≤ 31 ∧ x ≠ own) (x : Nat) :
    x ∈ gapOf own l ↔ 1 ≤ x ∧ x ≤ 31 ∧ x ≠ own ∧
      ∀ t, Successor own l t → stationDistance own x < stationDistance own t := by
  unfold gapOf
  split
  case h_1 t found =>
    have successor := (successorOf_eq_some asc).mp found
    have station : t ∈ stationsAfter own := by
      obtain ⟨lowT, highT, other⟩ := stations t successor.1
      exact mem_stationsAfter.mpr ⟨by omega, highT, other⟩
    rw [mem_takeWhile_ne (stationsAfter_ordered low high) station, mem_stationsAfter]
    constructor
    · rintro ⟨⟨lowX, highX, other⟩, nearer⟩
      exact ⟨by omega, highX, other, fun u h => by rwa [h.unique successor]⟩
    · rintro ⟨lowX, highX, other, nearer⟩
      exact ⟨⟨by omega, highX, other⟩, nearer t successor⟩
  case h_2 missing =>
    have empty := successorOf_eq_none.mp missing
    rw [mem_stationsAfter]
    constructor
    · rintro ⟨lowX, highX, other⟩
      exact ⟨by omega, highX, other, fun t h => absurd empty h.nonempty⟩
    · rintro ⟨lowX, highX, other, _⟩
      exact ⟨by omega, highX, other⟩

/-! ### The join cursor (R149) -/

theorem joinTarget_eq_none {gap : List Nat} {cursor : Option Nat} : joinTarget gap cursor = none ↔ gap = [] := by
  constructor
  · intro h
    unfold joinTarget at h
    split at h
    · exact List.head?_eq_none_iff.mp h
    · split at h
      · exact absurd h nofun
      · exact List.head?_eq_none_iff.mp h
  · rintro rfl
    cases cursor <;> rfl

/-- What follows the first `k` of a list in which something follows a `k`. -/
theorem dropWhile_ne_follows (k x : Nat) (before after : List Nat) :
    (((before ++ k :: x :: after).dropWhile fun y => y ≠ k).drop 1) ≠ [] := by
  induction before with
  | nil => simp
  | cons y before ih =>
    by_cases here : y = k
    · simp [here]
    · simpa [here] using ih

theorem joinTarget_eq_some {gap : List Nat} {cursor : Option Nat} {g : Nat} (h : joinTarget gap cursor = some g) :
    (∃ k before after, cursor = some k ∧ gap = before ++ k :: g :: after) ∨
      ((∀ k before x after, cursor = some k → gap ≠ before ++ k :: x :: after) ∧ ∃ after, gap = g :: after) := by
  unfold joinTarget at h
  split at h
  · exact .inr ⟨nofun, List.head?_eq_some_iff.mp h⟩
  case h_2 k =>
    split at h
    case h_1 x after found =>
      obtain rfl := Option.some.inj h
      have parts := List.takeWhile_append_dropWhile (p := fun y => decide (y ≠ k)) (l := gap)
      cases rest : gap.dropWhile fun y => decide (y ≠ k) with
      | nil => rw [rest] at found; exact absurd found nofun
      | cons y tail =>
        have stopped := List.head?_dropWhile_not (fun y => decide (y ≠ k)) gap
        rw [rest] at found parts stopped
        have here : y = k := by simpa using stopped
        have follows : tail = x :: after := found
        exact .inl ⟨k, _, after, rfl, by rw [← parts, here, follows]⟩
    case h_2 ends =>
      refine .inr ⟨?_, List.head?_eq_some_iff.mp h⟩
      rintro _ before x after ⟨⟩ rfl
      exact dropWhile_ne_follows k x before after ends

/-- Settles O40, from `successorOf_eq_some`, `mem_gapOf` and `joinTarget_eq_some`. -/
theorem successorGapAndCursor : Obligations.SuccessorGapAndCursor :=
  fun _ l low high asc stations => ⟨fun _ => successorOf_eq_some asc, successorOf_eq_none, gapOf_ordered low high l,
    mem_gapOf low high asc stations, fun _ => ⟨joinTarget_eq_none, fun _ => joinTarget_eq_some⟩⟩

end Sys2Proof.Machine
end

section
/-! PROOFS. The manual's words for a channel engine and the model's operations: the silence timer, the telegram that
waits, conflicts, visits, join calls and passes (R120, R132, R143 to R155). -/

namespace Sys2Proof.Machine

set_option Elab.async false

namespace ChannelEngine

variable {ce : ChannelEngine}

/-! ### The line and the silence timer -/

theorem lineIdle_iff : ce.lineIdle = true ↔ ce.sending = none ∧ (ce.rx = .idle ∨ ce.rx = .unsynced) := by
  simp [lineIdle]

theorem restartSilence_eq (ce : ChannelEngine) : ce.restartSilence = ce.timed := by
  have length : ce.silenceLength = if ce.state = .listening then some ((40 + ce.own.toNat) * ce.slotBits)
      else if ce.state = .receiving then some ((8 + ce.own.toNat) * ce.slotBits) else none := by
    unfold silenceLength
    cases ce.state <;> rfl
  unfold restartSilence timed
  rw [length]
  by_cases idle : ce.sending = none ∧ (ce.rx = .idle ∨ ce.rx = .unsynced)
  · rw [if_pos (lineIdle_iff.mpr idle), if_pos idle]
  · rw [if_neg (fun h => idle (lineIdle_iff.mp h)), if_neg idle]

/-- A stopped timer stays stopped in a state that does not run it. -/
theorem restartSilence_of_stopped (stopped : ce.silenceTimer = none) (listening : ce.state ≠ .listening)
    (receiving : ce.state ≠ .receiving) : ce.restartSilence = ce := by
  refine (restartSilence_eq ce).trans ?_
  rw [timed, if_neg listening, if_neg receiving, ite_self, ← stopped]

theorem begin_waiting (ce : ChannelEngine) (x : Transmission) : { ce with waiting := some x }.begin = ce.readied x := by
  by_cases idle : ce.sending = none ∧ (ce.rx = .idle ∨ ce.rx = .unsynced) ∧ ce.replyQueue = []
  · obtain ⟨quiet, line, replies⟩ := idle
    rw [readied, if_pos ⟨rfl, quiet, line, replies⟩]
    exact if_pos (Bool.and_eq_true_iff.mpr ⟨lineIdle_iff.mpr ⟨quiet, line⟩, List.isEmpty_iff.mpr replies⟩)
  · rw [readied, if_neg (fun h => idle h.2)]
    refine if_neg fun h => ?_
    obtain ⟨line, replies⟩ := Bool.and_eq_true_iff.mp h
    obtain ⟨quiet, free⟩ := lineIdle_iff.mp line
    exact idle ⟨quiet, free, List.isEmpty_iff.mp replies⟩

theorem readied_later (ce : ChannelEngine) (x : Transmission) : ce.readied x false = { ce with waiting := some x } :=
  if_neg nofun

theorem begin_of_waiting {x : Transmission} (waits : ce.waiting = some x) : ce.begin = ce.readied x := by
  rw [← begin_waiting, ← waits]

theorem settle_eq (ce : ChannelEngine) : ce.settle = ce.settled := by
  unfold settle settled
  rw [restartSilence_eq]
  cases waits : ce.waiting with
  | none => exact begin_of_quiet waits
  | some x => exact begin_of_waiting (ce := ce.timed) waits

theorem settled_of_quiet (waits : ce.waiting = none) : ce.settled = ce.timed := by
  rw [settled, waits]

/-! ### Conflicts and SILENT -/

theorem endAttempt_eq_attemptEnds (ce : ChannelEngine) (o : AttemptOutcome) : ce.endAttempt o = ce.attemptEnds o := rfl

theorem conflict_eq (ce : ChannelEngine) : ce.conflict = ce.conflicted := by
  have event : (ce.endAttempt .lineError).event = ce.event := (congrArg ChannelEngine.event (ce.endAttempt_eq _) :)
  refine (restartSilence_eq _).trans ?_
  show ({ (ce.endAttempt .lineError).gaveUp with
    state := .receiving, event := (ce.endAttempt .lineError).event ||| 0x002 } : ChannelEngine).timed = _
  rw [event]
  rfl

theorem enterSilent_eq (ce : ChannelEngine) : ce.enterSilent = ce.fellSilent := by
  have same := ce.endAttempt_eq .lineError
  have recover : (ce.endAttempt .lineError).autoRecover = ce.autoRecover := (congrArg ChannelEngine.autoRecover same :)
  have units : (ce.endAttempt .lineError).recoveryUnits = ce.recoveryUnits :=
    (congrArg ChannelEngine.recoveryUnits same :)
  have event : (ce.endAttempt .lineError).event = ce.event := (congrArg ChannelEngine.event same :)
  show { ({ ((ce.endAttempt .lineError).gaveUp) with
      state := .silent, event := (ce.endAttempt .lineError).event ||| 0x010, replyQueue := [], silenceTimer := none
      } : ChannelEngine) with
    recovery := if (ce.endAttempt .lineError).autoRecover then
      some (10 * (ce.endAttempt .lineError).recoveryUnits + 1) else none } = _
  rw [recover, units, event]
  rfl

/-! ### Attempt starts, calls and passes -/

theorem requestAttempt_eq (ce : ChannelEngine) : ce.requestAttempt = { ce with requests := ce.attemptRequested } := by
  unfold requestAttempt attemptRequested
  by_cases asked : SendRequest.attemptStart ∈ ce.requests
  · rw [if_pos (List.contains_iff_mem.mpr asked), if_pos asked]
  · rw [if_neg (fun h => asked (List.contains_iff_mem.mp h)), if_neg asked]

theorem removalWaits_iff : ce.removalWaits = true ↔ .removal ∈ ce.requests := List.contains_iff_mem

theorem startPass_eq (ce : ChannelEngine) (t : Nat) : ce.startPass t = ce.passesTo (BitVec.ofNat 8 t) false false := by
  rw [passesTo, readied_later]
  rfl

theorem passesTo_begin (ce : ChannelEngine) (t : Byte) (second : Bool) :
    (ce.passesTo t second false).begin = ce.passesTo t second true := by
  unfold passesTo
  rw [readied_later]
  exact begin_waiting _ _

theorem readied_begin (ce : ChannelEngine) (x : Transmission) : (ce.readied x false).begin = ce.readied x true := by
  rw [readied_later]
  exact begin_waiting _ _

theorem passOn_eq {t : Nat} (asc : ce.stationList.Pairwise (fun a b => a < b))
    (successor : Successor ce.own.toNat ce.stationList t) : ce.passOn = ce.passesTo (BitVec.ofNat 8 t) false false := by
  unfold passOn
  rw [(successorOf_eq_some asc).mpr successor]
  exact startPass_eq ce t

theorem passOn_alone (alone : ce.stationList = []) : ce.passOn = ce.visitAlone := by
  unfold passOn
  rw [successorOf_eq_none.mpr alone]

/-- Step 2 of a visit with no call: the join interval is 0, or not yet over, or the gap is empty. -/
theorem joinStep_zero (zero : ce.joinInterval = 0) : ce.joinStep = ({ ce with joinCount := 0 }, none) := by
  rw [joinStep, if_pos zero]

theorem joinStep_notDue (early : ce.joinCount + 1 < ce.joinInterval) (listed : ce.stationList ≠ []) :
    ce.joinStep = ({ ce with joinCount := ce.joinCount + 1 }, none) := by
  rw [joinStep, if_neg (by omega), if_neg]
  rintro (due | alone)
  · omega
  · exact listed alone

theorem joinStep_called {g : Nat} (some : 1 ≤ ce.joinInterval)
    (due : ce.joinInterval ≤ ce.joinCount + 1 ∨ ce.stationList = [])
    (target : joinTarget (gapOf ce.own.toNat ce.stationList) ce.joinCursor = .some g) :
    ce.joinStep = ({ ce with joinCount := 0, joinCursor := .some g }, .some g) := by
  rw [joinStep, if_neg (by omega), if_pos due, target]

theorem joinStep_gapless (some : 1 ≤ ce.joinInterval) (due : ce.joinInterval ≤ ce.joinCount + 1 ∨ ce.stationList = [])
    (full : gapOf ce.own.toNat ce.stationList = []) : ce.joinStep = ({ ce with joinCount := 0 }, none) := by
  rw [joinStep, if_neg (by omega), if_pos due, joinTarget_eq_none.mpr full]

theorem afterAttempts_none {v : ChannelEngine} (step : ce.joinStep = (v, none)) : ce.afterAttempts = v.passOn := by
  rw [afterAttempts, step]

theorem afterAttempts_some {v : ChannelEngine} {g : Nat} (step : ce.joinStep = (v, some g)) :
    ce.afterAttempts = v.callStation g := by
  rw [afterAttempts, step]

theorem callStation_eq (ce : ChannelEngine) (g : Nat) : ce.callStation g =
    { ce with visit := ce.visit.map fun (x : Visit) => { x with step := .joinCall } }.readied
      { job := .joinCall, telegram := .joinCall ce.own (BitVec.ofNat 8 g) } false := by
  rw [readied_later]
  rfl

/-- The visit of a channel alone on its segment, by what stands before it. -/
theorem visitAlone_owed (owed : ce.inFlight ≠ none ∨ .removal ∈ ce.requests) : ce.visitAlone = ce.visits := by
  have waits : (ce.enterHolding.inFlight.isSome || ce.enterHolding.removalWaits) = true := by
    rw [Bool.or_eq_true]
    exact owed.imp Option.isSome_iff_ne_none.mpr removalWaits_iff.mpr
  exact if_pos waits

theorem visitAlone_free (flight : ce.inFlight = none) (removal : .removal ∉ ce.requests) :
    ¬ (ce.enterHolding.inFlight.isSome || ce.enterHolding.removalWaits) = true := by
  rw [Bool.or_eq_true]
  rintro (h | h)
  · exact Option.isSome_iff_ne_none.mp h flight
  · exact removal (removalWaits_iff.mp h)

theorem visitAlone_pending (flight : ce.inFlight = none) (removal : .removal ∉ ce.requests)
    (pending : ce.pendingCount ≠ 0) : ce.visitAlone = { ce.visits with requests := ce.attemptRequested } := by
  refine (if_neg (visitAlone_free flight removal)).trans ((if_pos pending).trans ?_)
  exact requestAttempt_eq ce.enterHolding

theorem visitAlone_called (flight : ce.inFlight = none) (removal : .removal ∉ ce.requests)
    (nothing : ce.pendingCount = 0) {v : ChannelEngine} {g : Nat} (step : ce.visits.joinStep = (v, some g)) :
    ce.visitAlone = v.callStation g := by
  refine (if_neg (visitAlone_free flight removal)).trans ((if_neg (not_not.mpr nothing)).trans ?_)
  have same : ce.enterHolding.joinStep = (v, some g) := step
  rw [same]

theorem visitAlone_uncalled (flight : ce.inFlight = none) (removal : .removal ∉ ce.requests)
    (nothing : ce.pendingCount = 0) {v : ChannelEngine} (step : ce.visits.joinStep = (v, none)) :
    ce.visitAlone = v := by
  refine (if_neg (visitAlone_free flight removal)).trans ((if_neg (not_not.mpr nothing)).trans ?_)
  have same : ce.enterHolding.joinStep = (v, none) := step
  rw [same]

end ChannelEngine

end Sys2Proof.Machine
end

section
/-! PROOFS. How a visit begins and goes on, a pass is entered and a try of it fails (R148 to R151): the model's
operations do what the manual's steps say, with a telegram left standing ready, and then begun where the line allows. -/

namespace Sys2Proof.Machine

set_option Elab.async false

namespace ChannelEngine

variable {ce : ChannelEngine}

/-! ### Telegrams left standing ready -/

theorem afterAttempts_goesOn (asc : ce.stationList.Pairwise (fun a b => a < b)) :
    VisitGoesOn ce ce.afterAttempts false where
  uncalled t zero successor := by
    rw [afterAttempts_none (joinStep_zero zero)]
    exact passOn_eq (ce := { ce with joinCount := 0 }) asc successor
  notDue t early successor := by
    rw [afterAttempts_none (joinStep_notDue early successor.nonempty)]
    exact passOn_eq (ce := { ce with joinCount := ce.joinCount + 1 }) asc successor
  gapless t some due full successor := by
    rw [afterAttempts_none (joinStep_gapless some (.inl due) full)]
    exact passOn_eq (ce := { ce with joinCount := 0 }) asc successor
  called g some due target := by
    rw [afterAttempts_some (joinStep_called some due target)]
    exact callStation_eq _ g
  alone zero alone flight removal waits := by
    rw [afterAttempts_none (joinStep_zero zero), passOn_alone (ce := { ce with joinCount := 0 }) alone]
    by_cases nothing : ce.pendingCount = 0
    · rw [if_pos nothing]
      exact visitAlone_uncalled (ce := { ce with joinCount := 0 }) flight removal nothing (joinStep_zero zero)
    · rw [if_neg nothing]
      exact visitAlone_pending (ce := { ce with joinCount := 0 }) flight removal nothing

theorem runAttempts_holding {v : Visit} (holding : ce.state = .holding) (visit : ce.visit = some v) :
    ce.runAttempts = if v.step ≠ .attempts ∨ ce.inFlight.isSome ∨ ce.removalWaits then ce
      else if v.count < ce.visitBudget ∧ ce.pendingCount ≠ 0 then ce.requestAttempt else ce.afterAttempts := by
  unfold runAttempts
  simp only [holding, visit]

theorem runAttempts_waiting {v : Visit} (holding : ce.state = .holding) (visit : ce.visit = some v)
    (owed : v.step ≠ .attempts ∨ ce.inFlight ≠ none ∨ .removal ∈ ce.requests) : ce.runAttempts = ce := by
  rw [runAttempts_holding holding visit, if_pos]
  exact owed.imp id (Or.imp Option.isSome_iff_ne_none.mpr removalWaits_iff.mpr)

theorem runAttempts_free {v : Visit} (holding : ce.state = .holding) (visit : ce.visit = some v)
    (step : v.step = .attempts) (flight : ce.inFlight = none) (removal : .removal ∉ ce.requests) :
    ce.runAttempts = if v.count < ce.visitBudget ∧ ce.pendingCount ≠ 0 then { ce with requests := ce.attemptRequested }
      else ce.afterAttempts := by
  rw [runAttempts_holding holding visit, if_neg, requestAttempt_eq]
  rintro (h | h | h)
  · exact h step
  · exact Option.isSome_iff_ne_none.mp h flight
  · exact removal (removalWaits_iff.mp h)

theorem beginVisit_begun (asc : ce.stationList.Pairwise (fun a b => a < b)) (budget : 1 ≤ ce.visitBudget) :
    VisitBegun ce ce.beginVisit false where
  owed waits := runAttempts_waiting (ce := ce.enterHolding) rfl rfl (.inr waits)
  attempts flight removal pending :=
    (runAttempts_free (ce := ce.enterHolding) rfl rfl rfl flight removal).trans (if_pos ⟨budget, pending⟩)
  goesOn flight removal nothing := by
    have runs : ce.beginVisit = ce.visits.afterAttempts :=
      (runAttempts_free (ce := ce.enterHolding) rfl rfl rfl flight removal).trans (if_neg fun h => h.2 nothing)
    rw [runs]
    exact afterAttempts_goesOn (ce := ce.visits) asc

theorem visitAlone_begun (alone : ce.stationList = []) : VisitBegun ce ce.visitAlone false where
  owed waits := visitAlone_owed waits
  attempts flight removal pending := visitAlone_pending flight removal pending
  goesOn flight removal nothing :=
    { uncalled := fun _ _ successor => absurd alone successor.nonempty
      notDue := fun _ _ successor => absurd alone successor.nonempty
      gapless := fun _ _ _ _ successor => absurd alone successor.nonempty
      called := fun g some due target => by
        rw [visitAlone_called flight removal nothing (joinStep_called (ce := ce.visits) some due target)]
        exact callStation_eq _ g
      alone := fun zero _ _ _ _ => by
        have none : ce.visits.pendingCount = 0 := nothing
        rw [visitAlone_uncalled flight removal nothing (joinStep_zero (ce := ce.visits) zero), if_pos none]
        rfl }

/-- The visit of a channel alone on its segment stands in HOLDING with a telegram count of 0. -/
theorem visitAlone_holds (ce : ChannelEngine) : ce.visitAlone.state = .holding ∧ ce.visitAlone.pass = none ∧
    ce.visitAlone.replyWindow = ce.replyWindow ∧ ∃ x, ce.visitAlone.visit = some x ∧ x.count = 0 := by
  by_cases owed : ce.inFlight ≠ none ∨ .removal ∈ ce.requests
  · rw [visitAlone_owed owed]
    exact ⟨rfl, rfl, rfl, _, rfl, rfl⟩
  · obtain ⟨flight, removal⟩ := not_or.mp owed
    have flight : ce.inFlight = none := not_not.mp flight
    by_cases nothing : ce.pendingCount = 0
    · have same := ce.visits.joinStep_eq
      rcases step : ce.visits.joinStep with ⟨v, _ | g⟩
      all_goals
        rw [step] at same
        have state : v.state = .holding := (congrArg ChannelEngine.state same :)
        have pass : v.pass = none := (congrArg ChannelEngine.pass same :)
        have window : v.replyWindow = ce.replyWindow := (congrArg ChannelEngine.replyWindow same :)
        have visit : v.visit = some { count := 0, step := .attempts } := (congrArg ChannelEngine.visit same :)
      · rw [visitAlone_uncalled flight removal nothing step]
        exact ⟨state, pass, window, _, visit, rfl⟩
      · rw [visitAlone_called flight removal nothing step]
        exact ⟨state, pass, window, { count := 0, step := .joinCall }, congrArg (Option.map _) visit, rfl⟩
    · rw [visitAlone_pending flight removal nothing]
      exact ⟨rfl, rfl, rfl, _, rfl, rfl⟩

theorem passOn_passesOn (asc : ce.stationList.Pairwise (fun a b => a < b)) : PassesOn ce ce.passOn false where
  token _ successor := passOn_eq asc successor
  visit alone := by
    rw [passOn_alone alone]
    obtain ⟨state, pass, window, visit⟩ := ce.visitAlone_holds
    exact ⟨state, pass, window, visit, fun _ => visitAlone_begun alone⟩

theorem tryFailed_first {p : Pass} (pass : ce.pass = some p) (first : p.second = false) :
    ce.tryFailed = ce.sendToken { p with second := true } := by
  simp [tryFailed, pass, first]

theorem tryFailed_second {p : Pass} (pass : ce.pass = some p) (second : p.second = true) :
    ce.tryFailed = ({ ce with stationList := ce.stationList.filter (fun x => x ≠ p.station.toNat), pass := none
      }.setEvent .stationLost).countFailedPass.passOn := by
  simp [tryFailed, pass, second]

theorem sendToken_eq {p : Pass} (passing : ce.state = .passing) (visit : ce.visit = none)
    (timer : ce.silenceTimer = none) : ce.sendToken p = ce.passesTo p.station p.second false := by
  have same : { ce with state := .passing, visit := none, silenceTimer := none } = ce := by
    rw [← passing, ← visit, ← timer]
  have step : ({ ce with state := .passing, visit := none, silenceTimer := none } : ChannelEngine).sendToken p =
      ce.passesTo p.station p.second false := by
    rw [passesTo, readied_later]
    rfl
  rwa [same] at step

theorem tryFailed_fails {p : Pass} (pass : ce.pass = some p) (asc : ce.stationList.Pairwise (fun a b => a < b))
    (passing : ce.state = .passing) (visit : ce.visit = none) (timer : ce.silenceTimer = none) :
    TryFails ce ce.tryFailed p false where
  first first := (tryFailed_first pass first).trans (sendToken_eq passing visit timer)
  second second := by
    refine ⟨({ ce with stationList := ce.stationList.filter (fun x => x ≠ p.station.toNat)
      }.setEvent .stationLost).countFailedPass, ⟨rfl, satInc_toNat _, rfl⟩, ?_⟩
    rw [tryFailed_second pass second]
    exact passOn_passesOn (asc.filter _)

/-! ### Telegrams begun where the line allows -/

theorem begin_keeps (ce : ChannelEngine) : ce.begin.state = ce.state ∧ ce.begin.pass = ce.pass ∧
    ce.begin.replyWindow = ce.replyWindow ∧ ce.begin.visit = ce.visit := by
  obtain e | ⟨_, _, _, _, e⟩ := ce.begin_cases <;> rw [e] <;> exact ⟨rfl, rfl, rfl, rfl⟩

end ChannelEngine

section Begun

variable {v u : ChannelEngine} {p : Pass}

theorem VisitGoesOn.begin (h : VisitGoesOn v u false) : VisitGoesOn v u.begin where
  uncalled t zero successor := by rw [h.uncalled t zero successor, ChannelEngine.passesTo_begin]
  notDue t early successor := by rw [h.notDue t early successor, ChannelEngine.passesTo_begin]
  gapless t some due full successor := by rw [h.gapless t some due full successor, ChannelEngine.passesTo_begin]
  called g some due target := by rw [h.called g some due target, ChannelEngine.readied_begin]
  alone zero alone flight removal waits := by
    rw [h.alone zero alone flight removal waits]
    exact ChannelEngine.begin_of_quiet waits

theorem VisitBegun.begin (h : VisitBegun v u false) (waits : v.waiting = none) : VisitBegun v u.begin where
  owed owed := by
    rw [h.owed owed]
    exact ChannelEngine.begin_of_quiet waits
  attempts flight removal pending := by
    rw [h.attempts flight removal pending]
    exact ChannelEngine.begin_of_quiet waits
  goesOn flight removal nothing := (h.goesOn flight removal nothing).begin

theorem PassesOn.begin (h : PassesOn v u false) : PassesOn v u.begin where
  token t successor := by rw [h.token t successor, ChannelEngine.passesTo_begin]
  visit alone := by
    obtain ⟨state, pass, window, ⟨x, visit, count⟩, begun⟩ := h.visit alone
    obtain ⟨sameState, samePass, sameWindow, sameVisit⟩ := u.begin_keeps
    exact ⟨sameState.trans state, samePass.trans pass, sameWindow.trans window, ⟨x, sameVisit.trans visit, count⟩,
      fun waits => (begun waits).begin waits⟩

theorem TryFails.begin (h : TryFails v u p false) : TryFails v u.begin p where
  first first := by rw [h.first first, ChannelEngine.passesTo_begin]
  second second := by
    obtain ⟨x, lost, passes⟩ := h.second second
    exact ⟨x, lost, passes.begin⟩

end Begun

/-! ### A channel that holds or passes the token runs no silence timer -/

/-- The token is held or passed, and no silence timer runs. -/
def ChannelEngine.Active (ce : ChannelEngine) : Prop :=
  ce.silenceTimer = none ∧ (ce.state = .holding ∨ ce.state = .passing)

namespace ChannelEngine

variable {ce : ChannelEngine}

theorem Ok.active (h : ce.Ok) (holds : ce.state = .holding ∨ ce.state = .passing) : ce.Active := by
  refine ⟨?_, holds⟩
  by_contra running
  obtain ⟨state, _⟩ := h.silence (Option.isSome_iff_ne_none.mpr running)
  obtain a | a := holds <;> rw [a] at state <;> exact state.elim nofun nofun

theorem Active.restartSilence (h : ce.Active) : ce.restartSilence = ce := by
  obtain ⟨timer, holds⟩ := h
  refine restartSilence_of_stopped timer ?_ ?_
  all_goals obtain a | a := holds <;> rw [a] <;> exact nofun

theorem Active.settle (h : ce.Active) : ce.settle = ce.begin := congrArg ChannelEngine.begin h.restartSilence

theorem active_enterHolding : ce.enterHolding.Active := ⟨rfl, .inl rfl⟩

theorem Active.requestAttempt (h : ce.Active) : ce.requestAttempt.Active := by
  rw [requestAttempt_eq]
  exact h

theorem Active.joinStep (h : ce.Active) : ce.joinStep.1.Active := by
  unfold Active
  rw [joinStep_silenceTimer, joinStep_state]
  exact h

theorem active_visitAlone : ce.visitAlone.Active := ⟨visitAlone_silenceTimer, .inl ce.visitAlone_holds.1⟩

theorem active_passOn : ce.passOn.Active := by
  unfold passOn
  split
  · exact ⟨rfl, .inr rfl⟩
  · exact active_visitAlone

theorem Active.afterAttempts (h : ce.Active) : ce.afterAttempts.Active := by
  rcases step : ce.joinStep with ⟨v, _ | g⟩
  · rw [afterAttempts_none step]
    exact active_passOn
  · have same := h.joinStep
    rw [step] at same
    rw [afterAttempts_some step]
    exact same

theorem Active.runAttempts (h : ce.Active) : ce.runAttempts.Active := by
  unfold ChannelEngine.runAttempts
  split
  · split
    · exact h
    · split
      · exact h.requestAttempt
      · exact h.afterAttempts
  · exact h

theorem active_beginVisit : ce.beginVisit.Active := active_enterHolding.runAttempts

theorem Active.tryFailed (h : ce.Active) : ce.tryFailed.Active := by
  unfold ChannelEngine.tryFailed
  split
  · split
    · exact active_passOn
    · exact h
  · exact h

end ChannelEngine

end Sys2Proof.Machine
end

section
/-! PROOFS. Good telegrams on a channel (O37): which command brings one, what is reported of it, and that the token
logic then hears of it (R33, R34, R125 to R127, R142). -/

namespace Sys2Proof.Machine

set_option Elab.async false

/-! ### A command on one channel -/

theorem State.onlyChannel_updCh (s : State) (c : Channel) (f : ChannelEngine → ChannelEngine) :
    OnlyChannel c s (s.updCh c f) :=
  ⟨s.updCh_restore c f, .inl rfl⟩

theorem State.onlyChannel_onChannel (s : State) (c : Channel) (f : ChannelEngine → ChannelEngine) :
    OnlyChannel c s (s.onChannel c f) := by
  obtain ⟨turn, turns, same⟩ := s.presenting_eq (fun s => s.updCh c f)
  have same : s.onChannel c f = { s.updCh c f with turn := turn } := same
  rw [same]
  exact ⟨congrArg (fun u : State => { u with turn := turn }) (s.updCh_restore c f), turns⟩

theorem State.updCh_same {s : State} {c : Channel} {f : ChannelEngine → ChannelEngine} (same : f (s.ch c) = s.ch c) :
    s.updCh c f = s := by
  unfold State.updCh
  rw [same, State.ch, Quad.set_get]

theorem State.onChannel_same {s : State} {c : Channel} {f : ChannelEngine → ChannelEngine}
    (same : f (s.ch c) = s.ch c) : s.onChannel c f = s := by
  have put : s.updCh c f = s := State.updCh_same same
  refine (State.presenting_of_same fun q waits => ?_).trans put
  have waits : (s.updCh c f).waits q = true := waits
  rwa [put] at waits

/-- The command that brings a telegram has it judged on its channel. -/
theorem exec_of_brings {s : State} {i : Instr} {c : Channel} {t : Telegram} (brings : Brings s i c t) :
    exec i s = .next (s.onChannel c fun ce => ce.telegramEnds (judgeTelegram ce.own t)) := by
  cases t with
  | publish p => obtain rfl := brings; rfl
  | confirm q => obtain rfl := brings; rfl
  | token src tgt => obtain ⟨rfl, rfl⟩ | rfl := brings <;> rfl
  | joinCall src tgt => obtain ⟨rfl, rfl⟩ | rfl := brings <;> rfl
  | joinReply src tgt => obtain ⟨rfl, rfl⟩ | rfl := brings <;> rfl
  | _ q => obtain rfl := brings; rfl

/-! ### What is reported of a good telegram -/

namespace ChannelEngine

variable {ce v : ChannelEngine} {t : Telegram}

theorem countAndOffer_taken (room : ce.arrivalQueue.length < 4 ∨ arrivalOf t = none) : ce.countAndOffer t =
    ({ ce with arrivalQueue := ce.arrivalQueue ++ (arrivalOf t).toList } : ChannelEngine).countGood := by
  unfold countAndOffer
  cases offered : arrivalOf t with
  | none =>
    simp only [Option.toList_none, List.append_nil]
  | some a => exact if_pos (room.resolve_right (by rw [offered]; exact nofun))

theorem countAndOffer_full (full : 4 ≤ ce.arrivalQueue.length) (offers : arrivalOf t ≠ none) :
    ce.countAndOffer t = ce.countCheckFailure := by
  unfold countAndOffer
  cases offered : arrivalOf t with
  | none => exact absurd offered offers
  | some a => exact if_neg (Nat.not_lt.mpr full)

/-- The station list once a source has been heard. -/
def stationsWith (ce : ChannelEngine) (source : Byte) : List Nat :=
  if source.toNat ∈ ce.stationList then ce.stationList else insertStation source.toNat ce.stationList

theorem learn_eq (ce : ChannelEngine) (source : Byte) : ce.learn source = { ce with
    stationList := ce.stationsWith source
    event := ce.event ||| (if source.toNat ∈ ce.stationList then 0 else 0x004) } := by
  unfold learn stationsWith
  by_cases listed : source.toNat ∈ ce.stationList
  · rw [if_pos (List.contains_iff_mem.mpr listed), if_pos listed, if_pos listed]
    exact congrArg (fun event => ({ ce with event := event } : ChannelEngine)) (BitVec.or_zero (x := ce.event)).symm
  · rw [if_neg (fun h => listed (List.contains_iff_mem.mp h)), if_neg listed, if_neg listed]
    rfl

theorem stationsWith_spec (asc : ce.stationList.Pairwise (fun a b => a < b)) (source : Byte) :
    (ce.stationsWith source).Pairwise (fun a b => a < b) ∧
      ∀ n, n ∈ ce.stationsWith source ↔ n ∈ ce.stationList ∨ n = source.toNat := by
  unfold stationsWith
  split
  case isTrue listed =>
    refine ⟨asc, fun n => ⟨.inl, ?_⟩⟩
    rintro (mem | rfl)
    · exact mem
    · exact listed
  case isFalse => exact ⟨insertStation_ascending asc, fun n => mem_insertStation.trans or_comm⟩

/-- A good telegram counted, offered and learnt, the line idle. -/
def told (ce : ChannelEngine) (t : Telegram) : ChannelEngine :=
  (({ ce with rx := .idle } : ChannelEngine).countAndOffer t).learn (telegramSource t)

theorem reported_told (asc : ce.stationList.Pairwise (fun a b => a < b)) (t : Telegram) :
    Reported ce (ce.told t) t := by
  have stations := stationsWith_spec asc (telegramSource t)
  unfold told
  by_cases room : ce.arrivalQueue.length < 4 ∨ arrivalOf t = none
  · rw [countAndOffer_taken (ce := { ce with rx := .idle }) room, learn_eq]
    exact ⟨rfl, stations, rfl, fun _ => ⟨rfl, satInc_toNat _, rfl, rfl⟩, fun full offers =>
      (room.elim (Nat.not_lt.mpr full) offers).elim⟩
  · obtain ⟨full, offers⟩ := not_or.mp room
    rw [countAndOffer_full (ce := { ce with rx := .idle }) (Nat.not_lt.mp full) offers, learn_eq]
    exact ⟨rfl, stations, rfl, fun h => absurd h room, fun _ _ => ⟨rfl, rfl, satInc_toNat _, rfl⟩⟩

theorem Sound.told (h : ce.Sound) {t : Telegram} (good : GoodFor ce t) : (ce.told t).Sound := by
  have idle : ({ ce with rx := .idle } : ChannelEngine).Sound := { h with line := nofun }
  have offered := idle.countAndOffer good
  obtain ⟨_, low, high, other⟩ := good
  refine offered.learn low high ?_
  rwa [countAndOffer_own]

end ChannelEngine

/-! ### What a report leaves as it was -/

namespace Reported

variable {ce v : ChannelEngine} {t : Telegram}

theorem state (h : Reported ce v t) : v.state = ce.state := (congrArg ChannelEngine.state h.rest :)
theorem own (h : Reported ce v t) : v.own = ce.own := (congrArg ChannelEngine.own h.rest :)
theorem waiting (h : Reported ce v t) : v.waiting = ce.waiting := (congrArg ChannelEngine.waiting h.rest :)
theorem inFlight (h : Reported ce v t) : v.inFlight = ce.inFlight := (congrArg ChannelEngine.inFlight h.rest :)
theorem requests (h : Reported ce v t) : v.requests = ce.requests := (congrArg ChannelEngine.requests h.rest :)
theorem replyWindow (h : Reported ce v t) : v.replyWindow = ce.replyWindow :=
  (congrArg ChannelEngine.replyWindow h.rest :)
theorem pass (h : Reported ce v t) : v.pass = ce.pass := (congrArg ChannelEngine.pass h.rest :)
theorem visit (h : Reported ce v t) : v.visit = ce.visit := (congrArg ChannelEngine.visit h.rest :)
theorem pendingCount (h : Reported ce v t) : v.pendingCount = ce.pendingCount :=
  (congrArg ChannelEngine.pendingCount h.rest :)
theorem visitBudget (h : Reported ce v t) : v.visitBudget = ce.visitBudget :=
  (congrArg ChannelEngine.visitBudget h.rest :)
theorem silenceTimer (h : Reported ce v t) : v.silenceTimer = ce.silenceTimer :=
  (congrArg ChannelEngine.silenceTimer h.rest :)
theorem claimedFrom (h : Reported ce v t) : v.claimedFrom = ce.claimedFrom :=
  (congrArg ChannelEngine.claimedFrom h.rest :)
theorem active (h : Reported ce v t) (active : ce.Active) : v.Active := by
  unfold ChannelEngine.Active
  rw [h.silenceTimer, h.state]
  exact active

/-- The source has joined the station list. -/
theorem listed (h : Reported ce v t) : v.stationList ≠ [] := by
  intro empty
  have mem := (h.stations.2 (telegramSource t).toNat).mpr (.inr rfl)
  rw [empty] at mem
  exact absurd mem List.not_mem_nil

end Reported

/-! ### Telegrams that end -/

namespace ChannelEngine

variable {ce : ChannelEngine} {t : Telegram} {w : Bool}

theorem judgeTelegram_good (good : GoodFor ce t) : judgeTelegram ce.own t = .good t := by
  obtain ⟨sized, low, high, other⟩ := good
  rw [judgeTelegram, if_neg (not_not.mpr sized), if_neg, if_neg other]
  rintro (zero | above)
  · omega
  · exact absurd above (Nat.not_lt.mpr high)

theorem hears_of_listens (h : ce.listens w) : ce.hears = true ∧ ce.rx ≠ .released ∧ ce.rx ≠ .intruding ∧
    ce.rx ≠ .off ∧ ce.beganInWindow = w := by
  obtain ⟨quiet, line | ⟨line, open_⟩⟩ := h
  · simp [hears, beganInWindow, quiet, line]
  · simp [hears, beganInWindow, quiet, line, open_]

theorem telegramEnds_of_listens (h : ce.listens w) (t : Telegram) :
    ce.telegramEnds (.good t) = ((ce.told t).tokenLogic w t).settle := by
  obtain ⟨hears, released, intruding, _, began⟩ := hears_of_listens h
  rw [telegramEnds, if_pos hears, hearing_of_begun released, ends, judged, decide_eq_false intruding, began]
  rfl

theorem telegramEnds_intruding (quiet : ce.sending = none) (line : ce.rx = .intruding) (t : Telegram) :
    ce.telegramEnds (.good t) = (ce.told t).settle := by
  have hears : ce.hears = true := by simp [hears, quiet, line]
  rw [telegramEnds, if_pos hears, hearing_of_begun (by rw [line]; exact nofun), ends_intruding line]
  rfl

theorem hears_of_deaf (h : ce.deaf) : ce.hears = false := by
  obtain sends | line | line | line := h
  · simp [hears, sends]
  all_goals simp [hears, line]

theorem telegramEnds_of_deaf (h : ce.deaf) (v : Verdict) : ce.telegramEnds v = ce :=
  if_neg (by rw [hears_of_deaf h]; exact nofun)

theorem Ok.live_of_line (h : ce.Ok) (line : ce.rx ≠ .off) : ce.state ≠ .offline := fun off => line (h.footing.mpr off)

/-- No telegram of the token logic waits where the token is neither held nor passed. -/
theorem Ok.quiet_of_state (h : ce.Ok) (holding : ce.state ≠ .holding) (passing : ce.state ≠ .passing) :
    ce.waiting = none := by
  by_contra some
  exact (h.waits (Option.isSome_iff_ne_none.mpr some)).elim holding passing

end ChannelEngine

/-- A good telegram is reported, and the token logic hears of it. -/
theorem State.hears_good {s : State} {c : Channel} {i : Instr} {t : Telegram} {w : Bool} (brings : Brings s i c t)
    (ok : (s.ch c).Ok) (listens : (s.ch c).listens w) (good : GoodFor (s.ch c) t) :
    ∃ (u : State) (v : ChannelEngine), exec i s = .next u ∧ OnlyChannel c s u ∧ Reported (s.ch c) v t ∧ v.Sound ∧
      u.ch c = (v.tokenLogic w t).settle := by
  obtain ⟨_, _, _, line, _⟩ := ChannelEngine.hears_of_listens listens
  refine ⟨_, _, exec_of_brings brings, s.onlyChannel_onChannel c _, ChannelEngine.reported_told ok.ascending t,
    (ok.sound (ok.live_of_line line)).told good, ?_⟩
  rw [State.onChannel_ch_self, ChannelEngine.judgeTelegram_good good, ChannelEngine.telegramEnds_of_listens listens]

namespace ChannelEngine

variable {ce : ChannelEngine} {t : Telegram}

theorem receivingTelegram_other (h : ¬ OwnCall ce t) : ce.receivingTelegram t = ce := by
  cases t with
  | token src tgt => exact if_neg fun own => h (.inl ⟨src, by rw [own]⟩)
  | joinCall src tgt => exact if_neg fun own => h (.inr ⟨src, by rw [own]⟩)
  | publish p => rfl
  | confirm q => rfl
  | joinReply src tgt => rfl
  | _ q => rfl

theorem listeningTelegram_other (h : ¬ OwnCall ce t) : ce.listeningTelegram t = ce := by
  cases t with
  | token src tgt => exact if_neg fun own => h (.inl ⟨src, by rw [own]⟩)
  | joinCall src tgt => exact if_neg fun own => h (.inr ⟨src, by rw [own]⟩)
  | publish p => rfl
  | confirm q => rfl
  | joinReply src tgt => rfl
  | _ q => rfl

/-- The token logic outside the ring makes nothing of a telegram that is no call to the own station. -/
theorem tokenLogic_indifferent (w : Bool) (h : ce.state = .silent ∨
    ((ce.state = .listening ∨ ce.state = .receiving) ∧ ¬ OwnCall ce t)) : ce.tokenLogic w t = ce := by
  unfold tokenLogic
  obtain state | ⟨state | state, other⟩ := h <;> rw [state]
  · exact listeningTelegram_other other
  · exact receivingTelegram_other other

end ChannelEngine

theorem Reported.ownCall_iff {ce v : ChannelEngine} {t : Telegram} (h : Reported ce v t) :
    OwnCall v t ↔ OwnCall ce t := by
  unfold OwnCall
  rw [h.own]

/-- Settles O37: the report is `ChannelEngine.told`, and the token logic makes nothing of the telegram. -/
theorem goodTelegramsAreReportedAndOffered : Obligations.GoodTelegramsAreReportedAndOffered := by
  refine ⟨fun s c i t w brings ok listens good state => ?_, fun s c i t brings ok quiet line good state => ?_,
    fun s c i t brings deaf => ?_⟩
  · obtain ⟨u, v, runs, only, reported, -, ends⟩ := State.hears_good brings ok listens good
    refine ⟨u, v, runs, only, reported, ?_⟩
    have waits : v.waiting = none := by
      refine reported.waiting.trans (ok.quiet_of_state ?_ ?_) <;>
        obtain a | ⟨a | a, _⟩ := state <;> rw [a] <;> exact nofun
    have indifferent : v.tokenLogic w t = v := by
      apply ChannelEngine.tokenLogic_indifferent
      rwa [reported.state, reported.ownCall_iff]
    rw [ends, indifferent, ChannelEngine.settle_eq, ChannelEngine.settled_of_quiet waits]
  · have reported := ChannelEngine.reported_told ok.ascending t
    refine ⟨_, _, exec_of_brings brings, s.onlyChannel_onChannel c _, reported, ?_⟩
    have waits : ((s.ch c).told t).waiting = none := by
      refine reported.waiting.trans (ok.quiet_of_state ?_ ?_) <;>
        obtain a | a | a := state <;> rw [a] <;> exact nofun
    rw [State.onChannel_ch_self, ChannelEngine.judgeTelegram_good good, ChannelEngine.telegramEnds_intruding quiet line,
      ChannelEngine.settle_eq, ChannelEngine.settled_of_quiet waits]
  · rw [exec_of_brings brings]
    exact congrArg Host.Outcome.next (State.onChannel_same (ChannelEngine.telegramEnds_of_deaf deaf _))

end Sys2Proof.Machine
end

section
/-! PROOFS. Reply windows, visits and join calls (O38, O39, O41): a telegram that answers the open window, one to the
own station that does not, the expiry of the window, and the TOKEN and JOIN_CALL that a channel outside the token takes
(R129, R130, R145 to R151). -/

namespace Sys2Proof.Machine

set_option Elab.async false

namespace ChannelEngine

variable {ce : ChannelEngine} {t : Telegram} {w : Bool}

/-! ### Answers and replies -/

theorem answers_iff : ce.answers t = true ↔ Answers ce t := by
  unfold answers Answers
  cases window : ce.replyWindow with
  | none => simp
  | some x =>
    simp only [Option.some.injEq, exists_eq_left']
    obtain ⟨⟨src, topic, sequence⟩ | src, length, ranOut⟩ := x
    · cases t with
      | confirm q => obtain ⟨source, target, qTopic, qSequence⟩ := q; simp [and_assoc]
      | publish p => simp
      | token src tgt => simp
      | joinCall src tgt => simp
      | joinReply src tgt => simp
      | _ q => simp
    · cases t <;> simp

theorem ownReply_iff : ce.ownReply t = true ↔ OwnReply ce t := by
  unfold ownReply OwnReply
  cases t <;> simp

theorem endAttempt_open {f : InFlight} (flight : ce.inFlight = some f) (running : f.phase ≠ .ended)
    (o : AttemptOutcome) : ce.endAttempt o =
      { ce with inFlight := some { f with phase := .ended }, requests := ce.requests ++ [.outcome o] } := by
  rw [endAttempt, flight]
  exact if_neg running

/-! ### A window that closes -/

section Windows

variable {x : ReplyWindow} (window : ce.replyWindow = some x)
include window

theorem answered_confirm (expects : ∃ source topic sequence, x.expect = .confirm source topic sequence) :
    ce.answered = ({ ce with replyWindow := none } : ChannelEngine).endAttempt .confirmed := by
  obtain ⟨source, topic, sequence, expect⟩ := expects
  simp only [answered, window, expect]

theorem answered_joinReply {source : Byte} (expect : x.expect = .joinReply source) :
    ce.answered = ({ ce with replyWindow := none } : ChannelEngine).passOn := by
  simp only [answered, window, expect]

theorem unanswered_confirm (expects : ∃ source topic sequence, x.expect = .confirm source topic sequence) :
    ce.unanswered = ({ ce with replyWindow := none } : ChannelEngine).endAttempt .noConfirm := by
  obtain ⟨source, topic, sequence, expect⟩ := expects
  simp only [unanswered, window, expect]

theorem unanswered_joinReply {source : Byte} (expect : x.expect = .joinReply source) :
    ce.unanswered = ({ ce with replyWindow := none } : ChannelEngine).passOn := by
  simp only [unanswered, window, expect]

theorem closeIfRanOut_reply : ce.closeIfRanOut true = if x.ranOut then ce.unanswered else ce := by
  simp only [closeIfRanOut, window, if_true]

theorem replyWindowExpiry_open : ce.replyWindowExpiry =
    if ce.rx = .receiving true then { ce with replyWindow := some { x with ranOut := true } } else ce.unanswered := by
  simp only [replyWindowExpiry, window, telegramHolds, decide_eq_true_eq]

end Windows

theorem closeIfRanOut_outside : ce.closeIfRanOut false = ce := rfl

theorem closeIfRanOut_closed (window : ce.replyWindow = none) (pass : ∀ p, ce.pass = some p → p.window = none) :
    ce.closeIfRanOut w = ce := by
  unfold closeIfRanOut
  split
  · rw [window]
    cases passing : ce.pass with
    | none => rfl
    | some p => simp only [pass p passing]
  · rfl

theorem tokenLogic_holding (holding : ce.state = .holding) : ce.tokenLogic w t = ce.holdingTelegram w t := by
  rw [tokenLogic, holding]

theorem holdingTelegram_answer (answer : Answers ce t) : ce.holdingTelegram true t = ce.answered :=
  if_pos (Bool.and_eq_true_iff.mpr ⟨rfl, answers_iff.mpr answer⟩)

theorem holdingTelegram_reply (noAnswer : ¬ (w = true ∧ Answers ce t)) (reply : OwnReply ce t) :
    ce.holdingTelegram w t = (ce.closeIfRanOut w).wake := by
  rw [holdingTelegram, if_neg, if_pos (ownReply_iff.mpr reply)]
  intro h
  obtain ⟨inside, answers⟩ := Bool.and_eq_true_iff.mp h
  exact noAnswer ⟨inside, answers_iff.mp answers⟩

theorem holdingTelegram_conflict (noAnswer : ¬ (w = true ∧ Answers ce t)) (noReply : ¬ OwnReply ce t) :
    ce.holdingTelegram w t = ce.conflict := by
  rw [holdingTelegram, if_neg, if_neg (fun h => noReply (ownReply_iff.mp h))]
  intro h
  obtain ⟨inside, answers⟩ := Bool.and_eq_true_iff.mp h
  exact noAnswer ⟨inside, answers_iff.mp answers⟩

/-! ### Visits that are not unused -/

/-- A visit is used where it stands at its join call, or an attempt, a removal or an attempt start is before it. -/
theorem visitUnused_eq_false {v : Visit} (visit : ce.visit = some v) (used : ce.inFlight ≠ none ∨
    .removal ∈ ce.requests ∨ .attemptStart ∈ ce.requests ∨ v.step ≠ .attempts) : ce.visitUnused = false := by
  unfold visitUnused
  split
  case h_2 => rfl
  case h_1 x _ found =>
    obtain rfl := Option.some.inj (visit.symm.trans found)
    obtain flight | removal | asked | step := used
    · simp [Option.isNone_eq_false_iff.mpr (Option.isSome_iff_ne_none.mpr flight)]
    · simp [removalWaits_iff.mpr removal]
    · simp [asked]
    · simp [step]

theorem visitUnused_free {v : Visit} (holding : ce.state = .holding) (visit : ce.visit = some v)
    (step : v.step = .attempts) (flight : ce.inFlight = none) (requests : ce.requests = []) :
      ce.visitUnused = true := by
  simp [visitUnused, holding, visit, step, flight, requests, removalWaits]

theorem Active.settle_quiet (h : ce.Active) (waits : ce.waiting = none) : ce.settle = ce :=
  h.settle.trans (begin_of_quiet waits)

theorem begin_begin (ce : ChannelEngine) : ce.begin.begin = ce.begin := by
  obtain e | ⟨_, _, _, _, e⟩ := ce.begin_cases
  · rw [e, e]
  · rw [e]
    exact begin_of_quiet rfl

theorem Active.begin (h : ce.Active) : ce.begin.Active := by
  obtain e | ⟨_, _, _, _, e⟩ := ce.begin_cases <;> rw [e]
  · exact h
  · exact ⟨rfl, h.2⟩

/-- The visit of a channel alone on its segment has nothing to wake for. -/
theorem wake_visitAlone (alone : ce.stationList = []) : ce.visitAlone.wake = ce.visitAlone := by
  by_cases owed : ce.inFlight ≠ none ∨ .removal ∈ ce.requests
  · rw [visitAlone_owed owed]
    exact wake_of_used (visitUnused_eq_false (ce := ce.visits) rfl (owed.imp id .inl))
  · obtain ⟨flight, removal⟩ := not_or.mp owed
    have flight : ce.inFlight = none := not_not.mp flight
    by_cases nothing : ce.pendingCount = 0
    · have same := ce.visits.joinStep_eq
      rcases step : ce.visits.joinStep with ⟨v, _ | g⟩
      all_goals
        rw [step] at same
        have count : v.pendingCount = 0 := (congrArg ChannelEngine.pendingCount same :).trans nothing
        have list : v.stationList = [] := (congrArg ChannelEngine.stationList same :).trans alone
      · rw [visitAlone_uncalled flight removal nothing step]
        exact wake_of_none count list
      · rw [visitAlone_called flight removal nothing step]
        exact wake_of_none (ce := v.callStation g) count list
    · rw [visitAlone_pending flight removal nothing]
      refine wake_of_used (visitUnused_eq_false rfl (.inr (.inr (.inl ?_))))
      show SendRequest.attemptStart ∈ ce.attemptRequested
      unfold attemptRequested
      split
      · assumption
      · simp

theorem wake_passOn : ce.passOn.wake = ce.passOn := by
  cases found : successorOf ce.own.toNat ce.stationList with
  | none =>
    rw [passOn_alone (successorOf_eq_none.mp found)]
    exact wake_visitAlone (successorOf_eq_none.mp found)
  | some t =>
    have passes : ce.passOn = ce.startPass t := by rw [passOn, found]
    rw [passes]
    exact wake_of_other nofun

end ChannelEngine

theorem Reported.answers_iff {ce v : ChannelEngine} {t : Telegram} (h : Reported ce v t) :
    Answers v t ↔ Answers ce t := by
  unfold Answers
  rw [h.own, h.replyWindow]

theorem Reported.ownReply_iff {ce v : ChannelEngine} {t : Telegram} (h : Reported ce v t) :
    OwnReply v t ↔ OwnReply ce t := by
  unfold OwnReply
  rw [h.own]

/-! ### The obligations -/

/-- Settles O38: `ChannelEngine.answered` and `ChannelEngine.unanswered` of a window that expects a CONFIRM. -/
theorem confirmsAnswerReplyWindows : Obligations.ConfirmsAnswerReplyWindows := by
  refine ⟨fun s c f w i t brings ok holding listens good waits flight phase window expects => ?_,
    fun s c f w waits flight phase window expects => ?_, fun s c window => ?_⟩
  · obtain ⟨u, v, runs, only, reported, -, ends⟩ := State.hears_good brings ok listens good
    have active := reported.active (ok.active (.inl holding))
    have quiet := reported.waiting.trans waits
    have open_ := reported.replyWindow.trans window
    have closes (o : AttemptOutcome) : ({ v with replyWindow := none } : ChannelEngine).endAttempt o = { v with
        replyWindow := none, inFlight := some { f with phase := .ended }, requests := v.requests ++ [.outcome o] } :=
      ChannelEngine.endAttempt_open (ce := { v with replyWindow := none }) (reported.inFlight.trans flight)
        (by rw [phase]; exact nofun) o
    refine ⟨u, v, runs, only, reported, fun answer => ?_, fun noAnswer reply => ?_⟩
    · rw [ends, ChannelEngine.tokenLogic_holding (reported.state.trans holding),
        ChannelEngine.holdingTelegram_answer (reported.answers_iff.mpr answer),
        ChannelEngine.answered_confirm open_ expects, closes]
      exact ChannelEngine.Active.settle_quiet active quiet
    · have logic : v.tokenLogic true t = (v.closeIfRanOut true).wake := by
        rw [ChannelEngine.tokenLogic_holding (reported.state.trans holding), ChannelEngine.holdingTelegram_reply
          (fun h => noAnswer (reported.answers_iff.mp h.2)) (reported.ownReply_iff.mpr reply)]
      rw [ends, logic, ChannelEngine.closeIfRanOut_reply open_]
      have visit : ∃ x, v.visit = some x := by
        rw [reported.visit]
        exact Option.isSome_iff_exists.mp (ok.visits.mpr holding)
      obtain ⟨x, visit⟩ := visit
      have awake (y : ChannelEngine) (visit : y.visit = some x) (flight : y.inFlight ≠ none) : y.wake = y :=
        ChannelEngine.wake_of_used (ChannelEngine.visitUnused_eq_false visit (.inl flight))
      by_cases ranOut : w.ranOut = true
      · rw [if_pos ranOut, if_pos ranOut, ChannelEngine.unanswered_confirm open_ expects, closes]
        refine (congrArg ChannelEngine.settle (awake _ ?_ ?_)).trans ?_
        · exact visit
        · exact Option.some_ne_none _
        · exact ChannelEngine.Active.settle_quiet active quiet
      · rw [if_neg ranOut, if_neg ranOut, awake v visit (by rw [reported.inFlight, flight]; exact nofun)]
        exact active.settle_quiet quiet
  · refine ⟨_, rfl, s.onlyChannel_onChannel c _, ?_⟩
    rw [State.onChannel_ch_self, ChannelEngine.replyWindowExpiry_open window,
      ChannelEngine.unanswered_confirm window expects, ChannelEngine.endAttempt_open
        (ce := { s.ch c with replyWindow := none }) flight (by rw [phase]; exact nofun)]
  · refine congrArg Host.Outcome.next (State.onChannel_same ?_)
    simp only [ChannelEngine.replyWindowExpiry, window]

/-- Settles O39, by `ChannelEngine.beginVisit_begun`. -/
theorem tokenBeginsAVisit : Obligations.TokenBeginsAVisit := by
  intro s c i source w brings ok state listens good
  obtain ⟨u, v, runs, only, reported, sound, ends⟩ := State.hears_good brings ok listens good
  refine ⟨u, v, runs, only, reported, ?_⟩
  have waits : v.waiting = none := by
    refine reported.waiting.trans (ok.quiet_of_state ?_ ?_) <;> obtain a | a := state <;> rw [a] <;> exact nofun
  have logic : v.tokenLogic w (.token source (s.ch c).own) = v.beginVisit := by
    rw [← reported.own, ChannelEngine.tokenLogic, reported.state]
    obtain a | a := state <;> rw [a] <;> exact if_pos rfl
  obtain ⟨_, _, _, _, budget, _⟩ := v.configValid_iff.mp sound.valid
  rw [ends, logic, ChannelEngine.active_beginVisit.settle]
  exact (ChannelEngine.beginVisit_begun sound.ascending budget).begin waits

namespace ChannelEngine

variable {ce : ChannelEngine}

theorem queueReply_eq (ce : ChannelEngine) (t : Telegram) : ce.queueReply t = { ce with
    replyQueue := if ce.replyQueue.length < 4 then ce.replyQueue ++ [t] else ce.replyQueue } := by
  unfold queueReply
  by_cases room : ce.replyQueue.length < 4
  · rw [if_pos room]
    exact if_pos room
  · rw [if_neg room]
    exact if_neg room

end ChannelEngine

/-- Settles O41: the JOIN_REPLY queued, and `ChannelEngine.passOn` where the window of a call closes. -/
theorem joinCallsAndReplies : Obligations.JoinCallsAndReplies := by
  refine ⟨fun s c i source w brings ok state listens good => ?_,
    fun s c i source w t brings ok holding listens good window expect => ?_,
    fun s c source w ok holding window expect => ?_,
    fun s c i t source w x inWindow brings ok holding listens good reply noAnswer window expect waits visit step => ?_,
    fun s c i t x inWindow brings ok holding listens good reply window waits flight requests visit step => ?_⟩
  · obtain ⟨u, v, runs, only, reported, -, ends⟩ := State.hears_good brings ok listens good
    refine ⟨u, v, runs, only, reported, ?_⟩
    have waits : v.waiting = none := by
      refine reported.waiting.trans (ok.quiet_of_state ?_ ?_) <;> obtain a | a := state <;> rw [a] <;> exact nofun
    have logic : v.tokenLogic w (.joinCall source (s.ch c).own) =
        { v.queueReply (.joinReply v.own source) with state := .receiving } := by
      rw [← reported.own]
      obtain a | a := state
      · rw [ChannelEngine.tokenLogic, reported.state, a]
        exact if_pos rfl
      · have same : v.state = .receiving := reported.state.trans a
        rw [ChannelEngine.tokenLogic, same]
        refine (if_pos rfl).trans ?_
        rw [← same, ← ChannelEngine.queueReply_state]
    rw [ends, logic, ChannelEngine.queueReply_eq, ChannelEngine.settle_eq]
    exact ChannelEngine.settled_of_quiet waits
  · obtain ⟨u, v, runs, only, reported, sound, ends⟩ := State.hears_good brings ok listens good
    refine ⟨u, v, runs, only, reported, fun successor => ?_⟩
    have answer : Answers v (.joinReply source (s.ch c).own) := by
      rw [reported.answers_iff]
      refine ⟨w, window, ?_⟩
      rw [expect]
    have logic : v.tokenLogic true (.joinReply source (s.ch c).own) =
        ({ v with replyWindow := none } : ChannelEngine).passOn := by
      rw [ChannelEngine.tokenLogic_holding (reported.state.trans holding), ChannelEngine.holdingTelegram_answer answer,
        ChannelEngine.answered_joinReply (reported.replyWindow.trans window) expect]
    rw [ends, logic, ChannelEngine.active_passOn.settle]
    exact (ChannelEngine.passOn_passesOn (ce := { v with replyWindow := none }) sound.ascending).begin.token t successor
  · refine ⟨_, rfl, s.onlyChannel_onChannel c _, fun holds => ?_, fun free => ?_⟩
    · rw [State.onChannel_ch_self, ChannelEngine.replyWindowExpiry_open window, if_pos holds]
    · rw [State.onChannel_ch_self, ChannelEngine.replyWindowExpiry_open window, if_neg free,
        ChannelEngine.unanswered_joinReply window expect]
      exact ChannelEngine.passOn_passesOn ok.ascending
  · obtain ⟨u, v, runs, only, reported, sound, ends⟩ := State.hears_good brings ok listens good
    have active := reported.active (ok.active (.inl holding))
    have quiet := reported.waiting.trans waits
    have open_ := reported.replyWindow.trans window
    have logic : v.tokenLogic inWindow t = (v.closeIfRanOut inWindow).wake := by
      rw [ChannelEngine.tokenLogic_holding (reported.state.trans holding), ChannelEngine.holdingTelegram_reply
        (fun h => noAnswer ⟨h.1, reported.answers_iff.mp h.2⟩) (reported.ownReply_iff.mpr reply)]
    have awake : v.wake = v := ChannelEngine.wake_of_used (ChannelEngine.visitUnused_eq_false
      (reported.visit.trans visit) (.inr (.inr (.inr (by rw [step]; exact nofun)))))
    refine ⟨u, v, runs, only, reported, fun kept => ?_, fun inside ranOut => ?_⟩
    · have stays : v.closeIfRanOut inWindow = v := by
        cases inWindow with
        | false => rfl
        | true =>
          rw [ChannelEngine.closeIfRanOut_reply open_, if_neg]
          rw [kept.resolve_left nofun]
          exact nofun
      rw [ends, logic, stays, awake, active.settle_quiet quiet]
    · subst inside
      rw [ends, logic, ChannelEngine.closeIfRanOut_reply open_, if_pos ranOut,
        ChannelEngine.unanswered_joinReply open_ expect, ChannelEngine.wake_passOn,
        ChannelEngine.active_passOn.settle]
      exact (ChannelEngine.passOn_passesOn (ce := { v with replyWindow := none }) sound.ascending).begin
  · obtain ⟨u, v, runs, only, reported, sound, ends⟩ := State.hears_good brings ok listens good
    have active := reported.active (ok.active (.inl holding))
    have quiet := reported.waiting.trans waits
    have pass : v.pass = none := by
      rw [reported.pass]
      by_contra some
      have passing := ok.passes.mp (Option.isSome_iff_ne_none.mpr some)
      rw [holding] at passing
      exact absurd passing nofun
    have logic : v.tokenLogic inWindow t = v.runAttempts.begin := by
      rw [ChannelEngine.tokenLogic_holding (reported.state.trans holding), ChannelEngine.holdingTelegram_reply ?_
        (reported.ownReply_iff.mpr reply), ChannelEngine.closeIfRanOut_closed (reported.replyWindow.trans window)
        (by rw [pass]; exact nofun), ChannelEngine.wake, if_pos]
      · rw [ChannelEngine.visitUnused_free (reported.state.trans holding) (reported.visit.trans visit) step
          (reported.inFlight.trans flight) (reported.requests.trans requests)]
        simp [reported.listed]
      · rintro ⟨_, x, found, _⟩
        rw [reported.replyWindow, window] at found
        exact absurd found nofun
    have runs_ := ChannelEngine.runAttempts_free (reported.state.trans holding) (reported.visit.trans visit) step
      (reported.inFlight.trans flight) (by rw [reported.requests, requests]; exact nofun)
    have asks : v.attemptRequested = [.attemptStart] := by
      rw [ChannelEngine.attemptRequested, reported.requests, requests]
      rfl
    have settles : u.ch c = v.runAttempts.begin := by
      rw [ends, logic, active.runAttempts.begin.settle, ChannelEngine.begin_begin]
    refine ⟨u, v, runs, only, reported, fun pending budget => ?_, fun spent => ?_⟩
    · rw [settles, runs_, if_pos, asks]
      · exact ChannelEngine.begin_of_quiet quiet
      · rw [reported.visitBudget, reported.pendingCount]
        exact ⟨budget, pending⟩
    · rw [settles, runs_, if_neg]
      · exact (ChannelEngine.afterAttempts_goesOn sound.ascending).begin
      · rw [reported.visitBudget, reported.pendingCount]
        rintro ⟨budget, pending⟩
        exact spent.elim pending (Nat.not_le.mpr budget)

end Sys2Proof.Machine
end

section
/-! PROOFS. Token conflicts, the end of a pass and of a claim, and the own station as a source (O42; R146, R151 to
R155).
-/

namespace Sys2Proof.Machine

set_option Elab.async false

namespace ChannelEngine

variable {ce : ChannelEngine} {t : Telegram} {w : Bool}

/-! ### What settles after a conflict, a claim or the entry into SILENT -/

theorem settled_timed (waits : ce.waiting = none) : ce.timed.settle = ce.timed := by
  rw [settle_eq]
  exact settled_of_quiet (ce := ce.timed) waits

theorem conflict_settle (ce : ChannelEngine) : ce.conflict.settle = ce.conflicted := by
  rw [conflict_eq]
  exact settled_timed rfl

theorem enterSilent_settle (ce : ChannelEngine) : ce.enterSilent.settle = ce.fellSilent := by
  rw [enterSilent_eq, settle]
  have still : ce.fellSilent.restartSilence = ce.fellSilent := restartSilence_of_stopped rfl nofun nofun
  rw [still]
  exact begin_of_quiet rfl

/-- The state a claim goes back to (R146). -/
def backFrom : ClaimFrom → ChState
  | .listening => .listening
  | .receiving => .receiving

theorem leaveClaim_eq (ce : ChannelEngine) :
    ce.leaveClaim = ({ ce with state := backFrom ce.claimedFrom } : ChannelEngine).timed :=
  restartSilence_eq _

theorem leaveClaim_settle (waits : ce.waiting = none) :
    ce.leaveClaim.settle = ({ ce with state := backFrom ce.claimedFrom } : ChannelEngine).timed := by
  rw [leaveClaim_eq]
  exact settled_timed waits

/-! ### Telegrams in PASSING (R151) -/

theorem tokenLogic_passing (passing : ce.state = .passing) : ce.tokenLogic w t = ce.passingTelegram w t := by
  rw [tokenLogic, passing]

theorem tokenLogic_claiming (claiming : ce.state = .claiming) : ce.tokenLogic w t = ce.leaveClaim := by
  rw [tokenLogic, claiming]

section Passing

variable {p : Pass} (pass : ce.pass = some p)
include pass

theorem fromPassedTo_iff : ce.fromPassedTo w t = true ↔
    w = true ∧ p.window.isSome = true ∧ telegramSource t = p.station := by
  simp [fromPassedTo, pass, and_assoc]

theorem passingTelegram_from (inside : w = true) (open_ : p.window.isSome = true)
    (source : telegramSource t = p.station) : ce.passingTelegram w t =
      ({ ce with state := .receiving, pass := none, waiting := none } : ChannelEngine).receivingTelegram t :=
  if_pos ((fromPassedTo_iff pass).mpr ⟨inside, open_, source⟩)

theorem passingTelegram_reply
    (elsewhere : ¬ (w = true ∧ p.window.isSome = true ∧ telegramSource t = p.station)) (reply : OwnReply ce t) :
    ce.passingTelegram w t = ce.closeIfRanOut w :=
  (if_neg fun h => elsewhere ((fromPassedTo_iff pass).mp h)).trans (if_pos (ownReply_iff.mpr reply))

theorem passingTelegram_conflict
    (elsewhere : ¬ (w = true ∧ p.window.isSome = true ∧ telegramSource t = p.station)) (noReply : ¬ OwnReply ce t) :
    ce.passingTelegram w t = ce.conflict :=
  (if_neg fun h => elsewhere ((fromPassedTo_iff pass).mp h)).trans (if_neg fun h => noReply (ownReply_iff.mp h))

theorem closeIfRanOut_kept (window : ce.replyWindow = none)
    (runs : ∀ x, w = true → p.window = some x → x.ranOut = false) : ce.closeIfRanOut w = ce := by
  unfold closeIfRanOut
  split
  case isFalse => rfl
  case isTrue inside =>
    simp only [window, pass]
    cases open_ : p.window with
    | none => rfl
    | some x => exact if_neg (by rw [runs x inside open_]; exact nofun)

theorem closeIfRanOut_passed (window : ce.replyWindow = none) {x : PassWindow} (open_ : p.window = some x)
    (ranOut : x.ranOut = true) : ce.closeIfRanOut true = ce.tryFailed := by
  simp only [closeIfRanOut, window, pass, open_, ranOut, if_true]

end Passing

/-- With neither a reply window nor a pass nothing closes. -/
theorem closeIfRanOut_passless (window : ce.replyWindow = none) (pass : ce.pass = none) : ce.closeIfRanOut w = ce :=
  closeIfRanOut_closed window (by rw [pass]; exact nofun)

/-! ### The own station as a source (R153) -/

theorem own_le (ce : ChannelEngine) : ce.own.toNat ≤ 31 := by
  have low : field ce.cfgA 0 5 < 32 := Nat.mod_lt _ (by decide)
  rw [own, BitVec.toNat_ofNat]
  omega

theorem judgeTelegram_own (sized : telegramSized t = true) (valid : ce.configValid = true)
    (source : telegramSource t = ce.own) : judgeTelegram ce.own t = .ownSource := by
  obtain ⟨low, _⟩ := ce.configValid_iff.mp valid
  rw [judgeTelegram, if_neg (not_not.mpr sized), if_neg, if_pos source]
  rw [source]
  rintro (zero | above)
  · omega
  · exact absurd above (Nat.not_lt.mpr ce.own_le)

theorem hears_of_delivers (h : ce.delivers w) : ce.hears = true ∧ ce.rx ≠ .released ∧ ce.rx ≠ .off ∧
    ce.beganInWindow = w := by
  obtain listens | ⟨rfl, quiet, line⟩ := h
  · obtain ⟨hears, released, _, off, began⟩ := hears_of_listens listens
    exact ⟨hears, released, off, began⟩
  · simp [hears, beganInWindow, quiet, line]

theorem telegramEnds_ownSource (h : ce.delivers w) : ce.telegramEnds .ownSource =
    ({ ce with rx := .idle } : ChannelEngine).countGood.duplicate.settle := by
  obtain ⟨hears, released, _, _⟩ := hears_of_delivers h
  rw [telegramEnds, if_pos hears, hearing_of_begun released]
  rfl

theorem duplicate_enters (live : ce.state ≠ .offline) (sounding : ce.state ≠ .silent) :
    ce.duplicate.settle = (ce.setEvent .duplicateStation).fellSilent := by
  have enters : ce.duplicate = (ce.setEvent .duplicateStation).enterSilent := by
    unfold duplicate
    split
    · exact absurd ‹_› live
    · exact absurd ‹_› sounding
    · rfl
  rw [enters, enterSilent_settle]

theorem startRecovery_settle (silent : ce.state = .silent) (quiet : ce.waiting = none)
    (timer : ce.silenceTimer = none) : ce.startRecovery.settle = ce.startRecovery := by
  have still : ce.startRecovery.restartSilence = ce.startRecovery := by
    refine restartSilence_of_stopped timer ?_ ?_
    · exact fun h => absurd (silent.symm.trans h) nofun
    · exact fun h => absurd (silent.symm.trans h) nofun
  rw [settle, still]
  exact begin_of_quiet quiet

theorem duplicate_silent (silent : ce.state = .silent) (quiet : ce.waiting = none) (timer : ce.silenceTimer = none) :
    ce.duplicate.settle = (ce.setEvent .duplicateStation).startRecovery := by
  have again : ce.duplicate = (ce.setEvent .duplicateStation).startRecovery := by rw [duplicate, silent]
  rw [again]
  exact startRecovery_settle (ce := ce.setEvent .duplicateStation) silent quiet timer

end ChannelEngine

/-! ### The obligation -/

/-- A good telegram in PASSING: a conflict, a reply that leaves or fails the try, or the end of the pass. -/
theorem Reported.passing {ce v : ChannelEngine} {t : Telegram} {w : Bool} (reported : Reported ce v t) (ok : ce.Ok)
    (sound : v.Sound) {p : Pass} (passing : ce.state = .passing) (pass : ce.pass = some p) {u : ChannelEngine}
    (ends : u = (v.tokenLogic w t).settle) :
    (¬ (w = true ∧ p.window.isSome = true ∧ telegramSource t = p.station) → ¬ OwnReply ce t → u = v.conflicted) ∧
    (¬ (w = true ∧ p.window.isSome = true ∧ telegramSource t = p.station) → OwnReply ce t → ce.replyWindow = none →
      ((∀ x, w = true → p.window = some x → x.ranOut = false) → u = v.settled) ∧
        ∀ x, w = true → p.window = some x → x.ranOut = true → TryFails v u p) ∧
    (w = true → p.window.isSome = true → telegramSource t = p.station → ¬ OwnCall ce t →
      u = ({ v with state := .receiving, pass := none, waiting := none } : ChannelEngine).timed) ∧
    (w = true → p.window.isSome = true → telegramSource t = p.station →
      ((∃ source, t = .token source ce.own) → VisitBegun { v with pass := none, waiting := none } u) ∧
      ((∃ source, t = .joinCall source ce.own) → u = ({ v with
        state := .receiving, pass := none, waiting := none
        replyQueue := if v.replyQueue.length < 4 then v.replyQueue ++ [.joinReply v.own p.station]
          else v.replyQueue } : ChannelEngine).timed)) := by
  have pass := reported.pass.trans pass
  have active := reported.active (ok.active (.inr passing))
  have passing := reported.state.trans passing
  rw [ChannelEngine.tokenLogic_passing passing] at ends
  refine ⟨fun elsewhere noReply => ?_, fun elsewhere reply window => ?_, fun inside open_ source noCall => ?_,
    fun inside open_ source => ?_⟩
  · rw [ends, ChannelEngine.passingTelegram_conflict pass elsewhere (fun h => noReply (reported.ownReply_iff.mp h)),
      ChannelEngine.conflict_settle]
  · rw [ChannelEngine.passingTelegram_reply pass elsewhere (reported.ownReply_iff.mpr reply)] at ends
    have window := reported.replyWindow.trans window
    refine ⟨fun runs => ?_, fun x inside open_ ranOut => ?_⟩
    · rw [ends, ChannelEngine.closeIfRanOut_kept pass window runs, ChannelEngine.settle_eq]
    · have visit : v.visit = none := by
        by_contra some
        have holding := sound.visits.mp (Option.isSome_iff_ne_none.mpr some)
        rw [passing] at holding
        exact absurd holding nofun
      rw [ends, inside, ChannelEngine.closeIfRanOut_passed pass window open_ ranOut, active.tryFailed.settle]
      exact (ChannelEngine.tryFailed_fails pass sound.ascending passing visit active.1).begin
  · rw [ends, ChannelEngine.passingTelegram_from pass inside open_ source, ChannelEngine.receivingTelegram_other
      (ce := { v with state := .receiving, pass := none, waiting := none })
      (fun h => noCall (reported.ownCall_iff.mp h)), ChannelEngine.settle_eq]
    exact ChannelEngine.settled_of_quiet rfl
  · rw [ChannelEngine.passingTelegram_from pass inside open_ source, ← reported.own] at *
    refine ⟨fun ⟨from_, token⟩ => ?_, fun ⟨from_, call⟩ => ?_⟩
    · have begins : ({ v with state := .receiving, pass := none, waiting := none } :
      ChannelEngine).receivingTelegram t =
          ({ v with pass := none, waiting := none } : ChannelEngine).beginVisit := by
        rw [token]
        exact if_pos rfl
      obtain ⟨_, _, _, _, budget, _⟩ := v.configValid_iff.mp sound.valid
      rw [ends, begins, ChannelEngine.active_beginVisit.settle]
      exact (ChannelEngine.beginVisit_begun (ce := { v with pass := none, waiting := none }) sound.ascending
        budget).begin rfl
    · have station : from_ = p.station := by rw [← source, call]; rfl
      have queues : ({ v with state := .receiving, pass := none, waiting := none } :
          ChannelEngine).receivingTelegram t =
          ({ v with state := .receiving, pass := none, waiting := none } : ChannelEngine).queueReply
            (.joinReply v.own p.station) := by
        rw [call, station]
        exact if_pos rfl
      rw [ends, queues, ChannelEngine.queueReply_eq, ChannelEngine.settle_eq]
      exact ChannelEngine.settled_of_quiet rfl

/-- Settles O42, by the state in which the telegram is heard. -/
theorem conflictsPassesAndClaims : Obligations.ConflictsPassesAndClaims := by
  refine ⟨fun s c i t w brings ok listens good => ?_, fun s c i t w brings ok delivers sized source => ?_⟩
  · obtain ⟨u, v, runs, only, reported, sound, ends⟩ := State.hears_good brings ok listens good
    refine ⟨u, v, runs, only, reported, fun holding noAnswer noReply => ?_, fun holding reply outside used => ?_,
      fun p passing pass => reported.passing ok sound passing pass ends, fun claiming => ?_⟩
    · rw [ends, ChannelEngine.tokenLogic_holding (reported.state.trans holding), ChannelEngine.holdingTelegram_conflict
        (fun h => noAnswer ⟨h.1, reported.answers_iff.mp h.2⟩) (fun h => noReply (reported.ownReply_iff.mp h)),
        ChannelEngine.conflict_settle]
    · have pass : v.pass = none := by
        by_contra some
        have passing := sound.passes.mp (Option.isSome_iff_ne_none.mpr some)
        rw [reported.state, holding] at passing
        exact absurd passing nofun
      have noAnswer : ¬ (w = true ∧ Answers v t) := by
        rintro ⟨inside, x, window, _⟩
        obtain out | closed := outside
        · rw [inside] at out
          exact absurd out nofun
        · rw [reported.replyWindow, closed] at window
          exact absurd window nofun
      have stays : v.closeIfRanOut w = v := by
        obtain rfl | closed := outside
        · rfl
        · exact ChannelEngine.closeIfRanOut_passless (reported.replyWindow.trans closed) pass
      obtain ⟨x, visit⟩ : ∃ x, v.visit = some x := by
        rw [reported.visit]
        exact Option.isSome_iff_exists.mp (ok.visits.mpr holding)
      have awake : v.wake = v := by
        refine ChannelEngine.wake_of_used (ChannelEngine.visitUnused_eq_false visit ?_)
        rw [reported.inFlight, reported.requests]
        refine used.imp id (.imp id (.imp id ?_))
        rintro ⟨y, found, step⟩
        obtain rfl := Option.some.inj ((reported.visit.trans found).symm.trans visit)
        exact step
      rw [ends, ChannelEngine.tokenLogic_holding (reported.state.trans holding), ChannelEngine.holdingTelegram_reply
        noAnswer (reported.ownReply_iff.mpr reply), stays, awake, ChannelEngine.settle_eq]
    · have quiet := reported.waiting.trans (ok.quiet_of_state (by rw [claiming]; exact nofun)
        (by rw [claiming]; exact nofun))
      rw [ends, ChannelEngine.tokenLogic_claiming (reported.state.trans claiming),
        ChannelEngine.leaveClaim_settle quiet, reported.claimedFrom]
      cases (s.ch c).claimedFrom <;> rfl
  · obtain ⟨_, _, line, _⟩ := ChannelEngine.hears_of_delivers delivers
    have live := ok.live_of_line line
    refine ⟨_, ({ s.ch c with rx := .idle } : ChannelEngine).countGood.setEvent .duplicateStation,
      exec_of_brings brings, s.onlyChannel_onChannel c _, satInc_toNat _, rfl, fun sounding => ?_, fun silent => ?_⟩
    all_goals
      rw [State.onChannel_ch_self, ChannelEngine.judgeTelegram_own sized (ok.configured live) source,
        ChannelEngine.telegramEnds_ownSource delivers]
    · exact ChannelEngine.duplicate_enters (ce := ({ s.ch c with rx := .idle } : ChannelEngine).countGood) live sounding
    · have quiet := ok.quiet_of_state (by rw [silent]; exact nofun) (by rw [silent]; exact nofun)
      have timer : (s.ch c).silenceTimer = none := by
        by_contra running
        obtain ⟨state, _⟩ := ok.silence (Option.isSome_iff_ne_none.mpr running)
        rw [silent] at state
        exact state.elim nofun nofun
      exact ChannelEngine.duplicate_silent (ce := ({ s.ch c with rx := .idle } : ChannelEngine).countGood) silent quiet
        timer

end Sys2Proof.Machine
end

section
/-! PROOFS. Telegrams that fail their tests, start bits and end gaps (O43, O44; R120, R121, R124 to R126, R128, R144,
R150 to R152). -/

namespace Sys2Proof.Machine

set_option Elab.async false

namespace ChannelEngine

variable {ce : ChannelEngine} {w : Bool}

/-! ### The line after a pass -/

theorem visitAlone_rx (ce : ChannelEngine) : ce.visitAlone.rx = ce.rx := by
  by_cases owed : ce.inFlight ≠ none ∨ .removal ∈ ce.requests
  · rw [visitAlone_owed owed]
    rfl
  · obtain ⟨flight, removal⟩ := not_or.mp owed
    have flight : ce.inFlight = none := not_not.mp flight
    by_cases nothing : ce.pendingCount = 0
    · have same := ce.visits.joinStep_eq
      rcases step : ce.visits.joinStep with ⟨v, _ | g⟩
      all_goals
        rw [step] at same
        have rx : v.rx = ce.rx := (congrArg ChannelEngine.rx same :)
      · rw [visitAlone_uncalled flight removal nothing step, rx]
      · rw [visitAlone_called flight removal nothing step]
        exact rx
    · rw [visitAlone_pending flight removal nothing]
      rfl

theorem passOn_rx (ce : ChannelEngine) : ce.passOn.rx = ce.rx := by
  unfold passOn
  split
  · rfl
  · exact ce.visitAlone_rx

theorem tryFailed_rx (ce : ChannelEngine) : ce.tryFailed.rx = ce.rx := by
  unfold tryFailed
  split
  · split
    · exact passOn_rx _
    · rfl
  · rfl

theorem begin_of_busy (idle : ce.rx ≠ .idle) (unsynced : ce.rx ≠ .unsynced) : ce.begin = ce := by
  refine if_neg fun h => ?_
  obtain ⟨_, line⟩ := lineIdle_iff.mp (Bool.and_eq_true_iff.mp h).1
  exact line.elim idle unsynced

/-! ### A telegram that fails its tests -/

/-- A telegram counted as bad, or as good and no more, the receive side left so. -/
def counted (ce : ChannelEngine) (after : RxState) (bad : Bool) : ChannelEngine :=
  if bad then ({ ce with rx := after } : ChannelEngine).countCheckFailure else ({ ce with rx := after }).countGood

/-- The verdict on a telegram that is not good and has another source than the own station. -/
def failing (bad : Bool) : Verdict := if bad then .checkFailure else .discarded

theorem ends_failing (began : ce.beganInWindow = w) (after : RxState) (bad : Bool) :
    ce.ends after (failing bad) = (ce.counted after bad).closeIfRanOut w := by
  cases bad <;> rw [ends, began] <;> rfl

theorem telegramEnds_failing (h : ce.delivers w) (bad : Bool) :
    ce.telegramEnds (failing bad) = ((ce.counted .idle bad).closeIfRanOut w).settle := by
  obtain ⟨hears, released, _, began⟩ := hears_of_delivers h
  rw [telegramEnds, if_pos hears, hearing_of_begun released, ends_failing began]

/-- What a framing fault leaves the receive side in. -/
def afterFault (k : FramingCase) : RxState := if k = .tooShort then .idle else .resync

theorem framingFault_eq (h : ce.delivers w) (k : FramingCase) : ce.framingFault k =
    let v := (ce.counted (afterFault k) true).closeIfRanOut w
    if k = .shortGap then { v with rx := .receiving v.windowOpen, silenceTimer := none } else v.settle := by
  obtain ⟨hears, released, _, began⟩ := hears_of_delivers h
  have faulty : ce.ends (afterFault k) .checkFailure = (ce.counted (afterFault k) true).closeIfRanOut w :=
    ends_failing began _ true
  unfold framingFault
  rw [if_pos hears, hearing_of_begun released, ← faulty]
  cases k <;> rfl

theorem framingFault_of_deaf (h : ce.deaf) (k : FramingCase) : ce.framingFault k = ce :=
  if_neg (by rw [hears_of_deaf h]; exact nofun)

/-! ### The window such a telegram held open -/

/-- What closes with a telegram that is no answer: by the window that was open, where its length has passed. -/
theorem closes_of_same {ce v : ChannelEngine} {finish : ChannelEngine → ChannelEngine}
    (same : { v with rx := ce.rx, counters := ce.counters, event := ce.event } = ce)
    (begins : ∀ y : ChannelEngine, y.Active → y.rx = v.rx → finish y.begin = finish y) {u : ChannelEngine}
    (ends : u = finish (v.closeIfRanOut w)) :
    (w = false → u = finish v) ∧
    (∀ x, w = true → ce.replyWindow = some x →
      (x.ranOut = false → u = finish v) ∧
      (x.ranOut = true → (∃ source topic sequence, x.expect = .confirm source topic sequence) →
        u = finish (({ v with replyWindow := none } : ChannelEngine).attemptEnds .noConfirm)) ∧
      (x.ranOut = true → (∃ source, x.expect = .joinReply source) → ce.Ok →
        ∃ y, PassesOn { v with replyWindow := none } y ∧ u = finish y)) ∧
    (w = true → ce.replyWindow = none →
      (∀ p x, ce.pass = some p → p.window = some x → x.ranOut = true → ce.Ok → ∃ y, TryFails v y p ∧ u = finish y) ∧
      ((∀ p x, ce.pass = some p → p.window = some x → x.ranOut = false) → u = finish v)) := by
  have window : v.replyWindow = ce.replyWindow := (congrArg ChannelEngine.replyWindow same :)
  have pass : v.pass = ce.pass := (congrArg ChannelEngine.pass same :)
  have list : v.stationList = ce.stationList := (congrArg ChannelEngine.stationList same :)
  refine ⟨fun outside => ?_, fun x inside open_ => ?_, fun inside closed => ?_⟩
  · rw [ends, outside, closeIfRanOut_outside]
  · rw [inside, closeIfRanOut_reply (window.trans open_)] at ends
    refine ⟨fun runs => ?_, fun ranOut expects => ?_, fun ranOut ⟨source, expect⟩ ok => ?_⟩
    · rw [ends, if_neg (by rw [runs]; exact nofun)]
    · rw [ends, if_pos ranOut, unanswered_confirm (window.trans open_) expects, endAttempt_eq_attemptEnds]
    · have asc : ({ v with replyWindow := none } : ChannelEngine).stationList.Pairwise (fun a b => a < b) := by
        show v.stationList.Pairwise _
        rw [list]
        exact ok.ascending
      refine ⟨_, (passOn_passesOn asc).begin, ?_⟩
      rw [ends, if_pos ranOut, unanswered_joinReply (window.trans open_) expect,
        begins _ active_passOn (passOn_rx { v with replyWindow := none })]
  · refine ⟨fun p x passes open_ ranOut ok => ?_, fun runs => ?_⟩
    · have passing : ce.state = .passing := ok.passes.mp (by rw [passes]; rfl)
      have active : v.Active := by
        have active := ok.active (.inr passing)
        rw [← same] at active
        exact active
      have visit : v.visit = none := by
        have noVisit : ce.visit = none := by
          by_contra some
          have holding := ok.visits.mp (Option.isSome_iff_ne_none.mpr some)
          rw [passing] at holding
          exact absurd holding nofun
        rw [← noVisit]
        exact (congrArg ChannelEngine.visit same :)
      have state : v.state = .passing := (congrArg ChannelEngine.state same :).trans passing
      have asc : v.stationList.Pairwise (fun a b => a < b) := by
        rw [list]
        exact ok.ascending
      refine ⟨_, (tryFailed_fails (pass.trans passes) asc state visit active.1).begin, ?_⟩
      rw [ends, inside, closeIfRanOut_passed (pass.trans passes) (window.trans closed) open_ ranOut,
        begins _ active.tryFailed (tryFailed_rx v)]
    · cases passes : ce.pass with
      | none => rw [ends, closeIfRanOut_passless (window.trans closed) (pass.trans passes)]
      | some p =>
        rw [ends, closeIfRanOut_kept (pass.trans passes) (window.trans closed) fun x _ open_ => runs p x passes open_]

end ChannelEngine

/-! ### The bytes of such a telegram -/

theorem parseBody_sized {body : List Byte} {t : Telegram} (h : parseBody body = .known t) : telegramSized t = true := by
  unfold parseBody at h
  split at h
  case h_2 => exact absurd h nofun
  case h_1 =>
    split at h
    case h_1 =>
      split at h
      case h_2 => exact absurd h nofun
      case h_1 =>
        split at h
        case isFalse => exact absurd h nofun
        case isTrue fits =>
          obtain rfl := Parsed.known.inj h
          exact decide_eq_true (fits.2.trans_le fits.1)
    case h_2 =>
      split at h
      · obtain rfl := Parsed.known.inj h
        rfl
      · exact absurd h nofun
    case h_3 =>
      split at h
      · obtain rfl := Parsed.known.inj h
        rfl
      · exact absurd h nofun
    case h_7 => exact absurd h nofun
    all_goals
      split at h
      · obtain rfl := Parsed.known.inj h
        rfl
      · exact absurd h nofun

theorem parseTelegram_sized {bytes : List Byte} {t : Telegram} (h : parseTelegram bytes = .known t) :
    telegramSized t = true := by
  unfold parseTelegram at h
  dsimp only at h
  split at h
  · exact absurd h nofun
  · split at h
    · exact parseBody_sized h
    · exact absurd h nofun

theorem judgeBytes_bad {bytes : List Byte} (fails : failsCheck bytes = true) (own : Byte) :
    judgeBytes own bytes = .checkFailure := by
  have bad : parseTelegram bytes = .bad := of_decide_eq_true (Bool.and_eq_true_iff.mp fails).2
  rw [judgeBytes, bad]

theorem judgeBytes_discarded {bytes : List Byte} (discards : discardedAsGood bytes = true) (own : Byte) :
    judgeBytes own bytes = .discarded := by
  unfold discardedAsGood at discards
  unfold judgeBytes
  cases parsed : parseTelegram bytes with
  | bad => rw [parsed] at discards; exact absurd discards nofun
  | unknownKind => rfl
  | known t =>
    rw [parsed] at discards
    have out : stationInRange (telegramSource t) = false := by simpa using discards
    refine (if_neg (not_not.mpr (parseTelegram_sized parsed))).trans (if_pos ?_)
    by_contra inRange
    obtain ⟨low, high⟩ := not_or.mp inRange
    have fits : stationInRange (telegramSource t) = true :=
      Bool.and_eq_true_iff.mpr ⟨decide_eq_true (Nat.one_le_iff_ne_zero.mpr low), decide_eq_true (Nat.not_lt.mp high)⟩
    rw [out] at fits
    exact absurd fits nofun

/-! ### The obligations -/

namespace ChannelEngine

variable {ce : ChannelEngine}

/-- What a telegram counted as bad, or as good and no more, leaves of its channel. -/
theorem counted_spec (ce : ChannelEngine) (after : RxState) (bad : Bool) :
    { ce.counted after bad with rx := ce.rx, counters := ce.counters, event := ce.event } = ce ∧
      { (ce.counted after bad).counters with
          goodTelegrams := ce.counters.goodTelegrams, checkFailures := ce.counters.checkFailures } = ce.counters ∧
      (bad = false → (ce.counted after bad).counters.goodTelegrams.toNat =
          min 65535 (ce.counters.goodTelegrams.toNat + 1) ∧
        (ce.counted after bad).counters.checkFailures = ce.counters.checkFailures ∧
        (ce.counted after bad).event = ce.event) ∧
      (bad = true → (ce.counted after bad).counters.checkFailures.toNat =
          min 65535 (ce.counters.checkFailures.toNat + 1) ∧
        (ce.counted after bad).counters.goodTelegrams = ce.counters.goodTelegrams ∧
        (ce.counted after bad).event = ce.event ||| 0x080) ∧
      (ce.counted after bad).rx = after := by
  cases bad
  · exact ⟨rfl, rfl, fun _ => ⟨satInc_toNat _, rfl, rfl⟩, nofun, rfl⟩
  · exact ⟨rfl, rfl, nofun, fun _ => ⟨satInc_toNat _, rfl, rfl⟩, rfl⟩

theorem settled_begin {y : ChannelEngine} (active : y.Active) : y.begin.settled = y.settled := by
  rw [← settle_eq, ← settle_eq, active.begin.settle, active.settle, begin_begin]

end ChannelEngine

/-- A telegram of these bytes that is judged so, on a channel that hears it or not. -/
theorem State.hearBytes_failing {s : State} {c : Channel} {bytes : List Byte} {bad : Bool}
    (judged : judgeBytes (s.ch c).own bytes = ChannelEngine.failing bad) :
    ((s.ch c).deaf → s.hearBytes c bytes = s) ∧ ∀ w, (s.ch c).delivers w →
      (s.hearBytes c bytes).ch c = (((s.ch c).counted .idle bad).closeIfRanOut w).settled := by
  refine ⟨fun deaf => State.onChannel_same (ChannelEngine.telegramEnds_of_deaf deaf _), fun w delivers => ?_⟩
  rw [State.hearBytes, State.onChannel_ch_self, judged, ChannelEngine.telegramEnds_failing delivers,
    ChannelEngine.settle_eq]

/-- Settles O43: the count is `ChannelEngine.counted_spec`, the window `ChannelEngine.closes_of_same`. -/
theorem badTelegramsAreCounted : Obligations.BadTelegramsAreCounted := by
  intro s c i bad ends done
  have settles : i ≠ .framingFault c .shortGap → ∀ y, done y = y.settled := fun other y => if_neg other
  have bytesCase {bytes : List Byte} (run : exec i s = .next (s.hearBytes c bytes))
      (judged : judgeBytes (s.ch c).own bytes = ChannelEngine.failing bad) (other : ∀ k, i ≠ .framingFault c k) :
      ((s.ch c).deaf → exec i s = .next s) ∧ ∀ w, (s.ch c).delivers w → ∃ u, exec i s = .next u ∧ OnlyChannel c s u ∧
        u.ch c = done (((s.ch c).counted .idle bad).closeIfRanOut w) := by
    obtain ⟨deaf, heard⟩ := State.hearBytes_failing judged
    refine ⟨fun h => by rw [run, deaf h], fun w delivers => ⟨_, run, s.onlyChannel_onChannel c _, ?_⟩⟩
    rw [heard w delivers, settles (other _)]
  have runs : ∃ after, ((s.ch c).deaf → exec i s = .next s) ∧ (∀ w, (s.ch c).delivers w →
        ∃ u, exec i s = .next u ∧ OnlyChannel c s u ∧
          u.ch c = done (((s.ch c).counted after bad).closeIfRanOut w)) ∧
      ((∀ k, i ≠ .framingFault c k) ∨ i = .framingFault c .tooShort → after = .idle) ∧
      (∀ k, i = .framingFault c k → k ≠ .tooShort → after = .resync) := by
    obtain ⟨rfl, ⟨bytes, rfl, fails⟩ | ⟨k, rfl⟩⟩ | ⟨rfl, bytes, rfl, discards⟩ := ends
    · obtain ⟨deaf, heard⟩ := bytesCase rfl (judgeBytes_bad fails _) nofun
      exact ⟨.idle, deaf, heard, fun _ => rfl, nofun⟩
    · refine ⟨ChannelEngine.afterFault k, fun deaf => congrArg Host.Outcome.next (State.onChannel_same
        (ChannelEngine.framingFault_of_deaf deaf k)), fun w delivers => ⟨_, rfl, s.onlyChannel_onChannel c _, ?_⟩,
        ?_, ?_⟩
      · rw [State.onChannel_ch_self, ChannelEngine.framingFault_eq delivers]
        by_cases gap : k = .shortGap
        · subst gap
          exact (if_pos rfl).trans (if_pos rfl).symm
        · rw [settles (by rintro ⟨⟩; exact gap rfl), ← ChannelEngine.settle_eq]
          exact if_neg gap
      · rintro (none | short)
        · exact absurd rfl (none k)
        · obtain rfl : k = .tooShort := by cases short; rfl
          rfl
      · rintro _ ⟨⟩ long
        exact if_neg long
    · obtain ⟨deaf, heard⟩ := bytesCase rfl (judgeBytes_discarded discards _) nofun
      exact ⟨.idle, deaf, heard, fun _ => rfl, nofun⟩
  obtain ⟨after, deaf, heard, idle, resync⟩ := runs
  refine ⟨deaf, fun w delivers => ?_⟩
  obtain ⟨u, run, only, closes⟩ := heard w delivers
  obtain ⟨same, others, good, failed, rx⟩ := (s.ch c).counted_spec after bad
  have begins : ∀ y : ChannelEngine, y.Active → y.rx = ((s.ch c).counted after bad).rx → done y.begin = done y := by
    intro y active line
    by_cases gap : i = .framingFault c .shortGap
    · have busy : y.rx = .resync := line.trans (rx.trans (resync _ gap nofun))
      rw [ChannelEngine.begin_of_busy (by rw [busy]; exact nofun) (by rw [busy]; exact nofun)]
    · rw [settles gap, settles gap, ChannelEngine.settled_begin active]
  exact ⟨u, _, run, only, same, others, good, failed, fun h => rx.trans (idle h),
    fun k fault long => rx.trans (resync k fault long), ChannelEngine.closes_of_same same begins closes⟩

end Sys2Proof.Machine
end

section
/-! PROOFS. Start bits and end gaps (O44; R33, R120, R121, R125, R128, R130, R144, R150 to R152). -/

namespace Sys2Proof.Machine

set_option Elab.async false

namespace ChannelEngine

variable {ce : ChannelEngine}

/-! ### Start bits -/

theorem startBit_still (h : ce.sending ≠ none ∨ ce.rx = .off ∨ (∃ w, ce.rx = .receiving w) ∨ ce.rx = .intruding) :
    ce.startBit = ce := by
  unfold startBit
  obtain sends | line | ⟨w, line⟩ | line := h
  · exact if_pos (Option.isSome_iff_ne_none.mpr sends)
  all_goals
    rw [line]
    exact ite_self _

section Quiet

variable (quiet : ce.sending = none)
include quiet

theorem startBit_unsynced (line : ce.rx = .unsynced) : ce.startBit = { ce with rx := .resync, silenceTimer :=
    none } := by
  simp only [startBit, quiet, line, Option.isSome_none, Bool.false_eq_true, if_false]

theorem startBit_idle (line : ce.rx = .idle) :
    ce.startBit = { ce with rx := .receiving ce.windowOpen, silenceTimer := none } := by
  simp only [startBit, quiet, line, Option.isSome_none, Bool.false_eq_true, if_false]

theorem startBit_resync (line : ce.rx = .resync) : ce.startBit = { ce with silenceTimer := none } := by
  simp only [startBit, quiet, line, Option.isSome_none, Bool.false_eq_true, if_false]

theorem startBit_afterMismatch (line : ce.rx = .released) : ce.startBit =
    if ce.watch.isSome && (ce.state = .holding || ce.state = .passing) then
      ({ ce with rx := .intruding } : ChannelEngine).conflict
    else { ce with rx := .receiving ce.windowOpen, watch := none, silenceTimer := none } := by
  simp only [startBit, quiet, line, Option.isSome_none, Bool.false_eq_true, if_false]

theorem startBit_conflict (line : ce.rx = .released) (watch : ce.watch ≠ none)
    (holds : ce.state = .holding ∨ ce.state = .passing) :
    ce.startBit = ({ ce with rx := .intruding } : ChannelEngine).conflicted := by
  rw [startBit_afterMismatch quiet line, ← conflict_eq]
  refine if_pos (Bool.and_eq_true_iff.mpr ⟨Option.isSome_iff_ne_none.mpr watch, ?_⟩)
  simpa using holds

theorem startBit_released (line : ce.rx = .released)
    (calm : ce.watch = none ∨ (ce.state ≠ .holding ∧ ce.state ≠ .passing)) :
    ce.startBit = { ce with rx := .receiving ce.windowOpen, watch := none, silenceTimer := none } := by
  rw [startBit_afterMismatch quiet line]
  refine if_neg fun h => ?_
  obtain ⟨watched, holds⟩ := Bool.and_eq_true_iff.mp h
  obtain unwatched | ⟨holding, passing⟩ := calm
  · exact Option.isSome_iff_ne_none.mp watched unwatched
  · simp [holding, passing] at holds

/-- A start bit on a released line begins a telegram, which the receive side hears. -/
theorem startBit_begins (line : ce.rx = .released) :
    ce.startBit.hears = true ∧ ce.startBit.rx ≠ .released ∧ ce.startBit.own = ce.own := by
  by_cases conflict : ce.watch ≠ none ∧ (ce.state = .holding ∨ ce.state = .passing)
  · obtain ⟨watch, holds⟩ := conflict
    have same := ({ ce with rx := .intruding } : ChannelEngine).endAttempt_eq .lineError
    rw [startBit_conflict quiet line watch holds, ← conflict_eq]
    have sending : ({ ce with rx := .intruding } : ChannelEngine).conflict.sending = none :=
      (congrArg ChannelEngine.sending same :).trans quiet
    have rx : ({ ce with rx := .intruding } : ChannelEngine).conflict.rx = .intruding :=
      (congrArg ChannelEngine.rx same :)
    refine ⟨?_, by rw [rx]; exact nofun, conflict_own⟩
    simp [hears, sending, rx]
  · have calm : ce.watch = none ∨ (ce.state ≠ .holding ∧ ce.state ≠ .passing) := by
      by_cases unwatched : ce.watch = none
      · exact .inl unwatched
      · exact .inr (not_or.mp fun holds => conflict ⟨unwatched, holds⟩)
    rw [startBit_released quiet line calm]
    refine ⟨?_, nofun, rfl⟩
    simp [hears, quiet]

/-- A telegram that ends on a released line had its start bit just before (log entry 11). -/
theorem telegramEnds_startBit (line : ce.rx = .released) (v : Verdict) :
    ce.startBit.telegramEnds v = ce.telegramEnds v := by
  obtain ⟨hears, begun, _⟩ := startBit_begins quiet line
  have listens : ce.hears = true := by simp [ChannelEngine.hears, quiet, line]
  have hearing : ce.hearing = ce.startBit := by rw [ChannelEngine.hearing, line]
  rw [telegramEnds, telegramEnds, if_pos hears, if_pos listens, hearing_of_begun begun, hearing]

theorem framingFault_startBit (line : ce.rx = .released) (k : FramingCase) :
    ce.startBit.framingFault k = ce.framingFault k := by
  obtain ⟨hears, begun, _⟩ := startBit_begins quiet line
  have listens : ce.hears = true := by simp [ChannelEngine.hears, quiet, line]
  have hearing : ce.hearing = ce.startBit := by rw [ChannelEngine.hearing, line]
  unfold framingFault
  rw [if_pos hears, if_pos listens, hearing_of_begun begun, hearing]

end Quiet

/-! ### End gaps -/

theorem endGap_still (h : ce.sending ≠ none ∨ ce.rx = .off ∨ ce.rx = .idle ∨ (∃ w, ce.rx = .receiving w) ∨
    ce.rx = .intruding) : ce.endGap = ce := by
  unfold endGap
  obtain sends | line | line | ⟨w, line⟩ | line := h
  · exact if_pos (Option.isSome_iff_ne_none.mpr sends)
  all_goals
    rw [line]
    exact ite_self _

theorem endGap_quiet (quiet : ce.sending = none) (line : ce.rx = .unsynced ∨ ce.rx = .resync) :
    ce.endGap = ({ ce with rx := .idle } : ChannelEngine).settled := by
  rw [endGap, if_neg (by rw [quiet]; exact nofun), ← settle_eq]
  obtain line | line := line <;> rw [line]

theorem endGap_released (quiet : ce.sending = none) (line : ce.rx = .released) :
    ce.endGap = ({ ce with rx := .idle } : ChannelEngine).lineFault.settle := by
  rw [endGap, if_neg (by rw [quiet]; exact nofun), line]

theorem lineFault_call (watch : ce.watch = some .joinCall) (holding : ce.state = .holding) :
    ce.lineFault = ({ ce with watch := none } : ChannelEngine).passOn := by
  rw [lineFault, watch, holding]

theorem lineFault_pass (watch : ce.watch = some .passToken) (passing : ce.state = .passing) :
    ce.lineFault = ({ ce with watch := none } : ChannelEngine).tryFailed := by
  rw [lineFault, watch, passing]

theorem lineFault_other (call : ¬ (ce.watch = some .joinCall ∧ ce.state = .holding))
    (pass : ¬ (ce.watch = some .passToken ∧ ce.state = .passing)) : ce.lineFault = { ce with watch := none } := by
  unfold lineFault
  split
  · exact absurd ⟨‹_›, ‹_›⟩ call
  · exact absurd ⟨‹_›, ‹_›⟩ pass
  · rfl

theorem Ok.visit_none (h : ce.Ok) (passing : ce.state = .passing) : ce.visit = none := by
  by_contra some
  have holding := h.visits.mp (Option.isSome_iff_ne_none.mpr some)
  rw [passing] at holding
  exact absurd holding nofun

end ChannelEngine

/-! ### A telegram that ends with no start bit before it -/

theorem Brings.transfer {s u : State} {i : Instr} {c : Channel} {t : Telegram} (h : Brings s i c t)
    (own : (u.ch c).own = (s.ch c).own) : Brings u i c t := by
  cases t with
  | publish p => exact h
  | confirm q => exact h
  | token src tgt => exact h.imp (fun ⟨run, target⟩ => ⟨run, target.trans own.symm⟩) id
  | joinCall src tgt => exact h.imp (fun ⟨run, target⟩ => ⟨run, target.trans own.symm⟩) id
  | joinReply src tgt => exact h.imp (fun ⟨run, target⟩ => ⟨run, target.trans own.symm⟩) id
  | _ q => exact h

/-- What ends a telegram acts on its channel alone, and as if the start bit had come. -/
theorem exec_endsTelegram {s : State} {i : Instr} {c : Channel} (ends : EndsTelegram s i c)
    (quiet : (s.ch c).sending = none) (line : (s.ch c).rx = .released) :
    ∃ f g : ChannelEngine → ChannelEngine, exec i s = .next (s.onChannel c f) ∧
      exec i (s.onChannel c ChannelEngine.startBit) = .next ((s.onChannel c ChannelEngine.startBit).onChannel c g) ∧
      g (s.ch c).startBit = f (s.ch c) := by
  obtain ⟨_, _, own⟩ := ChannelEngine.startBit_begins quiet line
  have sameOwn : ((s.onChannel c ChannelEngine.startBit).ch c).own = (s.ch c).own := by
    rw [State.onChannel_ch_self]
    exact own
  have verdict (v : Verdict) : (s.ch c).startBit.telegramEnds v = (s.ch c).telegramEnds v :=
    ChannelEngine.telegramEnds_startBit quiet line v
  obtain ⟨t, brings⟩ | ⟨bytes, rfl | rfl⟩ | ⟨k, rfl⟩ := ends
  · refine ⟨_, _, exec_of_brings brings, exec_of_brings (brings.transfer sameOwn), ?_⟩
    rw [own]
    exact verdict _
  · refine ⟨_, _, rfl, rfl, ?_⟩
    rw [own]
    exact verdict _
  · refine ⟨_, _, rfl, rfl, ?_⟩
    rw [own]
    exact verdict _
  · exact ⟨_, _, rfl, rfl, ChannelEngine.framingFault_startBit quiet line k⟩

/-- Settles O44: `ChannelEngine.startBit` by the receiver's state, and `ChannelEngine.lineFault` at an end gap. -/
theorem startBitsAndEndGaps : Obligations.StartBitsAndEndGaps := by
  refine ⟨fun s c => ?_, fun s c i ends quiet line => ?_, fun s c => ?_⟩
  · refine ⟨_, rfl, s.onlyChannel_onChannel c _, fun still => State.onChannel_same (ChannelEngine.startBit_still still),
      fun quiet => ?_⟩
    rw [State.onChannel_ch_self]
    exact ⟨ChannelEngine.startBit_unsynced quiet, ChannelEngine.startBit_idle quiet,
      ChannelEngine.startBit_resync quiet, fun line =>
        ⟨ChannelEngine.startBit_conflict quiet line, ChannelEngine.startBit_released quiet line⟩⟩
  · obtain ⟨f, g, run, later, same⟩ := exec_endsTelegram ends quiet line
    refine ⟨_, _, _, rfl, run, later, s.onlyChannel_onChannel c f, ?_⟩
    rw [State.onChannel_ch_self, State.onChannel_ch_self, State.onChannel_ch_self, same]
  · refine ⟨_, rfl, s.onlyChannel_onChannel c _, fun still => State.onChannel_same (ChannelEngine.endGap_still still),
      fun quiet => ?_⟩
    rw [State.onChannel_ch_self]
    refine ⟨fun line => ChannelEngine.endGap_quiet quiet (.inl line),
      fun line => ChannelEngine.endGap_quiet quiet (.inr line), fun line => ?_⟩
    intro v
    rw [ChannelEngine.endGap_released quiet line]
    refine ⟨fun call pass => ?_, fun watch holding ok => ?_, fun p watch passing ok pass => ?_⟩
    · rw [ChannelEngine.lineFault_other (ce := { s.ch c with rx := .idle }) call pass, ChannelEngine.settle_eq]
    · rw [ChannelEngine.lineFault_call (ce := { s.ch c with rx := .idle }) watch holding,
      ChannelEngine.active_passOn.settle]
      exact (ChannelEngine.passOn_passesOn (ce := v) ok.ascending).begin
    · have active : v.Active := ok.active (.inr passing)
      rw [ChannelEngine.lineFault_pass (ce := { s.ch c with rx := .idle }) watch passing]
      refine Eq.mpr (congrArg (TryFails v · p) active.tryFailed.settle) ?_
      exact (ChannelEngine.tryFailed_fails (ce := v) pass ok.ascending passing (ok.visit_none passing) active.1).begin

end Sys2Proof.Machine
end

section
/-! PROOFS. Replies and echoes (O48, O50, O53, O54): what a channel engine sends comes to its end with a good echo or a
mismatch (R65, R66, R128 to R133, R144, R146, R150, R151, R154, R155). -/

namespace Sys2Proof.Machine

set_option Elab.async false

theorem echoGood_iff {t : Telegram} {readBack : List Byte} {clean : Bool} :
    echoGood t readBack clean = true ↔ clean = true ∧ readBack = telegramBytes t := by
  simp [echoGood]

theorem echoGood_bad {t : Telegram} {readBack : List Byte} {clean : Bool}
    (bad : clean = false ∨ readBack ≠ telegramBytes t) : ¬ echoGood t readBack clean = true := by
  rw [echoGood_iff]
  rintro ⟨good, same⟩
  obtain unclean | other := bad
  · rw [good] at unclean
    exact absurd unclean nofun
  · exact other same

namespace ChannelEngine

variable {ce : ChannelEngine} {job : TxJob}

/-! ### The transmission under way -/

theorem sendingFor_of {t : Telegram} (sends : ce.sending = some { job := job, telegram := t }) :
    ce.sendingFor job = some t := by
  rw [sendingFor, sends]
  exact if_pos rfl

theorem sendingFor_none (other : ∀ t, ce.sending ≠ some { job := job, telegram := t }) : ce.sendingFor job = none := by
  unfold sendingFor
  split
  case h_2 => rfl
  case h_1 x sends =>
    refine if_neg ?_
    rintro rfl
    exact other x.telegram sends

theorem begun_of_busy (busy : ce.lineIdle = false) : ce.begun job = ce := by
  unfold begun
  rw [busy]
  cases ce.waiting <;> rfl

theorem lineIdle_of_sending {x : Transmission} (sends : ce.sending = some x) : ce.lineIdle = false := by
  simp [lineIdle, sends]

/-- Nothing begins where the telegram that waits is another one's, or the line is not idle. -/
theorem begun_still (still : ∀ x, ce.waiting = some x → x.job = job →
    ce.sending ≠ none ∨ (ce.rx ≠ .idle ∧ ce.rx ≠ .unsynced)) : ce.begun job = ce := by
  obtain e | ⟨x, waits, idle, own, _⟩ := ce.begun_cases job
  · exact e
  · obtain ⟨quiet, line⟩ := lineIdle_iff.mp idle
    obtain sends | ⟨notIdle, unsynced⟩ := still x waits own
    · exact absurd quiet sends
    · exact absurd line (not_or.mpr ⟨notIdle, unsynced⟩)

/-- A telegram that stood ready on the idle line is what its echo finds under way (log entry 30). -/
theorem begun_ready {x : Transmission} (waits : ce.waiting = some x) (own : x.job = job) (quiet : ce.sending = none)
    (line : ce.rx = .idle ∨ ce.rx = .unsynced) :
    ce.begun job = { ce with sending := some x, waiting := none, silenceTimer := none } := by
  unfold begun
  rw [waits]
  exact if_pos (Bool.and_eq_true_iff.mpr ⟨lineIdle_iff.mpr ⟨quiet, line⟩, decide_eq_true own⟩)

theorem begun_sent {x : Transmission} :
    ({ ce with sending := some x, waiting := none, silenceTimer := none } : ChannelEngine).begun job =
      { ce with sending := some x, waiting := none, silenceTimer := none } :=
  begun_of_quiet rfl job

/-! ### Replies (R132) -/

theorem sendReply_sends {t : Telegram} {rest : List Telegram} (queue : ce.replyQueue = t :: rest)
    (allowed : ce.sendsReplies = true) (quiet : ce.sending = none) (line : ce.rx = .idle ∨ ce.rx = .unsynced) :
    ce.sendReply =
      { ce with sending := some { job := .reply, telegram := t }, replyQueue := rest, silenceTimer := none } := by
  rw [sendReply, if_pos (Bool.and_eq_true_iff.mpr ⟨lineIdle_iff.mpr ⟨quiet, line⟩, allowed⟩), queue]

theorem sendReply_still (h : ce.replyQueue = [] ∨ ce.sending ≠ none ∨ (ce.rx ≠ .idle ∧ ce.rx ≠ .unsynced)) :
    ce.sendReply = ce := by
  unfold sendReply
  split
  case isFalse => rfl
  case isTrue allowed =>
    obtain ⟨quiet, line⟩ := lineIdle_iff.mp (Bool.and_eq_true_iff.mp allowed).1
    obtain empty | sends | ⟨notIdle, unsynced⟩ := h
    · rw [empty]
    · exact absurd quiet sends
    · exact absurd line (not_or.mpr ⟨notIdle, unsynced⟩)

theorem replyTooLate_cons {t : Telegram} {rest : List Telegram} (queue : ce.replyQueue = t :: rest) :
    ce.replyTooLate = ({ ce with replyQueue := rest } : ChannelEngine).begin := by
  rw [replyTooLate, queue]

section Echoes

variable {t : Telegram} {readBack : List Byte} {clean : Bool}

theorem replyEcho_eq (sends : ce.sending = some { job := .reply, telegram := t }) : ce.replyEcho readBack clean =
    if echoGood t readBack clean then ce.sentGood.settle else ce.sentBad none := by
  rw [replyEcho, sendingFor_of sends]

/-! ### Attempts (R66, R128, R129) -/

theorem attemptEcho_eq (sends : ce.sending = some { job := .attempt, telegram := t }) :
    ce.attemptEcho readBack clean = if echoGood t readBack clean then ce.sentGood.attemptSent.settle
      else (ce.sentBad (some .attempt)).endAttempt .lineError := by
  rw [attemptEcho, begun_of_busy (lineIdle_of_sending sends)]
  simp only [sendingFor_of sends]

theorem attemptSent_onLine {f : InFlight} (flight : ce.inFlight = some f) (phase : f.phase = .onLine) :
    ce.attemptSent = if f.confirm = 0 then ce.endAttempt .sent
      else ({ ce with inFlight := some { f with phase := .awaitingConfirm } } : ChannelEngine).openWindow
        (.confirm f.confirm f.topic (f.sequence.getD 0)) := by
  simp only [attemptSent, flight, phase, if_true]

theorem attemptSent_ended (ended : ∀ f, ce.inFlight = some f → f.phase = .ended) : ce.attemptSent = ce := by
  unfold attemptSent
  split
  · exact if_neg (by rw [ended _ ‹_›]; exact nofun)
  · rfl

theorem endAttempt_ended (ended : ∀ f, ce.inFlight = some f → f.phase = .ended) (o : AttemptOutcome) :
    ce.endAttempt o = ce := by
  unfold endAttempt
  split
  · exact if_pos (ended _ ‹_›)
  · rfl

/-! ### Join calls, passes and claims (R146, R150, R151, R154) -/

theorem joinCallEcho_eq (sends : ce.sending = some { job := .joinCall, telegram := t }) (holding :
    ce.state = .holding) :
    ce.joinCallEcho readBack clean = if echoGood t readBack clean then
        (ce.sentGood.openWindow (.joinReply (telegramTarget t))).settle
      else ce.sentBad (some .joinCall) := by
  rw [joinCallEcho, begun_of_busy (lineIdle_of_sending sends)]
  simp only [sendingFor_of sends, holding, if_true]

theorem passTokenEcho_eq (sends : ce.sending = some { job := .passToken, telegram := t }) :
    ce.passTokenEcho readBack clean = if echoGood t readBack clean then ce.sentGood.openPassWindow.settle
      else ce.sentBad (some .passToken) := by
  rw [passTokenEcho, begun_of_busy (lineIdle_of_sending sends)]
  simp only [sendingFor_of sends]

theorem passWindowExpiry_open {p : Pass} {x : PassWindow} (pass : ce.pass = some p) (window : p.window = some x) :
    ce.passWindowExpiry = if ce.rx = .receiving true then
        { ce with pass := some { p with window := some { x with ranOut := true } } } else ce.tryFailed := by
  simp only [passWindowExpiry, pass, window, telegramHolds, decide_eq_true_eq]

theorem passWindowExpiry_closed (closed : ∀ p, ce.pass = some p → p.window = none) : ce.passWindowExpiry = ce := by
  unfold passWindowExpiry
  cases pass : ce.pass with
  | none => rfl
  | some p => simp only [closed p pass]

theorem claimEcho_good (sends : ce.sending = some { job := .claim, telegram := t }) (claiming : ce.state = .claiming)
    (good : echoGood t readBack clean = true) : ce.claimEcho readBack clean =
      (({ ce.sentGood with errorRun := 0 } : ChannelEngine).setEvent .tokenRegenerated).beginVisit.settle := by
  rw [claimEcho, sendingFor_of sends]
  simp only [good, claiming, if_true]

theorem claimEcho_bad (sends : ce.sending = some { job := .claim, telegram := t })
    (bad : ¬ echoGood t readBack clean = true) : ce.claimEcho readBack clean =
      if (ce.sentBad none).raiseErrorRun.state = .claiming then (ce.sentBad none).raiseErrorRun.leaveClaim
      else (ce.sentBad none).raiseErrorRun := by
  rw [claimEcho, sendingFor_of sends]
  exact if_neg bad

/-- At its limit the error run takes a channel that can fall silent into SILENT (R154). -/
theorem raiseErrorRun_limit (falls : ce.canFallSilent = true) (limit : ce.errorRunLimit ≤ min 31 (ce.errorRun + 1)) :
    ce.raiseErrorRun = ({ ce with errorRun := min 31 (ce.errorRun + 1) } : ChannelEngine).fellSilent := by
  rw [← enterSilent_eq]
  exact if_pos (Bool.and_eq_true_iff.mpr ⟨decide_eq_true limit, falls⟩)

theorem raiseErrorRun_below (below : min 31 (ce.errorRun + 1) < ce.errorRunLimit) :
    ce.raiseErrorRun = { ce with errorRun := min 31 (ce.errorRun + 1) } :=
  if_neg fun h => absurd (of_decide_eq_true (Bool.and_eq_true_iff.mp h).1) (Nat.not_le.mpr below)

end Echoes

end ChannelEngine

/-! ### The obligations -/

/-- Settles O48: the head of the reply queue goes out once or is dropped. -/
theorem repliesGoOutOrAreDiscarded : Obligations.RepliesGoOutOrAreDiscarded := by
  refine ⟨fun s c ok => ?_, fun s c t rest queue => ?_, fun s c empty => ?_, fun s c readBack clean t sends => ?_,
    fun s c readBack clean other => ?_⟩
  · refine ⟨_, rfl, s.onlyChannel_updCh c _, fun t rest queue quiet line => ?_, fun still =>
      State.updCh_same (ChannelEngine.sendReply_still still)⟩
    have allowed : (s.ch c).sendsReplies = true := by
      by_contra barred
      rw [ok.quiet (Bool.eq_false_iff.mpr barred)] at queue
      exact absurd queue nofun
    rw [State.ch_updCh_self, ChannelEngine.sendReply_sends queue allowed quiet line]
  · refine ⟨_, rfl, s.onlyChannel_updCh c _, fun waits => ?_, fun x waits => ?_⟩
    · rw [State.ch_updCh_self, ChannelEngine.replyTooLate_cons queue]
      exact ChannelEngine.begin_of_quiet waits
    · rw [State.ch_updCh_self, ChannelEngine.replyTooLate_cons queue]
      exact ChannelEngine.begin_of_waiting (ce := { s.ch c with replyQueue := rest }) waits
  · exact congrArg Host.Outcome.next (State.updCh_same (ChannelEngine.replyTooLate_nil empty))
  · refine ⟨_, rfl, s.onlyChannel_updCh c _, fun good same => ?_, fun bad => ?_⟩
    · rw [State.ch_updCh_self, ChannelEngine.replyEcho_eq sends, if_pos (echoGood_iff.mpr ⟨good, same⟩),
        ChannelEngine.settle_eq]
      refine ⟨fun waits => ChannelEngine.settled_of_quiet (ce := (s.ch c).sentGood) waits, fun x waits => ?_⟩
      have same : (s.ch c).sentGood.waiting = some x := waits
      rw [ChannelEngine.settled, same]
      rfl
    · rw [State.ch_updCh_self, ChannelEngine.replyEcho_eq sends, if_neg (echoGood_bad bad)]
      rfl
  · refine congrArg Host.Outcome.next (State.updCh_same ?_)
    rw [ChannelEngine.replyEcho, ChannelEngine.sendingFor_none other]

/-- An event of a channel engine on states that differ in that engine alone, with the same requesters waiting. -/
theorem State.onChannel_congr {s u : State} {c : Channel} {f : ChannelEngine → ChannelEngine}
    (waits : u.waits = s.waits) (served : u.served = s.served) (turn : u.turn = s.turn)
    (same : u.updCh c f = s.updCh c f) : u.onChannel c f = s.onChannel c f := by
  have next : u.nextServed = s.nextServed := by
    unfold State.nextServed State.firstWaiting
    rw [waits, served, turn]
  unfold State.onChannel State.presenting
  simp only [same, waits, next]

theorem State.sends_waits (s : State) (c : Channel) (x : Transmission) : (s.sends c x).waits = s.waits := by
  funext q
  have fields (e : Channel) : ((s.sends c x).ch e).arrivalQueue = (s.ch e).arrivalQueue ∧
      ((s.sends c x).ch e).requests = (s.ch e).requests := by
    unfold State.sends
    by_cases own : c = e
    · subst own
      rw [State.ch_updCh_self]
      exact ⟨rfl, rfl⟩
    · rw [State.ch_updCh_ne _ _ own]
      exact ⟨rfl, rfl⟩
  cases q with
  | cu => rfl
  | iu => rfl
  | rx e => exact congrArg (fun q : List Arrival => !q.isEmpty) (fields e).1
  | tx e => exact congrArg (fun q : List SendRequest => !q.isEmpty) (fields e).2

/-- An echo of a telegram that stood ready finds the same as if it had begun. -/
theorem State.sends_updCh (s : State) (c : Channel) (x : Transmission) {f : ChannelEngine → ChannelEngine}
    (same : f (s.ch c) = f { s.ch c with sending := some x, waiting := none, silenceTimer := none }) :
    (s.sends c x).updCh c f = s.updCh c f := by
  unfold State.sends
  rw [State.updCh_updCh]
  unfold State.updCh
  dsimp only
  rw [same]

namespace ChannelEngine

variable {ce : ChannelEngine} {x : Transmission} {readBack : List Byte} {clean : Bool}

section Ready

variable (waits : ce.waiting = some x) (quiet : ce.sending = none) (line : ce.rx = .idle ∨ ce.rx = .unsynced)
include waits quiet line

theorem attemptEcho_ready (own : x.job = .attempt) : ce.attemptEcho readBack clean =
    ({ ce with sending := some x, waiting := none, silenceTimer := none } :
      ChannelEngine).attemptEcho readBack clean := by
  unfold attemptEcho
  rw [begun_ready waits own quiet line, begun_sent]

theorem joinCallEcho_ready (own : x.job = .joinCall) : ce.joinCallEcho readBack clean =
    ({ ce with sending := some x, waiting := none, silenceTimer := none } :
      ChannelEngine).joinCallEcho readBack clean := by
  unfold joinCallEcho
  rw [begun_ready waits own quiet line, begun_sent]

theorem passTokenEcho_ready (own : x.job = .passToken) : ce.passTokenEcho readBack clean =
    ({ ce with sending := some x, waiting := none, silenceTimer := none } :
      ChannelEngine).passTokenEcho readBack clean := by
  unfold passTokenEcho
  rw [begun_ready waits own quiet line, begun_sent]

end Ready

end ChannelEngine

/-- Settles O50: the attempt ends, awaits its CONFIRM, or has ended already. -/
theorem attemptEchoesEndOrAwait : Obligations.AttemptEchoesEndOrAwait := by
  refine ⟨fun s c readBack clean t f sends waits flight phase => ?_, fun s c readBack clean t sends ended => ?_,
    fun s c readBack clean x waits own quiet line => ?_, fun s c readBack clean other still => ?_⟩
  · refine ⟨_, rfl, s.onlyChannel_onChannel c _, fun good same => ⟨fun unconfirmed => ?_, fun confirmed => ?_⟩,
      fun bad => ?_⟩
    · rw [State.onChannel_ch_self, ChannelEngine.attemptEcho_eq sends, if_pos (echoGood_iff.mpr ⟨good, same⟩),
        ChannelEngine.attemptSent_onLine (ce := (s.ch c).sentGood) flight phase, if_pos unconfirmed,
        ChannelEngine.endAttempt_open (ce := (s.ch c).sentGood) flight (by rw [phase]; exact nofun),
        ChannelEngine.settle_eq]
      exact ChannelEngine.settled_of_quiet waits
    · rw [State.onChannel_ch_self, ChannelEngine.attemptEcho_eq sends, if_pos (echoGood_iff.mpr ⟨good, same⟩),
        ChannelEngine.attemptSent_onLine (ce := (s.ch c).sentGood) flight phase, if_neg confirmed,
        ChannelEngine.settle_eq]
      exact ChannelEngine.settled_of_quiet waits
    · rw [State.onChannel_ch_self, ChannelEngine.attemptEcho_eq sends, if_neg (echoGood_bad bad),
        ChannelEngine.endAttempt_open (ce := (s.ch c).sentBad _) flight (by rw [phase]; exact nofun)]
      rfl
  · refine ⟨_, rfl, s.onlyChannel_onChannel c _, fun good same => ?_, fun bad => ?_⟩
    · rw [State.onChannel_ch_self, ChannelEngine.attemptEcho_eq sends, if_pos (echoGood_iff.mpr ⟨good, same⟩),
        ChannelEngine.attemptSent_ended (ce := (s.ch c).sentGood) ended, ChannelEngine.settle_eq]
      rfl
    · rw [State.onChannel_ch_self, ChannelEngine.attemptEcho_eq sends, if_neg (echoGood_bad bad),
        ChannelEngine.endAttempt_ended (ce := (s.ch c).sentBad _) ended]
      rfl
  · refine congrArg Host.Outcome.next (State.onChannel_congr (State.sends_waits s c x) rfl rfl ?_).symm
    exact s.sends_updCh c x (ChannelEngine.attemptEcho_ready waits quiet line own)
  · refine congrArg Host.Outcome.next (State.onChannel_same ?_)
    rw [ChannelEngine.attemptEcho, ChannelEngine.begun_still still]
    simp only [ChannelEngine.sendingFor_none other]

/-- Settles O53: the windows that open, and the try that fails as the pass window closes. -/
theorem joinAndPassEchoesOpenWindows : Obligations.JoinAndPassEchoesOpenWindows := by
  refine ⟨fun s c readBack clean t sends holding waits => ?_, fun s c readBack clean t p sends pass waits => ?_,
    fun s c p w ok pass window => ?_,
    fun s c readBack clean x waits quiet line => ⟨fun own => ?_, fun own => ?_⟩, fun s c closed => ?_⟩
  · refine ⟨_, rfl, s.onlyChannel_updCh c _, fun good same => ?_, fun bad => ?_⟩
    · rw [State.ch_updCh_self, ChannelEngine.joinCallEcho_eq sends holding, if_pos (echoGood_iff.mpr ⟨good, same⟩),
        ChannelEngine.settle_eq]
      exact ChannelEngine.settled_of_quiet waits
    · rw [State.ch_updCh_self, ChannelEngine.joinCallEcho_eq sends holding, if_neg (echoGood_bad bad)]
      rfl
  · refine ⟨_, rfl, s.onlyChannel_updCh c _, fun good same => ?_, fun bad => ?_⟩
    · have opens : (s.ch c).sentGood.openPassWindow = { s.ch c with
          sending := none, rx := .idle
          pass := some { p with
            window := some { length := (s.ch c).passTimeoutSlots * (s.ch c).slotBits, ranOut := false } } } := by
        rw [ChannelEngine.openPassWindow, ChannelEngine.sentGood, pass]
        rfl
      rw [State.ch_updCh_self, ChannelEngine.passTokenEcho_eq sends, if_pos (echoGood_iff.mpr ⟨good, same⟩), opens,
        ChannelEngine.settle_eq]
      exact ChannelEngine.settled_of_quiet waits
    · rw [State.ch_updCh_self, ChannelEngine.passTokenEcho_eq sends, if_neg (echoGood_bad bad)]
      rfl
  · have passing : (s.ch c).state = .passing := ok.passes.mp (by rw [pass]; rfl)
    refine ⟨_, rfl, s.onlyChannel_onChannel c _, fun holds => ?_, fun free => ?_⟩
    · rw [State.onChannel_ch_self, ChannelEngine.passWindowExpiry_open pass window, if_pos holds]
    · rw [State.onChannel_ch_self, ChannelEngine.passWindowExpiry_open pass window, if_neg free]
      exact ChannelEngine.tryFailed_fails pass ok.ascending passing (ok.visit_none passing)
        (ok.active (.inr passing)).1
  · refine congrArg Host.Outcome.next (s.sends_updCh c x ?_).symm
    exact ChannelEngine.joinCallEcho_ready waits quiet line own
  · refine congrArg Host.Outcome.next (s.sends_updCh c x ?_).symm
    exact ChannelEngine.passTokenEcho_ready waits quiet line own
  · exact congrArg Host.Outcome.next (State.onChannel_same (ChannelEngine.passWindowExpiry_closed closed))

/-! ### Silence and claims (R144, R146) -/

namespace ChannelEngine

variable {ce : ChannelEngine}

theorem silenceExpiry_stopped (stopped : ce.silenceTimer = none) : ce.silenceExpiry = ce := by
  rw [silenceExpiry, stopped]

theorem silenceExpiry_listening (running : ce.silenceTimer ≠ none) (listening : ce.state = .listening) :
    ce.silenceExpiry =
      { ce with state := .claiming, claimedFrom := .listening, silenceTimer := none, replyQueue := [] } := by
  obtain ⟨n, timer⟩ := Option.ne_none_iff_exists'.mp running
  rw [silenceExpiry, timer, listening]

theorem silenceExpiry_receiving (running : ce.silenceTimer ≠ none) (receiving : ce.state = .receiving) :
    ce.silenceExpiry =
      { ce with state := .claiming, claimedFrom := .receiving, silenceTimer := none, replyQueue := [] } := by
  obtain ⟨n, timer⟩ := Option.ne_none_iff_exists'.mp running
  rw [silenceExpiry, timer, receiving]

theorem claimTransmit_sends (claiming : ce.state = .claiming) (quiet : ce.sending = none)
    (line : ce.rx = .idle ∨ ce.rx = .unsynced) :
    ce.claimTransmit = { ce with sending := some { job := .claim, telegram := .token ce.own ce.own } } :=
  if_pos (Bool.and_eq_true_iff.mpr ⟨decide_eq_true claiming, lineIdle_iff.mpr ⟨quiet, line⟩⟩)

theorem claimTransmit_still (h : ce.state ≠ .claiming ∨ ce.sending ≠ none ∨ (ce.rx ≠ .idle ∧ ce.rx ≠ .unsynced)) :
    ce.claimTransmit = ce := by
  refine if_neg fun claims => ?_
  obtain ⟨claiming, idle⟩ := Bool.and_eq_true_iff.mp claims
  obtain ⟨quiet, line⟩ := lineIdle_iff.mp idle
  obtain other | sends | ⟨notIdle, unsynced⟩ := h
  · exact other (of_decide_eq_true claiming)
  · exact sends quiet
  · exact line.elim notIdle unsynced

/-- A claim left on a line that is not idle starts no silence timer. -/
theorem leaveClaim_busy (line : ce.rx = .released) :
    ce.leaveClaim = { ce with silenceTimer := none, state := ce.leaveClaim.state } := by
  have busy : ce.lineIdle = false := by simp [lineIdle, line]
  have timer : ce.leaveClaim.silenceTimer = none := if_neg (by rw [Bool.not_eq_true]; exact busy)
  rw [← timer]
  rfl

end ChannelEngine

/-- Settles O54: a claim's TOKEN echoed begins a visit, a mismatch raises the error run. -/
theorem claimsRegenerateTheToken : Obligations.ClaimsRegenerateTheToken := by
  refine ⟨fun s c => ?_, fun s c => ?_, fun s c readBack clean t ok sends claiming => ?_,
    fun s c readBack clean other => ?_⟩
  · refine ⟨_, rfl, s.onlyChannel_updCh c _, fun running => ⟨fun state => ?_, fun state => ?_⟩, fun stopped =>
      State.updCh_same (ChannelEngine.silenceExpiry_stopped stopped)⟩
    · rw [State.ch_updCh_self, ChannelEngine.silenceExpiry_listening running state]
    · rw [State.ch_updCh_self, ChannelEngine.silenceExpiry_receiving running state]
  · refine ⟨_, rfl, s.onlyChannel_updCh c _, fun claiming quiet line => ?_, fun still =>
      State.updCh_same (ChannelEngine.claimTransmit_still still)⟩
    rw [State.ch_updCh_self, ChannelEngine.claimTransmit_sends claiming quiet line]
  · intro heard run missed
    have live : (s.ch c).state ≠ .offline := by rw [claiming]; exact nofun
    refine ⟨_, rfl, s.onlyChannel_onChannel c _, fun good same => ?_, fun bad => ⟨fun limit => ?_, fun below => ?_⟩⟩
    · obtain ⟨_, _, _, _, budget, _⟩ := (s.ch c).configValid_iff.mp (ok.configured live)
      have waits := ok.quiet_of_state (by rw [claiming]; exact nofun) (by rw [claiming]; exact nofun)
      rw [State.onChannel_ch_self, ChannelEngine.claimEcho_good sends claiming (echoGood_iff.mpr ⟨good, same⟩),
        ChannelEngine.active_beginVisit.settle]
      exact (ChannelEngine.beginVisit_begun (ce := heard) ok.ascending budget).begin waits
    · have falls : (s.ch c).canFallSilent = true := by rw [ChannelEngine.canFallSilent, claiming]
      have silent : ((s.ch c).sentBad none).raiseErrorRun = missed.fellSilent :=
        ChannelEngine.raiseErrorRun_limit (ce := (s.ch c).sentBad none) falls limit
      rw [State.onChannel_ch_self, ChannelEngine.claimEcho_bad sends (echoGood_bad bad), silent]
      exact if_neg nofun
    · have stays : ((s.ch c).sentBad none).raiseErrorRun = missed :=
        ChannelEngine.raiseErrorRun_below (ce := (s.ch c).sentBad none) below
      have state : missed.state = .claiming := claiming
      rw [State.onChannel_ch_self, ChannelEngine.claimEcho_bad sends (echoGood_bad bad), stays, if_pos state,
        ChannelEngine.leaveClaim_busy rfl]
      refine congrArg (fun state => ({ missed with silenceTimer := none, state := state } : ChannelEngine)) ?_
      show (match (s.ch c).claimedFrom with
        | .listening => ChState.listening
        | .receiving => .receiving) = _
      cases (s.ch c).claimedFrom <;> rfl
  · refine congrArg Host.Outcome.next (State.onChannel_same ?_)
    rw [ChannelEngine.claimEcho, ChannelEngine.sendingFor_none other]

end Sys2Proof.Machine
end

section
/-! PROOFS. PUBLISHes that are not accepted (O45; R35 to R41, R46): the disposition of an arrival, and what each of them
leaves. -/

namespace Sys2Proof.Machine

set_option Elab.async false

/-! ### The disposition of a PUBLISH (R35 to R41) -/

theorem State.mem_of_lookup {s : State} {topic : Word} {r : RowId} (h : s.lookup topic = some r) :
    (topic, r) ∈ s.topicIndex := by
  unfold State.lookup at h
  obtain ⟨e, found, rfl⟩ := Option.map_eq_some_iff.mp h
  have same : e.1 = topic := by simpa using List.find?_some found
  rw [← same]
  exact List.mem_of_find?_eq_some found

theorem State.judgePublish_unclaimed {s : State} {c : Channel} {p : Publish}
    (none : ∀ r, (p.topic, r) ∈ s.topicIndex → (s.row r).role = .produced ∨ inMask (s.row r).sourceMask c = false) :
    s.judgePublish c p = .unclaimed := by
  unfold State.judgePublish
  cases found : s.lookup p.topic with
  | none => rfl
  | some r =>
    refine if_pos ?_
    obtain produced | unnamed := none r (State.mem_of_lookup found)
    · exact .inr (.inl produced)
    · exact .inr (.inr (by rw [unnamed]; exact nofun))

theorem State.judgePublish_found {s : State} {c : Channel} {p : Publish} {r : RowId} (ok : s.TopicsOk)
    (mem : (p.topic, r) ∈ s.topicIndex) (consumed : (s.row r).role = .consumed)
    (named : inMask (s.row r).sourceMask c = true) : s.judgePublish c p = judgeFor (s.row r) r p := by
  unfold State.judgePublish
  rw [ok.lookup mem]
  refine if_neg ?_
  rintro (free | produced | unnamed)
  · exact ((ok.entries _ _).mp mem).1 free
  · rw [consumed] at produced
    exact absurd produced nofun
  · exact unnamed named

section Judge

variable {row : Row} {r : RowId} {p : Publish}

theorem judgeFor_dropped (out : row.state = .suspended ∨ row.state = .retiring) : judgeFor row r p = .dropped r := by
  refine if_pos fun serves => ?_
  obtain a | a | a := row.inService_iff.mp serves <;> rw [a] at out <;> exact out.elim nofun nofun

section Serving

variable (serves : row.serves)
include serves

theorem judgeFor_length (wrong : p.payload.length ≠ row.length) : judgeFor row r p = .rejectedLength r := by
  rw [judgeFor, if_neg (not_not.mpr (row.inService_iff.mpr serves)), if_pos wrong]

theorem judgeFor_fits (fits : p.payload.length = row.length) : judgeFor row r p =
    if row.compares then
      if p.sequence - row.sequence = 0 then .duplicate r
      else if (p.sequence - row.sequence).toNat ≤ 127 then .accepted r
      else .rejectedOrder r
    else .accepted r := by
  rw [judgeFor, if_neg (not_not.mpr (row.inService_iff.mpr serves)), if_neg (not_not.mpr fits)]

theorem judgeFor_order (fits : p.payload.length = row.length) (compares : row.compares = true)
    (behind : 128 ≤ (p.sequence - row.sequence).toNat) : judgeFor row r p = .rejectedOrder r := by
  rw [judgeFor_fits serves fits, if_pos compares, if_neg, if_neg (by omega)]
  intro same
  rw [same] at behind
  exact absurd behind (by decide)

theorem judgeFor_duplicate (fits : p.payload.length = row.length) (compares : row.compares = true)
    (same : p.sequence = row.sequence) : judgeFor row r p = .duplicate r := by
  rw [judgeFor_fits serves fits, if_pos compares, if_pos]
  rw [same]
  exact BitVec.sub_self _

theorem judgeFor_accepted (fits : p.payload.length = row.length) (ahead : row.sequenceCheck = false ∨
    row.state ≠ .live ∨ (1 ≤ (p.sequence - row.sequence).toNat ∧ (p.sequence - row.sequence).toNat ≤ 127)) :
    judgeFor row r p = .accepted r := by
  rw [judgeFor_fits serves fits]
  split
  case isFalse => rfl
  case isTrue compares =>
    obtain ⟨check, live⟩ := Bool.and_eq_true_iff.mp compares
    obtain unchecked | notLive | ⟨low, high⟩ := ahead
    · rw [check] at unchecked
      exact absurd unchecked nofun
    · exact absurd (of_decide_eq_true live) notLive
    · rw [if_neg, if_pos high]
      intro same
      rw [same] at low
      exact absurd low (by decide)

end Serving

theorem compares_of (check : row.sequenceCheck = true) (live : row.state = .live) : row.compares = true :=
  Bool.and_eq_true_iff.mpr ⟨check, decide_eq_true live⟩

end Judge

/-! ### The reply a disposition gives (R46, R47) -/

namespace ChannelEngine

theorem decideReply_none (ce : ChannelEngine) (p : Publish) {d : Disposition} (silent : d.confirms = false) :
    ce.decideReply p d = ce := by
  rw [decideReply, silent]
  rfl

theorem sendsReplies_iff (ce : ChannelEngine) : ce.sendsReplies = true ↔
    ce.state = .listening ∨ ce.state = .receiving ∨ ce.state = .holding ∨ ce.state = .passing := by
  unfold sendsReplies
  cases ce.state <;> simp

theorem decideReply_confirms (ce : ChannelEngine) (p : Publish) {d : Disposition} (confirms : d.confirms = true) :
    ce.decideReply p d = ce.answering p := by
  rw [decideReply, confirms, answering]
  by_cases named : p.target = ce.own
  · by_cases sends : ce.sendsReplies = true
    · rw [if_pos (by simp [named, sends]), queueReply_eq]
      by_cases room : ce.replyQueue.length < 4
      · rw [if_pos room, if_pos ⟨named, ce.sendsReplies_iff.mp sends, room⟩]
      · rw [if_neg room, if_neg fun h => room h.2.2]
    · rw [if_neg (by simp [sends]), if_neg fun h => sends (ce.sendsReplies_iff.mpr h.2.1)]
  · rw [if_neg (by simp [named]), if_neg fun h => named h.1]

end ChannelEngine

/-! ### An arrival transaction (R34, R35) -/

/-- The state in which an arrival transaction works: its arrival taken off the queue. -/
def State.arrived (s : State) (c : Channel) (rest : List Arrival) : State :=
  { s.updCh c (fun ce => { ce with arrivalQueue := rest }) with served := .rx c, turn := none }

theorem State.arrived_ch_self (s : State) (c : Channel) (rest : List Arrival) :
    (s.arrived c rest).ch c = { s.ch c with arrivalQueue := rest } :=
  State.ch_updCh_self s c fun ce => { ce with arrivalQueue := rest }

theorem State.arrived_ch_ne (s : State) {c e : Channel} (rest : List Arrival) (other : e ≠ c) :
    (s.arrived c rest).ch e = s.ch e :=
  State.ch_updCh_ne s (fun ce => { ce with arrivalQueue := rest }) (Ne.symm other)

theorem State.arrived_eq {s : State} {c : Channel} {a : Arrival} {rest : List Arrival}
    (queue : (s.ch c).arrivalQueue = a :: rest) :
    ({ s with served := .rx c, turn := none } : State).updCh c ChannelEngine.popArrival = s.arrived c rest := by
  have popped : (s.ch c).popArrival = { s.ch c with arrivalQueue := rest } := by
    rw [ChannelEngine.popArrival, queue]
    rfl
  exact congrArg (fun ce => ({ s with
    channels := s.channels.set c ce, served := .rx c, turn := none } : State)) popped

theorem State.exec_publishArrival {s : State} {c : Channel} {p : Publish} {rest : List Arrival}
    (queue : (s.ch c).arrivalQueue = .publish p :: rest) (next : s.nextServed = some (.rx c)) {d : Disposition}
    (judged : s.judgePublish c p = d) : exec (.publishArrival c) s = .next
      (((s.arrived c rest).applyDisposition c p d).updCh c fun ce => ce.decideReply p d).wakeAll := by
  have run : exec (.publishArrival c) s = .next (s.transact (.rx c) fun s => s.publishTransaction c p) := by
    simp only [exec, execPublishArrival, queue]
  rw [run, State.transact_turn next, ← State.arrived_eq queue, ← judged]
  rfl

/-- A disposition keeps to the table, the attention list, the interval unit and the channels. -/
theorem State.applyDisposition_frame (s : State) (c : Channel) (p : Publish) (d : Disposition) :
    ∃ r, EnqueueFrame r s (s.applyDisposition c p d) := by
  cases d with
  | unclaimed => exact ⟨0, EnqueueFrame.of_updCh 0 s c _⟩
  | dropped r => exact ⟨r, EnqueueFrame.of_updRow r s _⟩
  | rejectedLength r => exact ⟨r, (EnqueueFrame.of_updRow r s _).trans (EnqueueFrame.of_record r r _ _)⟩
  | rejectedOrder r => exact ⟨r, (EnqueueFrame.of_updRow r s _).trans (EnqueueFrame.of_record r r _ _)⟩
  | duplicate r => exact ⟨r, EnqueueFrame.refl r s⟩
  | accepted r =>
    refine ⟨r, ?_⟩
    have stored : EnqueueFrame r s (s.updRow r fun row => row.accept c p) := EnqueueFrame.of_updRow r s _
    have told : EnqueueFrame r s (if (s.row r).state = .stale then
        (s.updRow r fun row => row.accept c p).record r .restored else s.updRow r fun row => row.accept c p) := by
      split
      · exact stored.trans (EnqueueFrame.of_record r r _ _)
      · exact stored
    exact ((told.trans (EnqueueFrame.of_record r r _ _)).trans (EnqueueFrame.of_startDeadline r _ _)).trans
      (State.enqueue_frame _ _ _ _)

/-- What every arrival transaction leaves as it was. -/
theorem State.arrival_frame (s : State) (c : Channel) (p : Publish) (rest : List Arrival) (d : Disposition) :
    TableOnly s (((s.arrived c rest).applyDisposition c p d).updCh c fun ce => ce.decideReply p d).wakeAll ∧
      State.servedBy (((s.arrived c rest).applyDisposition c p d).updCh c fun ce => ce.decideReply p d).wakeAll
        (.rx c) := by
  obtain ⟨r, frame⟩ := (s.arrived c rest).applyDisposition_frame c p d
  have table : TableOnly s ((s.arrived c rest).applyDisposition c p d) :=
    TableOnly.trans (t := s.arrived c rest) rfl frame.tableOnly
  exact ⟨table, frame.served, frame.turn⟩

theorem satInc_byte_toNat (x : Byte) : (satInc x).toNat = min 255 (x.toNat + 1) := by
  have bound := x.isLt
  unfold satInc
  split
  case isTrue full =>
    subst full
    rfl
  case isFalse room =>
    have below : x.toNat ≠ 255 := fun full => room (BitVec.eq_of_toNat_eq full)
    rw [BitVec.toNat_add_of_lt (by rw [show (1 : Byte).toNat = 1 from rfl]; omega),
      show (1 : Byte).toNat = 1 from rfl]
    omega

theorem attentionAfter_none (l : List AttentionEntry) (r : RowId) (m : ReasonSet) :
    attentionAfter l r (m &&& 0) = l :=
  if_pos BitVec.and_zero

/-- What a PUBLISH that is dropped or rejected leaves: a reject counted, and its reason. -/
theorem State.rejected_ends {s : State} {c : Channel} {p : Publish} {rest : List Arrival} {r : RowId} {d : Disposition}
    {reasons : ReasonSet} (silent : d.confirms = false) (applied : (s.arrived c rest).applyDisposition c p d =
      { (s.arrived c rest).updRow r Row.countReject with
        attention := attentionAfter s.attention r ((s.row r).attentionMask &&& reasons) })
    {u : State} (ends : u = (((s.arrived c rest).applyDisposition c p d).updCh c
      fun ce => ce.decideReply p d).wakeAll) :
    (u.row r).rejectCount.toNat = min 255 ((s.row r).rejectCount.toNat + 1) ∧
      { u.row r with rejectCount := (s.row r).rejectCount } = s.row r ∧ (∀ q, q ≠ r → u.row q = s.row q) ∧
      u.attention = attentionAfter s.attention r ((s.row r).attentionMask &&& reasons) ∧ u.iu = s.iu ∧
      u.ch c = ({ s.ch c with arrivalQueue := rest } : ChannelEngine).wake ∧ ∀ e, e ≠ c → u.ch e = (s.ch e).wake := by
  have kept : (((s.arrived c rest).applyDisposition c p d).updCh c fun ce => ce.decideReply p d) =
      (s.arrived c rest).applyDisposition c p d := State.updCh_same (ChannelEngine.decideReply_none _ p silent)
  rw [kept, applied] at ends
  have row : u.row r = (s.row r).countReject := by
    rw [ends, State.wakeAll_row]
    exact State.row_updRow_self (s.arrived c rest) r _
  refine ⟨by rw [row]; exact satInc_byte_toNat _, by rw [row]; rfl, fun q other => ?_, by rw [ends]; rfl,
    by rw [ends]; rfl, ?_,
    fun e other => ?_⟩
  · rw [ends, State.wakeAll_row]
    exact State.row_updRow_ne (s.arrived c rest) _ (Ne.symm other)
  · rw [ends, State.wakeAll_ch]
    exact congrArg ChannelEngine.wake (s.arrived_ch_self c rest)
  · rw [ends, State.wakeAll_ch]
    exact congrArg ChannelEngine.wake (s.arrived_ch_ne rest other)

/-- A rejection counts and records its reason. -/
theorem State.reject_eq (s : State) (c : Channel) (rest : List Arrival) (r : RowId) :
    ((s.arrived c rest).updRow r Row.countReject).record r .rejected =
      { (s.arrived c rest).updRow r Row.countReject with
        attention := attentionAfter s.attention r ((s.row r).attentionMask &&& 0x08) } := by
  rw [State.record_eq, State.row_updRow_self]
  rfl

/-- Settles O45, by the disposition (`State.judgePublish_found`). -/
theorem arrivalsAreTurnedAway : Obligations.ArrivalsAreTurnedAway := by
  intro s c p rest ok queue next popped
  obtain ⟨table, served⟩ := s.arrival_frame c p rest (s.judgePublish c p)
  refine ⟨_, State.exec_publishArrival queue next rfl, table, served, fun none => ?_, fun r mem consumed named => ?_⟩
  · rw [State.judgePublish_unclaimed none]
    refine ⟨rfl, rfl, rfl, fun e other => ?_, popped.countUnclaimed, ?_, satInc_toNat _, rfl⟩
    · rw [State.wakeAll_ch, State.ch_updCh_ne _ _ (Ne.symm other)]
      refine congrArg ChannelEngine.wake ((State.ch_updCh_ne (s.arrived c rest) _ (Ne.symm other)).trans ?_)
      exact s.arrived_ch_ne rest other
    · rw [State.wakeAll_ch, State.ch_updCh_self, ChannelEngine.decideReply_none _ p rfl]
      refine congrArg ChannelEngine.wake ((State.ch_updCh_self (s.arrived c rest) c _).trans ?_)
      exact congrArg ChannelEngine.countUnclaimed (s.arrived_ch_self c rest)
  · intro old rejected
    have judged := State.judgePublish_found ok mem consumed named
    refine ⟨fun out => ?_, fun serves wrong => ?_, fun serves fits check live => ⟨fun behind => ?_, fun same => ?_⟩⟩
    · refine State.rejected_ends (d := .dropped r) rfl ?_ (by rw [judged, judgeFor_dropped out])
      rw [attentionAfter_none]
      rfl
    · exact State.rejected_ends (d := .rejectedLength r) rfl (s.reject_eq c rest r)
        (by rw [judged, judgeFor_length serves wrong])
    · exact State.rejected_ends (d := .rejectedOrder r) rfl (s.reject_eq c rest r)
        (by rw [judged, judgeFor_order serves fits (compares_of check live) behind])
    · rw [judged, judgeFor_duplicate serves fits (compares_of check live) same]
      refine ⟨⟨rfl, rfl, rfl, fun e other => ?_⟩, ?_⟩
      · rw [State.wakeAll_ch, State.ch_updCh_ne _ _ (Ne.symm other)]
        exact congrArg ChannelEngine.wake (s.arrived_ch_ne rest other)
      · rw [State.wakeAll_ch, State.ch_updCh_self, ChannelEngine.decideReply_confirms _ p rfl]
        exact congrArg (fun ce => (ChannelEngine.answering ce p).wake) (s.arrived_ch_self c rest)

end Sys2Proof.Machine
end

section
/-! PROOFS. PUBLISHes that are accepted and RECALLs (O46, O47; R39, R41 to R49). -/

namespace Sys2Proof.Machine

set_option Elab.async false

/-! ### Two reasons of one transaction (R105) -/

/-- Reasons recorded one after the other are recorded together. -/
theorem attentionAfter_after (l : List AttentionEntry) (r : RowId) (m n : ReasonSet) :
    attentionAfter (attentionAfter l r m) r n = attentionAfter l r (m ||| n) := by
  by_cases first : m = 0
  · have same : attentionAfter l r m = l := if_pos first
    rw [same, first, show (0 : ReasonSet) ||| n = n from BitVec.zero_or]
  by_cases second : n = 0
  · have same (l : List AttentionEntry) : attentionAfter l r n = l := if_pos second
    rw [same, second, show m ||| (0 : ReasonSet) = m from BitVec.or_zero]
  have both : m ||| n ≠ 0 := fun zero => first (BitVec.or_eq_zero_iff.mp zero).1
  by_cases listed : r ∈ l.map (fun e => e.row)
  · have joined (k : ReasonSet) (some : k ≠ 0) : attentionAfter l r k =
        l.map fun e => { e with reasons := if e.row = r then e.reasons ||| k else e.reasons } := by
      rw [attentionAfter, if_neg some, if_pos listed]
    have still : r ∈ (attentionAfter l r m).map (fun e => e.row) := by
      rw [joined m first, List.map_map]
      exact listed
    rw [joined _ both, attentionAfter, if_neg second, if_pos still, joined m first, List.map_map]
    refine List.map_congr_left fun e _ => ?_
    by_cases own : e.row = r <;> simp [own, BitVec.or_assoc]
  · have joined (k : ReasonSet) (some : k ≠ 0) : attentionAfter l r k = l ++ [{ row := r, reasons := k }] := by
      rw [attentionAfter, if_neg some, if_neg listed]
    have now : r ∈ (attentionAfter l r m).map (fun e => e.row) := by simp [joined m first]
    have others : (l.map fun e => ({ e with reasons := if e.row = r then e.reasons ||| n else e.reasons } :
        AttentionEntry)) = l := by
      refine (List.map_congr_left fun e mem => ?_).trans (List.map_id l)
      have other : e.row ≠ r := fun own => listed (own ▸ List.mem_map_of_mem mem)
      simp [other]
    rw [joined _ both, attentionAfter, if_neg second, if_pos now, joined m first, List.map_append, others]
    simp

/-! ### The accepted arrival (R42 to R44) -/

theorem State.withdraw_eq (s : State) (r : RowId) (k : DeadlineKind) :
    s.withdraw r k = { s with iu := s.iu.less { row := r, kind := k } } := by
  have void (p : Presented) : (if p.entry = { row := r, kind := k } then { p with void := true } else p) =
      ({ p with void := p.void || decide (p.entry = { row := r, kind := k }) } : Presented) := by
    by_cases own : p.entry = { row := r, kind := k } <;> simp [own]
  unfold State.withdraw IntervalUnit.less
  simp only [void]

/-- The table as an accepted arrival leaves it before its relay request. -/
def State.acceptedBase (s : State) (c : Channel) (p : Publish) (rest : List Arrival) (r : RowId) : State :=
  { s with
    rows := (s.updRow r fun row => { row with
      state := .live, image := some p.payload, generation := (s.row r).generation + 1, sequence := p.sequence, age := 0
      sourceStation := some p.source, arrivalChannel := some c
      freshness := startedDeadline (s.row r).freshnessLimit.toNat }).rows
    channels := (s.updCh c fun ce => { ce with arrivalQueue := rest }).channels
    attention :=
      attentionAfter s.attention r ((s.row r).attentionMask &&& (if (s.row r).state = .stale then 0x03 else 0x01))
    iu := s.iu.less { row := r, kind := .freshness }, served := .rx c }

/-- The reasons of an accepted arrival: NEW_DATA, and RESTORED for a row that was STALE. -/
theorem State.accepted_told (s : State) (c : Channel) (p : Publish) (rest : List Arrival) (r : RowId) :
    (if ((s.arrived c rest).row r).state = .stale then
        ((s.arrived c rest).updRow r fun row => row.accept c p).record r .restored
      else (s.arrived c rest).updRow r fun row => row.accept c p).record r .newData =
      { (s.arrived c rest).updRow r fun row => row.accept c p with
        attention := attentionAfter s.attention r
          ((s.row r).attentionMask &&& (if (s.row r).state = .stale then 0x03 else 0x01)) } := by
  have mask : (((s.arrived c rest).updRow r fun row => row.accept c p).row r).attentionMask =
      (s.row r).attentionMask := by
    rw [State.row_updRow_self]
    rfl
  by_cases stale : (s.row r).state = .stale
  · have restored : (if ((s.arrived c rest).row r).state = .stale then
        ((s.arrived c rest).updRow r fun row => row.accept c p).record r .restored
        else (s.arrived c rest).updRow r fun row => row.accept c p) =
        ((s.arrived c rest).updRow r fun row => row.accept c p).record r .restored := if_pos stale
    have bits (m : ReasonSet) : m &&& Reason.restored.bit ||| m &&& Reason.newData.bit = m &&& 0x03 := by
      rw [← BitVec.and_or_distrib_left]
      rfl
    rw [restored, State.record_eq, State.record_eq, if_pos stale]
    have twice := attentionAfter_after s.attention r ((s.row r).attentionMask &&& Reason.restored.bit)
      ((s.row r).attentionMask &&& Reason.newData.bit)
    rw [bits, ← mask] at twice
    rw [← mask]
    exact congrArg (fun l : List AttentionEntry =>
      { (s.arrived c rest).updRow r fun row => row.accept c p with attention := l }) twice
  · have plain : (if ((s.arrived c rest).row r).state = .stale then
        ((s.arrived c rest).updRow r fun row => row.accept c p).record r .restored
        else (s.arrived c rest).updRow r fun row => row.accept c p) =
        (s.arrived c rest).updRow r fun row => row.accept c p := if_neg stale
    rw [plain, State.record_eq, mask, if_neg stale]
    rfl

theorem State.accepted_started (s : State) (c : Channel) (p : Publish) (rest : List Arrival) (r : RowId) :
    (s.arrived c rest).acceptArrival r c p =
      ((s.acceptedBase c p rest r).enqueue .relay r (s.row r).sendMask).1.around (s.arrived c rest) := by
  have base : State.startDeadline { (s.arrived c rest).updRow r fun row => row.accept c p with
        attention := attentionAfter s.attention r
          ((s.row r).attentionMask &&& (if (s.row r).state = .stale then 0x03 else 0x01)) } r .freshness =
      (s.acceptedBase c p rest r).around (s.arrived c rest) := by
    have rows : (((s.arrived c rest).updRow r fun row => row.accept c p).updRow r fun row =>
        row.withDeadline .freshness (startedDeadline (row.deadlineLength .freshness))).rows =
        (s.acceptedBase c p rest r).rows := by
      rw [State.updRow_updRow]
      rfl
    rw [State.startDeadline_eq, State.withdraw_eq]
    exact congrArg (fun rows => { (s.acceptedBase c p rest r).around (s.arrived c rest) with rows := rows }) rows
  have request := congrArg Prod.fst
    (State.around_enqueue (s.acceptedBase c p rest r) (s.arrived c rest) r .relay (s.row r).sendMask)
  rw [← base, ← State.accepted_told] at request
  exact request

/-- Settles O46, by `State.accepted_started` and what an enqueue request leaves of a row. -/
theorem arrivalsAreAccepted : Obligations.ArrivalsAreAccepted := by
  intro s c p rest r ok queue next mem old consumed named serves fits ahead base m
  have judged : s.judgePublish c p = .accepted r :=
    (State.judgePublish_found ok mem consumed named).trans (judgeFor_accepted serves fits ahead)
  obtain ⟨table, served⟩ := s.arrival_frame c p rest (.accepted r)
  have applied : (s.arrived c rest).applyDisposition c p (.accepted r) = m.around (s.arrived c rest) :=
    s.accepted_started c p rest r
  have frame : EnqueueFrame r base m := base.enqueue_frame .relay r old.sendMask
  have restored : (m.row r).restored (base.row r) = base.row r := base.enqueue_restored .relay r old.sendMask
  obtain ⟨row, others⟩ := State.rows_of_updRow (u := base) (s := s) r (fun row => { row with
      state := .live, image := some p.payload, generation := old.generation + 1, sequence := p.sequence, age := 0
      sourceStation := some p.source, arrivalChannel := some c
      freshness := startedDeadline old.freshnessLimit.toNat }) rfl
  rw [row] at restored
  have run := State.exec_publishArrival queue next judged
  rw [applied] at run table served
  clear_value m
  refine ⟨_, run, table, served, ⟨rfl, rfl, rfl, fun e other => ?_⟩, ?_, fun q other => ?_, ?_⟩
  · rw [State.wakeAll_ch, State.ch_updCh_ne _ _ (Ne.symm other)]
    rfl
  · rw [State.wakeAll_ch, State.ch_updCh_self, ChannelEngine.decideReply_confirms _ p rfl]
    rfl
  · exact (frame.rows q other).trans (others q other)
  · exact ⟨(congrArg Row.state restored :), (congrArg Row.image restored :), (congrArg Row.generation restored :),
      (congrArg Row.sequence restored :), (congrArg Row.age restored :), (congrArg Row.sourceStation restored :),
      (congrArg Row.arrivalChannel restored :), (congrArg Row.freshness restored :)⟩

/-! ### RECALLs (R48, R49) -/

/-- The request of a RECALL taken for a row, or nothing (R48). -/
def State.recalls (s : State) (c : Channel) : Option RowId → State
  | some r => (s.enqueue .recallTelegram r (maskOf c)).1.record r .recalled
  | none => s

theorem State.exec_recallArrival {s : State} {c : Channel} {q : Recall} {rest : List Arrival}
    (queue : (s.ch c).arrivalQueue = .recall q :: rest) (next : s.nextServed = some (.rx c)) :
    exec (.recallArrival c) s = .next ((s.arrived c rest).recalls c (s.recallTaken c q)).wakeAll := by
  have run : exec (.recallArrival c) s = .next (s.transact (.rx c) fun s => s.recallTransaction c q) := by
    simp only [exec, execRecallArrival, queue]
  rw [run, State.transact_turn next, ← State.arrived_eq queue]
  have same : State.recallTaken { s with served := .rx c, turn := none } c q = s.recallTaken c q := rfl
  unfold State.recallTransaction
  rw [same]
  cases s.recallTaken c q <;> rfl

theorem State.recallTaken_none {s : State} {c : Channel} {q : Recall} (none : ∀ r, (q.topic, r) ∈ s.topicIndex →
    ¬ ((s.row r).role = .produced ∧ inMask (s.row r).sendMask c = true ∧ (s.row r).state = .live)) :
    s.recallTaken c q = .none := by
  unfold State.recallTaken
  cases found : s.lookup q.topic with
  | none => rfl
  | some r => exact if_neg (none r (State.mem_of_lookup found))

theorem State.recallTaken_some {s : State} {c : Channel} {q : Recall} {r : RowId} (ok : s.TopicsOk)
    (mem : (q.topic, r) ∈ s.topicIndex) (taken : (s.row r).role = .produced ∧
      inMask (s.row r).sendMask c = true ∧ (s.row r).state = .live) : s.recallTaken c q = some r := by
  unfold State.recallTaken
  rw [ok.lookup mem]
  exact if_pos taken

/-- Settles O47: one request on the channel and the reason RECALLED, or nothing but the arrival gone. -/
theorem recallsAreTaken : Obligations.RecallsAreTaken := by
  intro s c q rest ok queue next base taken
  have run := State.exec_recallArrival queue next
  have empty : TableOnly s (s.arrived c rest) := rfl
  by_cases found : ∃ r, (q.topic, r) ∈ s.topicIndex ∧ taken r
  · obtain ⟨r, mem, takes⟩ := found
    have only : ∀ r', (q.topic, r') ∈ s.topicIndex → r' = r := fun r' mem' =>
      Option.some.inj ((ok.lookup mem').symm.trans (ok.lookup mem))
    have some := State.recallTaken_some ok mem takes
    have asked : (s.arrived c rest).enqueue .recallTelegram r (maskOf c) =
        ((base.enqueue .recallTelegram r (maskOf c)).1.around (s.arrived c rest),
          (base.enqueue .recallTelegram r (maskOf c)).2) :=
      State.around_enqueue base (s.arrived c rest) r .recallTelegram (maskOf c)
    have frame := base.enqueue_frame .recallTelegram r (maskOf c)
    have restored := base.enqueue_restored .recallTelegram r (maskOf c)
    rw [some] at run
    have run : exec (.recallArrival c) s = .next (((s.arrived c rest).enqueue .recallTelegram r
        (maskOf c)).1.record r .recalled).wakeAll := run
    rw [asked, State.record_eq, State.around_row] at run
    have table : TableOnly s (base.enqueue .recallTelegram r (maskOf c)).1 :=
      TableOnly.trans (t := base) rfl frame.tableOnly
    have around := table.around (x := s.arrived c rest) rfl rfl
    refine ⟨_, run, around, ⟨rfl, rfl⟩, fun none => absurd takes (none r mem), fun r' mem' _ => ?_⟩
    obtain rfl := only r' mem'
    intro m
    have mask : (m.row r').attentionMask = (s.row r').attentionMask := (congrArg Row.attentionMask restored :)
    have attention := congrArg (fun k : ReasonSet => attentionAfter m.attention r' (k &&& 0x80)) mask
    exact ⟨rfl, rfl, rfl, attention, (congrArg Row.image restored :), (congrArg Row.generation restored :),
      fun q other => frame.rows q other⟩
  · have none : ∀ r, (q.topic, r) ∈ s.topicIndex → ¬ taken r := fun r mem takes => found ⟨r, mem, takes⟩
    rw [State.recallTaken_none none] at run
    have run : exec (.recallArrival c) s = .next (s.arrived c rest).wakeAll := run
    exact ⟨_, run, empty, ⟨rfl, rfl⟩, fun _ => ⟨rfl, rfl, rfl, rfl⟩, fun r mem takes => absurd takes (none r mem)⟩

end Sys2Proof.Machine
end

section
/-! PROOFS. An attempt start (O49; R53, R63 to R65, R148 to R151): the head of the lowest class that is not empty, or a
visit that goes on. -/

namespace Sys2Proof.Machine

set_option Elab.async false

namespace ChannelEngine

variable {ce : ChannelEngine}

/-! ### Visits that a wake leaves alone -/

/-- A wake finds nothing to do: the visit is used, or there is no row pending and no station listed. -/
def Rested (ce : ChannelEngine) : Prop := ce.visitUnused = false ∨ (ce.pendingCount = 0 ∧ ce.stationList = [])

theorem Rested.wake (h : ce.Rested) : ce.wake = ce :=
  h.elim wake_of_used fun ⟨count, list⟩ => wake_of_none count list

theorem visitUnused_of_other (other : ce.state ≠ .holding) : ce.visitUnused = false := by
  unfold visitUnused
  split
  · exact absurd ‹_› other
  · rfl

theorem visitUnused_of_inFlight (flight : ce.inFlight ≠ none) : ce.visitUnused = false := by
  unfold visitUnused
  split
  · simp [Option.isNone_eq_false_iff.mpr (Option.isSome_iff_ne_none.mpr flight)]
  · rfl

theorem visitUnused_callStation (ce : ChannelEngine) (g : Nat) : (ce.callStation g).visitUnused = false := by
  unfold visitUnused
  split
  case h_2 => rfl
  case h_1 v _ visit =>
    obtain ⟨x, _, rfl⟩ := Option.map_eq_some_iff.mp (show ce.visit.map _ = some v from visit)
    rfl

theorem mem_attemptRequested (ce : ChannelEngine) : SendRequest.attemptStart ∈ ce.attemptRequested := by
  unfold attemptRequested
  split
  · assumption
  · simp

theorem rested_visitAlone (alone : ce.stationList = []) : ce.visitAlone.Rested := by
  by_cases owed : ce.inFlight ≠ none ∨ .removal ∈ ce.requests
  · rw [visitAlone_owed owed]
    exact .inl (visitUnused_eq_false (ce := ce.visits) rfl (owed.imp id .inl))
  · obtain ⟨flight, removal⟩ := not_or.mp owed
    have flight : ce.inFlight = none := not_not.mp flight
    by_cases nothing : ce.pendingCount = 0
    · have same := ce.visits.joinStep_eq
      rcases step : ce.visits.joinStep with ⟨v, _ | g⟩
      · rw [step] at same
        rw [visitAlone_uncalled flight removal nothing step]
        exact .inr ⟨(congrArg ChannelEngine.pendingCount same :).trans nothing,
          (congrArg ChannelEngine.stationList same :).trans alone⟩
      · rw [visitAlone_called flight removal nothing step]
        exact .inl (visitUnused_callStation v g)
    · rw [visitAlone_pending flight removal nothing]
      exact .inl (visitUnused_eq_false rfl (.inr (.inr (.inl ce.mem_attemptRequested))))

theorem rested_passOn : ce.passOn.Rested := by
  cases found : successorOf ce.own.toNat ce.stationList with
  | none =>
    rw [passOn_alone (successorOf_eq_none.mp found)]
    exact rested_visitAlone (successorOf_eq_none.mp found)
  | some t =>
    have passes : ce.passOn = ce.startPass t := by rw [passOn, found]
    rw [passes]
    exact .inl (visitUnused_of_other nofun)

theorem rested_afterAttempts : ce.afterAttempts.Rested := by
  rcases step : ce.joinStep with ⟨v, _ | g⟩
  · rw [afterAttempts_none step]
    exact rested_passOn
  · rw [afterAttempts_some step]
    exact .inl (visitUnused_callStation v g)

theorem Rested.begin (h : ce.Rested) : ce.begin.Rested := by
  obtain e | ⟨_, _, _, _, e⟩ := ce.begin_cases <;> rw [e]
  · exact h
  · exact h

/-! ### The row an attempt start takes (R63) -/

theorem firstPending_of_get {k : Fin 4} {r : RowId} {tail : List RowId} (head : ce.lists.get k = r :: tail)
    (lower : ∀ j, j < k → ce.lists.get j = []) : ce.firstPending = some (k, r) := by
  unfold firstPending
  match k, head, lower with
  | 0, head, _ =>
    have h0 : ce.lists.q0 = r :: tail := head
    rw [h0]
  | 1, head, lower =>
    have h0 : ce.lists.q0 = [] := lower 0 (by decide)
    have h1 : ce.lists.q1 = r :: tail := head
    rw [h0, h1]
  | 2, head, lower =>
    have h0 : ce.lists.q0 = [] := lower 0 (by decide)
    have h1 : ce.lists.q1 = [] := lower 1 (by decide)
    have h2 : ce.lists.q2 = r :: tail := head
    rw [h0, h1, h2]
  | 3, head, lower =>
    have h0 : ce.lists.q0 = [] := lower 0 (by decide)
    have h1 : ce.lists.q1 = [] := lower 1 (by decide)
    have h2 : ce.lists.q2 = [] := lower 2 (by decide)
    have h3 : ce.lists.q3 = r :: tail := head
    rw [h0, h1, h2, h3]

theorem firstPending_none (empty : ∀ k, ce.lists.get k = []) : ce.firstPending = none := by
  have h0 : ce.lists.q0 = [] := empty 0
  have h1 : ce.lists.q1 = [] := empty 1
  have h2 : ce.lists.q2 = [] := empty 2
  have h3 : ce.lists.q3 = [] := empty 3
  rw [firstPending, h0, h1, h2, h3]

theorem nothingStarted_other (other : ce.state ≠ .holding) : ce.nothingStarted = ce := by
  unfold nothingStarted
  split
  · exact absurd ‹_› other
  · rfl

theorem nothingStarted_goesOn {v : Visit} (holding : ce.state = .holding) (visit : ce.visit = some v)
    (step : v.step = .attempts) (flight : ce.inFlight = none) (removal : .removal ∉ ce.requests) :
    ce.nothingStarted = ce.afterAttempts.begin := by
  simp only [nothingStarted, holding, visit]
  refine if_neg ?_
  rintro (h | h | h)
  · exact h step
  · exact Option.isSome_iff_ne_none.mp h flight
  · exact removal (removalWaits_iff.mp h)

theorem startAttempt_eq {k : Fin 4} {r : RowId} {tail : List RowId} {v : Visit} (head : ce.lists.get k = r :: tail)
    (visit : ce.visit = some v) (f : InFlight) : ce.startAttempt k f =
      ({ ce with lists := ce.lists.set k tail, inFlight := some f
                 visit := some { v with count := v.count + 1 } } : ChannelEngine).readied
        { job := .attempt, telegram := attemptTelegram ce.own f } := by
  rw [← begin_waiting, startAttempt, head, visit]
  rfl

theorem readied_inFlight (ce : ChannelEngine) (x : Transmission) : (ce.readied x).inFlight = ce.inFlight := by
  unfold readied
  split <;> rfl

end ChannelEngine

/-! ### The transaction -/

/-- The state in which a send-side transaction works: its request taken off the channel. -/
def State.sendTaken (s : State) (c : Channel) (rest : List SendRequest) : State :=
  { s.updCh c (fun ce => { ce with requests := rest }) with served := .tx c, turn := none }

theorem State.sendTaken_ch_self (s : State) (c : Channel) (rest : List SendRequest) :
    (s.sendTaken c rest).ch c = { s.ch c with requests := rest } :=
  State.ch_updCh_self s c fun ce => { ce with requests := rest }

theorem State.sendTaken_ch_ne (s : State) {c e : Channel} (rest : List SendRequest) (other : e ≠ c) :
    (s.sendTaken c rest).ch e = s.ch e :=
  State.ch_updCh_ne s (fun ce => { ce with requests := rest }) (Ne.symm other)

theorem State.sendTaken_eq {s : State} {c : Channel} {q : SendRequest} {rest : List SendRequest}
    (requests : (s.ch c).requests = q :: rest) :
    ({ s with served := .tx c, turn := none } : State).updCh c ChannelEngine.popRequest = s.sendTaken c rest := by
  have popped : (s.ch c).popRequest = { s.ch c with requests := rest } := by
    rw [ChannelEngine.popRequest, requests]
    rfl
  exact congrArg (fun ce => ({ s with
    channels := s.channels.set c ce, served := .tx c, turn := none } : State)) popped

/-- What the transaction does on a channel where nothing may start. -/
theorem State.attemptStart_nothing {s : State} {c : Channel} {rest : List SendRequest}
    (requests : (s.ch c).requests = .attemptStart :: rest) (next : s.nextServed = some (.tx c))
    (nothing : ({ s.ch c with requests := rest } : ChannelEngine).mayAttempt = false ∨
      ({ s.ch c with requests := rest } : ChannelEngine).firstPending = none) :
    exec (.attemptStart c) s = .next ((s.sendTaken c rest).updCh c ChannelEngine.nothingStarted).wakeAll := by
  have run : exec (.attemptStart c) s = .next (s.transact (.tx c) fun s => s.attemptStartTransaction c) := by
    simp only [exec, execAttemptStart, requests]
  rw [run, State.transact_turn next]
  refine congrArg (fun u : State => Host.Outcome.next u.wakeAll) ?_
  unfold State.attemptStartTransaction
  rw [State.sendTaken_eq requests]
  dsimp only
  rw [State.sendTaken_ch_self]
  obtain barred | empty := nothing
  · rw [barred]
    rfl
  · rw [empty]
    exact ite_self _

/-- What the transaction does where an attempt starts. -/
theorem State.attemptStart_starts {s : State} {c : Channel} {rest : List SendRequest}
    (requests : (s.ch c).requests = .attemptStart :: rest) (next : s.nextServed = some (.tx c))
    (may : ({ s.ch c with requests := rest } : ChannelEngine).mayAttempt = true) {k : Fin 4} {r : RowId}
    (first : ({ s.ch c with requests := rest } : ChannelEngine).firstPending = some (k, r)) :
    exec (.attemptStart c) s = .next (((s.sendTaken c rest).updRow r fun row => row.updSide c fun d =>
      { d with sendState := .inFlight, attemptCount := d.attemptCount + 1 }).updCh c fun ce =>
        ce.startAttempt k (snapshot (s.row r) r c)).wakeAll := by
  have run : exec (.attemptStart c) s = .next (s.transact (.tx c) fun s => s.attemptStartTransaction c) := by
    simp only [exec, execAttemptStart, requests]
  rw [run, State.transact_turn next]
  refine congrArg (fun u : State => Host.Outcome.next u.wakeAll) ?_
  unfold State.attemptStartTransaction
  rw [State.sendTaken_eq requests]
  dsimp only
  rw [State.sendTaken_ch_self, may, first]
  rfl

theorem snapshot_recall {row : Row} {c : Channel} (recalls : row.role = .consumed ∧ inMask row.sourceMask c = true)
    (r : RowId) : snapshot row r c =
      { row := r, kind := .recall, payload := none, sequence := none, confirm := 0, cls := row.cls
        topic := row.topic.getD 0, phase := .onLine } := by
  have kind : row.entryKind c = .recall := if_pos (by simp [recalls.1, recalls.2])
  rw [snapshot, kind]

theorem snapshot_publish {row : Row} {c : Channel} (publishes : ¬
    (row.role = .consumed ∧ inMask row.sourceMask c = true))
    (r : RowId) : snapshot row r c =
      { row := r, kind := .publish, payload := row.image, sequence := some row.sequence, confirm := row.confirmStation
        cls := row.cls, topic := row.topic.getD 0, phase := .onLine } := by
  have kind : row.entryKind c = .publish := if_neg (by simpa using publishes)
  rw [snapshot, kind]

/-- Settles O49: `State.attemptStart_starts`, or `State.attemptStart_nothing` where no attempt may start. -/
theorem attemptsStartFromTheLowestClass : Obligations.AttemptsStartFromTheLowestClass := by
  intro s c rest requests next removal
  have others (f : ChannelEngine → ChannelEngine) (m : State) (ch : ∀ e, m.ch e = (s.sendTaken c rest).ch e) :
      ∀ e, e ≠ c → (m.updCh c f).wakeAll.ch e = (s.ch e).wake := fun e other => by
    rw [State.wakeAll_ch, State.ch_updCh_ne m f (Ne.symm other), ch, s.sendTaken_ch_ne rest other]
  by_cases starts : ({ s.ch c with requests := rest } : ChannelEngine).mayAttempt = true ∧
      ({ s.ch c with requests := rest } : ChannelEngine).firstPending ≠ none
  · obtain ⟨may, some⟩ := starts
    obtain ⟨⟨k, r⟩, first⟩ := Option.ne_none_iff_exists'.mp some
    obtain ⟨holding, flight, free, v, visit, step, budget⟩ := ChannelEngine.mayAttempt_iff.mp may
    refine ⟨_, State.attemptStart_starts requests next may first, rfl, ⟨rfl, rfl⟩, rfl, rfl, others _ _ (fun _ => rfl),
      fun out => absurd holding out, fun v' _ found _ _ => ⟨fun spent => ?_, fun k' r' tail budget' head lower => ?_⟩⟩
    all_goals obtain rfl := Option.some.inj ((show (s.ch c).visit = _ from visit).symm.trans found)
    · obtain spentAll | empty := spent
      · exact absurd budget (Nat.not_lt.mpr spentAll)
      · have nothing := ChannelEngine.firstPending_none (ce := { s.ch c with requests := rest }) empty
        exact absurd nothing some
    · have lowest := ChannelEngine.firstPending_of_get (ce := { s.ch c with requests := rest }) head lower
      have same := Option.some.inj (first.symm.trans lowest)
      obtain ⟨rfl, rfl⟩ := Prod.mk.inj same
      intro old recalls f telegram
      have taken : snapshot old r c = f ∧ attemptTelegram (s.ch c).own (snapshot old r c) = telegram := by
        by_cases named : recalls
        · rw [snapshot_recall named]
          exact ⟨by simp only [f, if_pos named], by simp only [telegram, if_pos named]; rfl⟩
        · rw [snapshot_publish named]
          exact ⟨by simp only [f, if_neg named], by simp only [telegram, if_neg named]; rfl⟩
      refine ⟨?_, fun q other => ?_, ?_⟩
      · rw [State.wakeAll_row, State.row_updCh, State.row_updRow_self]
        rfl
      · rw [State.wakeAll_row, State.row_updCh, State.row_updRow_ne _ _ (Ne.symm other)]
        rfl
      · rw [State.wakeAll_ch, State.ch_updCh_self]
        have started := ChannelEngine.startAttempt_eq (ce := { s.ch c with requests := rest }) head visit
          (snapshot old r c)
        have engine : ((s.sendTaken c rest).updRow r fun row => row.updSide c fun d =>
            { d with sendState := .inFlight, attemptCount := d.attemptCount + 1 }).ch c =
            { s.ch c with requests := rest } := s.sendTaken_ch_self c rest
        rw [engine, started, taken.1]
        refine (ChannelEngine.wake_of_used (ChannelEngine.visitUnused_of_inFlight ?_)).trans ?_
        · rw [ChannelEngine.readied_inFlight]
          exact Option.some_ne_none f
        · rw [← taken.2, taken.1]
          rfl
  · have nothing : ({ s.ch c with requests := rest } : ChannelEngine).mayAttempt = false ∨
        ({ s.ch c with requests := rest } : ChannelEngine).firstPending = none := by
      by_cases may : ({ s.ch c with requests := rest } : ChannelEngine).mayAttempt = true
      · exact .inr (not_not.mp fun some => starts ⟨may, some⟩)
      · exact .inl (Bool.not_eq_true _ ▸ may)
    have engine : (((s.sendTaken c rest).updCh c ChannelEngine.nothingStarted).wakeAll).ch c =
        ({ s.ch c with requests := rest } : ChannelEngine).nothingStarted.wake := by
      rw [State.wakeAll_ch, State.ch_updCh_self, State.sendTaken_ch_self]
    refine ⟨_, State.attemptStart_nothing requests next nothing, rfl, ⟨rfl, rfl⟩, rfl, rfl, others _ _ (fun _ => rfl),
      fun out => ⟨rfl, ?_⟩, fun v holding visit step flight => ⟨fun _ => ⟨rfl, fun asc _ => ?_⟩,
        fun k r tail budget head lower => ?_⟩⟩
    · rw [engine, ChannelEngine.nothingStarted_other (ce := { s.ch c with requests := rest }) out]
      exact ChannelEngine.wake_of_other (ce := { s.ch c with requests := rest }) out
    · rw [engine, ChannelEngine.nothingStarted_goesOn (ce := { s.ch c with requests := rest }) holding visit step
        flight removal, (ChannelEngine.rested_afterAttempts.begin).wake]
      exact (ChannelEngine.afterAttempts_goesOn (ce := { s.ch c with requests := rest }) asc).begin
    · refine absurd ⟨?_, ?_⟩ starts
      · refine ChannelEngine.mayAttempt_iff.mpr ⟨holding, flight, ?_, v, visit, step, budget⟩
        exact Bool.eq_false_iff.mpr fun waits => removal (ChannelEngine.removalWaits_iff.mp waits)
      · rw [ChannelEngine.firstPending_of_get (ce := { s.ch c with requests := rest }) head lower]
        exact Option.some_ne_none _

end Sys2Proof.Machine
end

section
/-! PROOFS. What the end of an attempt leaves, before the rules of each outcome (R68 to R75, R154, R162): the command
that awaits it, the row's end, the freeing of a RETIRING row, and what the token logic keeps of its channel. -/

namespace Sys2Proof.Machine

set_option Elab.async false

/-! ### The command that awaits an attempt (R75, R162) -/

theorem reportOf_eq (isCancel : Bool) (o : AttemptOutcome) : reportOf isCancel o = waitReport isCancel o := by
  cases o <;> rfl

theorem inMask_zero (c : Channel) : inMask 0 c = false := BitVec.getLsbD_zero

theorem inMask_maskErase_ne (m : ChannelMask) (c e : Channel) :
    inMask (maskErase m c) e = (inMask m e && decide (e ≠ c)) := by
  rw [inMask_maskErase, decide_not]

theorem maskErase_eq_zero {m : ChannelMask} {c : Channel} : maskErase m c = 0 ↔ ∀ e, e ≠ c → inMask m e = false := by
  constructor
  · intro zero e other
    have none : inMask (maskErase m c) e = false := by rw [zero, inMask_zero]
    simpa [inMask_maskErase, other] using none
  · intro none
    refine eq_zero_of_inMask fun e => ?_
    rw [inMask_maskErase]
    by_cases own : e = c
    · simp [own]
    · simp [none e own]

/-- What the awaiting command is told, seen by the command unit alone. -/
theorem State.report_tells {s t u : State} {r : RowId} {c : Channel} {o : AttemptOutcome} (unit : t.cu = s.cu)
    (told : u.cu = (t.report r c o).cu) : CommandTold s u r c o := by
  unfold State.report at told
  rw [unit] at told
  refine ⟨fun w waits own awaited => ?_, fun other => ?_⟩
  · simp only [waits, own, awaited, and_self, if_true, reportOf_eq] at told
    refine ⟨fun last => ?_, fun more => ?_⟩
    · rw [if_pos (maskErase_eq_zero.mpr last), outcomeWords_eq] at told
      have ends := Finishes.of_finish t (rowByte_toNat r) (0 :: outcomePair (w.outcomes.set c
        (waitReport w.isCancel o)).get)
      unfold Finishes at ends ⊢
      rw [told]
      exact ends
    · have some : maskErase w.awaited c ≠ 0 := by
        intro zero
        obtain ⟨e, ne, mem⟩ := more
        rw [maskErase_eq_zero.mp zero e ne] at mem
        exact absurd mem nofun
      rw [if_neg some] at told
      refine ⟨?_, _, by rw [told], by rw [own], inMask_maskErase_ne w.awaited c⟩
      rw [told]
  · cases waits : s.cu.wait with
    | none => rw [told, waits]; exact unit
    | some w =>
      have out : ¬ (w.row = r ∧ inMask w.awaited c = true) := by
        rintro ⟨own, awaited⟩
        obtain ne | free := other w waits
        · exact ne own
        · rw [awaited] at free
          exact absurd free nofun
      simp only [waits, if_neg out] at told
      exact told.trans unit

/-! ### The end of a send (R69 to R74) -/

theorem resultOf_eq (o : AttemptOutcome) (cancel : Bool) : resultOf o cancel = endResult o cancel := by
  cases o <;> rfl

/-- An outcome that counts as a failed attempt (R71). -/
def failsSend (o : AttemptOutcome) (cancel : Bool) : Bool := (o = .noConfirm || o = .lineError) && !cancel

theorem failsSend_iff {o : AttemptOutcome} {cancel : Bool} :
    failsSend o cancel = true ↔ (o = .noConfirm ∨ o = .lineError) ∧ cancel = false := by
  simp [failsSend]

theorem State.recordEnd_eq (s : State) (r : RowId) (c : Channel) (o : AttemptOutcome) (cancel : Bool) :
    s.recordEnd r c o cancel = { s.updCh c (fun ce => if failsSend o cancel then ce.countFailedAttempt else ce) with
      attention := attentionAfter s.attention r ((s.row r).attentionMask &&& endReason o cancel) } := by
  have still (h : failsSend o cancel = false) :
      s.updCh c (fun ce => if failsSend o cancel then ce.countFailedAttempt else ce) = s :=
    State.updCh_same (by rw [h]; rfl)
  have quiet (h : failsSend o cancel = false) (none : endReason o cancel = 0) :
      s = { s.updCh c (fun ce => if failsSend o cancel then ce.countFailedAttempt else ce) with
        attention := attentionAfter s.attention r ((s.row r).attentionMask &&& endReason o cancel) } := by
    rw [still h, none, attentionAfter_none]
  have told (h : failsSend o cancel = false) (q : Reason) (reason : endReason o cancel = q.bit) :
      s.record r q = { s.updCh c (fun ce => if failsSend o cancel then ce.countFailedAttempt else ce) with
        attention := attentionAfter s.attention r ((s.row r).attentionMask &&& endReason o cancel) } := by
    rw [still h, reason, State.record_eq]
  have failed (h : failsSend o cancel = true) (reason : endReason o cancel = Reason.sendFailed.bit) :
      (s.record r .sendFailed).updCh c ChannelEngine.countFailedAttempt =
        { s.updCh c (fun ce => if failsSend o cancel then ce.countFailedAttempt else ce) with
          attention := attentionAfter s.attention r ((s.row r).attentionMask &&& endReason o cancel) } := by
    rw [h, reason, State.record_eq]
    rfl
  cases o with
  | sent => exact told rfl .sendDone rfl
  | confirmed => exact told rfl .sendDone rfl
  | noConfirm =>
    cases cancel
    · exact failed rfl rfl
    · exact quiet rfl rfl
  | lineError =>
    cases cancel
    · exact failed rfl rfl
    · exact quiet rfl rfl
  | aborted => exact quiet rfl rfl

theorem retried_iff {o : AttemptOutcome} {row : Row} {d : Side} {limit : Nat} : retried o row d limit = true ↔
    (o = .noConfirm ∨ o = .lineError) ∧ d.attemptCount ≤ limit ∧ d.cancelRequested = false ∧ row.serves := by
  rw [retried, ← Row.inService_iff]
  simp [and_assoc]

/-! ### A RETIRING row in flight nowhere (R24, R75) -/

theorem State.drainRetiring_of_not {s : State} {r : RowId}
    (stays : (s.row r).state ≠ .retiring ∨ ∃ e, (s.row r).sendStateOn e = .inFlight) : s.drainRetiring r = s := by
  refine if_neg ?_
  rintro ⟨retiring, nowhere⟩
  obtain other | flying := stays
  · exact other retiring
  · exact nowhere ((inFlightAnywhere_iff _).mpr flying)

theorem State.drainRetiring_frees {s : State} {r : RowId} (retiring : (s.row r).state = .retiring)
    (nowhere : ∀ e, (s.row r).sendStateOn e ≠ .inFlight) : s.drainRetiring r = s.freeRow r := by
  refine if_pos ⟨retiring, fun flying => ?_⟩
  obtain ⟨e, on⟩ := (inFlightAnywhere_iff _).mp flying
  exact nowhere e on

/-- The entry a row has made is gone with its others. -/
theorem attentionAfter_freed (l : List AttentionEntry) (r : RowId) (m : ReasonSet) :
    ((attentionAfter l r m).filter fun e => e.row ≠ r) = l.filter fun e => e.row ≠ r := by
  unfold attentionAfter
  split
  · rfl
  · split
    · rw [List.filter_map]
      refine (List.map_congr_left fun e mem => ?_).trans (List.map_id _)
      have other : e.row ≠ r := by simpa using (List.mem_filter.mp mem).2
      simp [other]
    · simp

/-! ### An enqueue request on a channel engine -/

theorem State.enqueueOn_engine (s : State) (src : Source) (r : RowId) (gap : Bool) (c e : Channel) :
    { (s.enqueueOn src r gap c).1.ch e with lists := (s.ch e).lists, counters := (s.ch e).counters } = s.ch e := by
  have upd (t : State) (f : ChannelEngine → ChannelEngine) (same : ∀ e, t.ch e = s.ch e)
      (keeps : ∀ ce, { f ce with lists := ce.lists, counters := ce.counters } = ce) :
      { (t.updCh c f).ch e with lists := (s.ch e).lists, counters := (s.ch e).counters } = s.ch e := by
    by_cases own : c = e
    · subst own
      rw [State.ch_updCh_self, same]
      exact keeps _
    · rw [State.ch_updCh_ne _ _ own, same]
  unfold State.enqueueOn
  split
  · rfl
  · split
    · rfl
    · split
      · rfl
      · rfl
      · split <;> rfl
      · split
        · rfl
        · split
          · exact upd _ _ (fun e => State.record_ch _ _ _ e) fun _ => rfl
          · exact upd _ _ (fun _ => rfl) fun _ => rfl

theorem State.enqueue_engine (s : State) (src : Source) (r : RowId) (mask : ChannelMask) (e : Channel) :
    { (s.enqueue src r mask).1.ch e with lists := (s.ch e).lists, counters := (s.ch e).counters } = s.ch e := by
  have folded (gap : Bool) (l : List Channel) (a : State × Quad ChannelOutcome)
      (like : { a.1.ch e with lists := (s.ch e).lists, counters := (s.ch e).counters } = s.ch e) :
      { (l.foldl (State.enqueueNext src r gap mask) a).1.ch e with
        lists := (s.ch e).lists, counters := (s.ch e).counters } = s.ch e := by
    induction l generalizing a with
    | nil => exact like
    | cons c l ih =>
      refine ih _ ?_
      unfold State.enqueueNext
      split
      · have one := a.1.enqueueOn_engine src r gap c e
        rw [← one] at like
        exact like
      · exact like
  unfold State.enqueue
  split
  · dsimp only
    split
    · have after (t : State) : (t.afterQueuing r).ch e = t.ch e := by
        unfold State.afterQueuing
        dsimp only
        split <;> split <;> rfl
      rw [after]
      exact folded _ _ _ rfl
    · exact folded _ _ _ rfl
  · rfl

theorem State.enqueue_refused {s : State} {r : RowId} (refused : ¬ (s.row r).serves) (src : Source)
    (mask : ChannelMask) : (s.enqueue src r mask).1 = s := by
  obtain ⟨u, o, made, same, -⟩ := enqueueFollowsTheTable s src r mask
  rw [made]
  exact (same refused).1

/-! ### What the token logic keeps of its channel -/

namespace ChannelEngine

variable {ce : ChannelEngine}

/-- The parts of a channel engine that visits and passes leave alone. -/
def core (ce : ChannelEngine) : Nat × Quad (List RowId) × Counters × BitVec 9 × Option InFlight :=
  (ce.errorRun, ce.lists, ce.counters, ce.event, ce.inFlight)

theorem begin_core (ce : ChannelEngine) : ce.begin.core = ce.core := by
  obtain e | ⟨_, _, _, _, e⟩ := ce.begin_cases <;> rw [e]
  rfl

theorem requestAttempt_core (ce : ChannelEngine) : ce.requestAttempt.core = ce.core := by
  rw [requestAttempt_eq]
  rfl

theorem joinStep_core (ce : ChannelEngine) : ce.joinStep.1.core = ce.core := (congrArg core ce.joinStep_eq :)

theorem visitAlone_core (ce : ChannelEngine) : ce.visitAlone.core = ce.core := by
  by_cases owed : ce.inFlight ≠ none ∨ .removal ∈ ce.requests
  · rw [visitAlone_owed owed]
    rfl
  · obtain ⟨flight, removal⟩ := not_or.mp owed
    have flight : ce.inFlight = none := not_not.mp flight
    by_cases nothing : ce.pendingCount = 0
    · have same := ce.visits.joinStep_core
      rcases step : ce.visits.joinStep with ⟨v, _ | g⟩
      all_goals rw [step] at same
      · rw [visitAlone_uncalled flight removal nothing step]
        exact same
      · rw [visitAlone_called flight removal nothing step]
        exact same
    · rw [visitAlone_pending flight removal nothing]
      rfl

theorem passOn_core (ce : ChannelEngine) : ce.passOn.core = ce.core := by
  unfold passOn
  split
  · rfl
  · exact ce.visitAlone_core

theorem afterAttempts_core (ce : ChannelEngine) : ce.afterAttempts.core = ce.core := by
  have same := ce.joinStep_core
  rcases step : ce.joinStep with ⟨v, _ | g⟩
  all_goals rw [step] at same
  · rw [afterAttempts_none step, passOn_core]
    exact same
  · rw [afterAttempts_some step]
    exact same

theorem runAttempts_core (ce : ChannelEngine) : ce.runAttempts.core = ce.core := by
  unfold runAttempts
  split
  · split
    · rfl
    · split
      · exact ce.requestAttempt_core
      · exact ce.afterAttempts_core
  · rfl

theorem wake_core (ce : ChannelEngine) : ce.wake.core = ce.core := by
  obtain e | ⟨_, _, e⟩ := ce.wake_cases <;> rw [e]
  rw [begin_core, runAttempts_core]

theorem runAttempts_other (other : ce.state ≠ .holding) : ce.runAttempts = ce := by
  unfold runAttempts
  split
  · exact absurd ‹_› other
  · rfl

/-- The visit goes on after an attempt: its next attempt start, or its end. -/
theorem runAttempts_goesOn {v : Visit} (holding : ce.state = .holding) (visit : ce.visit = some v)
    (step : v.step = .attempts) (flight : ce.inFlight = none) (removal : .removal ∉ ce.requests)
    (quiet : ce.waiting = none) (asc : ce.stationList.Pairwise (fun a b => a < b)) :
    (v.count < ce.visitBudget → ce.pendingCount ≠ 0 →
      ce.runAttempts.begin.wake = { ce with requests := ce.attemptRequested }) ∧
    (ce.visitBudget ≤ v.count ∨ ce.pendingCount = 0 → VisitGoesOn ce ce.runAttempts.begin.wake) := by
  have runs := runAttempts_free holding visit step flight removal
  refine ⟨fun budget pending => ?_, fun spent => ?_⟩
  · rw [runs, if_pos ⟨budget, pending⟩]
    have still : ({ ce with requests := ce.attemptRequested } : ChannelEngine).begin =
        { ce with requests := ce.attemptRequested } := begin_of_quiet quiet
    rw [still]
    exact wake_of_used (visitUnused_eq_false (ce := { ce with requests := ce.attemptRequested }) visit
      (.inr (.inr (.inl ce.mem_attemptRequested))))
  · rw [runs, if_neg, rested_afterAttempts.begin.wake]
    · exact (afterAttempts_goesOn asc).begin
    · rintro ⟨budget, pending⟩
      exact spent.elim (Nat.not_le.mpr budget) pending

end ChannelEngine

end Sys2Proof.Machine
end

section
/-! PROOFS. The outcome transaction (O51; R53, R68 to R75, R148 to R151, R154, R162). -/

namespace Sys2Proof.Machine

set_option Elab.async false

/-! ### The outcome and the token logic (R148, R154) -/

namespace ChannelEngine

variable {ce : ChannelEngine}

/-- A channel engine with the error run as an outcome leaves it, SILENT at the limit. -/
def withOutcome (ce : ChannelEngine) : AttemptOutcome → ChannelEngine
  | .lineError => ce.raiseErrorRun
  | .sent => { ce with errorRun := 0 }
  | .confirmed => { ce with errorRun := 0 }
  | .noConfirm => ce
  | .aborted => ce

/-- The error run after an outcome (R154). -/
def runAfter (n : Nat) : AttemptOutcome → Nat
  | .lineError => min 31 (n + 1)
  | .sent => 0
  | .confirmed => 0
  | .noConfirm => n
  | .aborted => n

theorem afterOutcome_eq (ce : ChannelEngine) (o : AttemptOutcome) :
    ce.afterOutcome o = (ce.withOutcome o).runAttempts.begin := by
  cases o <;> rfl

theorem attemptEnds_none (flight : ce.inFlight = none) (o : AttemptOutcome) : ce.attemptEnds o = ce := by
  rw [attemptEnds, flight]

theorem fellSilent_eq (flight : ce.inFlight = none) : ce.fellSilent = { ce.gaveUp with
    state := .silent, event := ce.event ||| 0x010, replyQueue := [], silenceTimer := none
    recovery := if ce.autoRecover then some (10 * ce.recoveryUnits + 1) else none } := by
  rw [fellSilent, attemptEnds_none flight]

theorem raiseErrorRun_cases (ce : ChannelEngine) :
    ce.raiseErrorRun = ({ ce with errorRun := min 31 (ce.errorRun + 1) } : ChannelEngine).fellSilent ∨
      (ce.raiseErrorRun = { ce with errorRun := min 31 (ce.errorRun + 1) } ∧
        (ce.errorRunLimit ≤ min 31 (ce.errorRun + 1) → ce.canFallSilent = false)) := by
  by_cases falls : ce.canFallSilent = true
  · by_cases limit : ce.errorRunLimit ≤ min 31 (ce.errorRun + 1)
    · exact .inl (raiseErrorRun_limit falls limit)
    · exact .inr ⟨raiseErrorRun_below (Nat.not_le.mp limit), fun h => absurd h limit⟩
  · have stays : ce.canFallSilent = false := Bool.eq_false_iff.mpr falls
    exact .inr ⟨if_neg fun h => falls (Bool.and_eq_true_iff.mp h).2, fun _ => stays⟩

/-- With no attempt in flight an outcome leaves the lists and the counters, and the error run of R154. -/
theorem withOutcome_keeps (flight : ce.inFlight = none) (o : AttemptOutcome) :
    (ce.withOutcome o).lists = ce.lists ∧ (ce.withOutcome o).counters = ce.counters ∧
      (ce.withOutcome o).inFlight = none ∧ (ce.withOutcome o).errorRun = runAfter ce.errorRun o := by
  cases o with
  | sent => exact ⟨rfl, rfl, flight, rfl⟩
  | confirmed => exact ⟨rfl, rfl, flight, rfl⟩
  | noConfirm => exact ⟨rfl, rfl, flight, rfl⟩
  | aborted => exact ⟨rfl, rfl, flight, rfl⟩
  | lineError =>
    show ce.raiseErrorRun.lists = _ ∧ ce.raiseErrorRun.counters = _ ∧ ce.raiseErrorRun.inFlight = _ ∧
      ce.raiseErrorRun.errorRun = _
    obtain e | ⟨e, _⟩ := ce.raiseErrorRun_cases
    · rw [e, fellSilent_eq (ce := { ce with errorRun := min 31 (ce.errorRun + 1) }) flight]
      exact ⟨rfl, rfl, flight, rfl⟩
    · rw [e]
      exact ⟨rfl, rfl, flight, rfl⟩

/-- Below the limit an outcome changes nothing but the error run. -/
theorem withOutcome_below (o : AttemptOutcome)
    (below : o = .lineError → min 31 (ce.errorRun + 1) < ce.errorRunLimit) :
    ce.withOutcome o = { ce with errorRun := runAfter ce.errorRun o } := by
  cases o with
  | lineError => exact raiseErrorRun_below (below rfl)
  | sent => rfl
  | confirmed => rfl
  | noConfirm => rfl
  | aborted => rfl

/-- At the limit a LINE_ERROR leaves the channel SILENT. -/
theorem raiseErrorRun_silent (limit : ce.errorRunLimit ≤ min 31 (ce.errorRun + 1)) (live : ce.state ≠ .offline) :
    ce.raiseErrorRun.state = .silent := by
  obtain e | ⟨e, stays⟩ := ce.raiseErrorRun_cases
  · rw [e]
    rfl
  · rw [e]
    have stays := stays limit
    show ce.state = .silent
    unfold canFallSilent at stays
    split at stays
    · exact absurd ‹_› live
    · assumption
    · exact absurd stays nofun

end ChannelEngine

/-! ### The transaction -/

/-- A channel's attempt told to the command and handed to the token logic, its row given back (R75, R148, R154). -/
def State.outcomeApplied (m : State) (r : RowId) (c : Channel) (o : AttemptOutcome) : State :=
  (((m.report r c o).drainRetiring r).updCh c fun ce => ce.afterOutcome o).wakeAll

/-- The end of a row's attempt on a channel before its command is told: the channel engine has given up the attempt and
its request, and but for its lists and counters it is as it was. -/
structure SendEnded (s m : State) (c : Channel) (r : RowId) (rest : List SendRequest) : Prop where
  table : TableOnly s m
  served : m.servedBy (.tx c)
  rows : ∀ q, q ≠ r → m.row q = s.row q
  engine : { m.ch c with lists := (s.ch c).lists, counters := (s.ch c).counters } =
    { s.ch c with requests := rest, inFlight := none }

/-- The command told and a RETIRING row freed: what that leaves alone. -/
theorem State.told_frame (m : State) (r : RowId) (c : Channel) (o : AttemptOutcome) :
    ((m.report r c o).drainRetiring r).port = m.port ∧
      ((m.report r c o).drainRetiring r).attnEnable = m.attnEnable ∧
      ((m.report r c o).drainRetiring r).pending = m.pending ∧
      ((m.report r c o).drainRetiring r).resetCause = m.resetCause ∧
      ((m.report r c o).drainRetiring r).served = m.served ∧ ((m.report r c o).drainRetiring r).turn = m.turn ∧
      ((m.report r c o).drainRetiring r).cu = (m.report r c o).cu ∧
      (∀ e, ((m.report r c o).drainRetiring r).ch e = m.ch e) ∧
      ∀ q, q ≠ r → ((m.report r c o).drainRetiring r).row q = m.row q := by
  obtain ⟨cu, same⟩ := State.report_frame m r c o
  rw [same]
  unfold State.drainRetiring
  split
  · exact ⟨rfl, rfl, rfl, rfl, rfl, rfl, rfl, fun _ => rfl, fun q other =>
      State.freeRow_row_ne { m with cu := cu } (Ne.symm other)⟩
  · exact ⟨rfl, rfl, rfl, rfl, rfl, rfl, rfl, fun _ => rfl, fun _ _ => rfl⟩

/-- What an outcome transaction leaves, however the send ended. -/
theorem SendEnded.common {s m u : State} {c : Channel} {r : RowId} {rest : List SendRequest} {o : AttemptOutcome}
    (h : SendEnded s m c r rest)
    (ends : u = m.outcomeApplied r c o) :
    u.servedBy (.tx c) ∧ (u.ch c).inFlight = none ∧ u.port = s.port ∧ u.attnEnable = s.attnEnable ∧
      u.pending = s.pending ∧ CommandTold s u r c o ∧ (∀ q, q ≠ r → u.row q = s.row q) ∧
      (u.ch c).errorRun = ChannelEngine.runAfter (s.ch c).errorRun o ∧
      (o = .lineError → (s.ch c).errorRunLimit ≤ min 31 ((s.ch c).errorRun + 1) →
        (s.ch c).state ≠ .offline → (u.ch c).state = .silent) ∧
      (∀ v, (s.ch c).state = .holding → (s.ch c).visit = some v → v.step = .attempts → .removal ∉ rest →
        (s.ch c).waiting = none → (s.ch c).stationList.Pairwise (fun a b => a < b) → (s.ch c).pass = none →
        (o = .lineError → min 31 ((s.ch c).errorRun + 1) < (s.ch c).errorRunLimit) →
        ∃ x : ChannelEngine, x.lists = (u.ch c).lists ∧ x.counters = (u.ch c).counters ∧
          x.errorRun = (u.ch c).errorRun ∧
          { x with lists := (s.ch c).lists, counters := (s.ch c).counters, errorRun := (s.ch c).errorRun } =
            { s.ch c with requests := rest, inFlight := none } ∧
          (v.count < x.visitBudget → x.pendingCount ≠ 0 → u.ch c = { x with requests := x.attemptRequested }) ∧
          (x.visitBudget ≤ v.count ∨ x.pendingCount = 0 → VisitGoesOn x (u.ch c))) ∧
      (u.ch c).lists = (m.ch c).lists ∧ (u.ch c).counters = (m.ch c).counters ∧
      ∀ e, e ≠ c → u.ch e = (m.ch e).wake := by
  obtain ⟨port, attn, pending, _, served, turn, cu, ch, rows⟩ := m.told_frame r c o
  have flight : (m.ch c).inFlight = none := (congrArg ChannelEngine.inFlight h.engine :)
  have run : (m.ch c).errorRun = (s.ch c).errorRun := (congrArg ChannelEngine.errorRun h.engine :)
  have state : (m.ch c).state = (s.ch c).state := (congrArg ChannelEngine.state h.engine :)
  have limit : (m.ch c).errorRunLimit = (s.ch c).errorRunLimit := (congrArg ChannelEngine.errorRunLimit h.engine :)
  have engine : u.ch c = ((m.ch c).withOutcome o).runAttempts.begin.wake := by
    rw [ends, State.outcomeApplied, State.wakeAll_ch, State.ch_updCh_self, ch, ChannelEngine.afterOutcome_eq]
  obtain ⟨lists, counters, free, errorRun⟩ := ChannelEngine.withOutcome_keeps flight o
  have core : (u.ch c).core = ((m.ch c).withOutcome o).core := by
    rw [engine, ChannelEngine.wake_core, ChannelEngine.begin_core, ChannelEngine.runAttempts_core]
  have sameLists : (u.ch c).lists = ((m.ch c).withOutcome o).lists := congrArg (fun k => k.2.1) core
  have sameCounters : (u.ch c).counters = ((m.ch c).withOutcome o).counters := congrArg (fun k => k.2.2.1) core
  have sameRun : (u.ch c).errorRun = ((m.ch c).withOutcome o).errorRun := congrArg Prod.fst core
  refine ⟨?_, ?_, ?_, ?_, ?_, ?_, fun q other => ?_, ?_, fun failed atLimit live => ?_,
    fun v holding visit step removal quiet asc _ below => ?_, sameLists.trans lists, sameCounters.trans counters,
    fun e other => ?_⟩
  · rw [ends]
    exact ⟨served.trans h.served.1, turn.trans h.served.2⟩
  · exact (congrArg (fun k => k.2.2.2.2) core).trans free
  · rw [ends]
    exact port.trans (congrArg State.port h.table :)
  · rw [ends]
    exact attn.trans (congrArg State.attnEnable h.table :)
  · rw [ends]
    exact pending.trans (congrArg State.pending h.table :)
  · have unit : m.cu = s.cu := (congrArg State.cu h.table :)
    refine State.report_tells unit ?_
    rw [ends]
    exact cu
  · rw [ends, State.outcomeApplied, State.wakeAll_row, State.row_updCh, rows q other, h.rows q other]
  · rw [sameRun, errorRun, run]
  · subst failed
    rw [engine]
    have silent : ((m.ch c).withOutcome .lineError).state = .silent :=
      ChannelEngine.raiseErrorRun_silent (by rw [limit, run]; exact atLimit) (by rw [state]; exact live)
    have other : ((m.ch c).withOutcome .lineError).state ≠ .holding := by rw [silent]; exact nofun
    obtain ⟨begun, _⟩ := ((m.ch c).withOutcome .lineError).begin_keeps
    rw [ChannelEngine.runAttempts_other other, ChannelEngine.wake_of_other (by rw [begun]; exact other), begun, silent]
  · have same := ChannelEngine.withOutcome_below o (ce := m.ch c) (by rw [run, limit]; exact below)
    obtain ⟨goes, stops⟩ := ChannelEngine.runAttempts_goesOn (ce := (m.ch c).withOutcome o) (v := v)
      (by rw [same]; exact state.trans holding)
      (by rw [same]; exact (congrArg ChannelEngine.visit h.engine :).trans visit) step free
      (by rw [same]; exact (congrArg ChannelEngine.requests h.engine :) ▸ removal)
      (by rw [same]; exact (congrArg ChannelEngine.waiting h.engine :).trans quiet)
      (by rw [same]; exact (congrArg ChannelEngine.stationList h.engine :) ▸ asc)
    refine ⟨(m.ch c).withOutcome o, sameLists.symm, sameCounters.symm, sameRun.symm, ?_, ?_, ?_⟩
    · rw [same]
      exact (congrArg (fun ce : ChannelEngine => { ce with errorRun := (s.ch c).errorRun }) h.engine :)
    · rw [engine]
      exact goes
    · rw [engine]
      exact stops
  · rw [ends, State.outcomeApplied, State.wakeAll_ch, State.ch_updCh_ne _ _ (Ne.symm other), ch]

/-- The state with the attempt given up. -/
def State.cleared (s : State) (c : Channel) (rest : List SendRequest) : State :=
  (s.sendTaken c rest).updCh c fun ce => { ce with inFlight := none }

theorem State.cleared_ch_self (s : State) (c : Channel) (rest : List SendRequest) :
    (s.cleared c rest).ch c = { s.ch c with requests := rest, inFlight := none } := by
  rw [State.cleared, State.ch_updCh_self, State.sendTaken_ch_self]

theorem State.cleared_ch_ne (s : State) {c e : Channel} (rest : List SendRequest) (other : e ≠ c) :
    (s.cleared c rest).ch e = s.ch e := by
  rw [State.cleared, State.ch_updCh_ne _ _ (Ne.symm other), State.sendTaken_ch_ne s rest other]

/-- The row as an outcome that ends its send leaves it (R69, R71, R72, R74). -/
def endedRow (row : Row) (c : Channel) (o : AttemptOutcome) : Row :=
  { row with side := row.side.set c { row.side.get c with
      sendState := .idle, renewed := false, cancelRequested := false, attemptCount := 0
      lastResult := endResult o (row.side.get c).cancelRequested } }

/-- The send ended: the row, its reason and its count. -/
def State.sendEnded (s : State) (c : Channel) (rest : List SendRequest) (r : RowId) (o : AttemptOutcome) : State :=
  { (((s.cleared c rest).updRow r fun row => endedRow row c o).updCh c fun ce =>
      if failsSend o ((s.row r).side.get c).cancelRequested then ce.countFailedAttempt else ce) with
    attention := attentionAfter s.attention r
      ((s.row r).attentionMask &&& endReason o ((s.row r).side.get c).cancelRequested) }

theorem State.endSend_eq (s : State) (c : Channel) (rest : List SendRequest) (r : RowId) (o : AttemptOutcome) :
    (s.cleared c rest).endSend r c o ((s.row r).side.get c).cancelRequested = s.sendEnded c rest r o := by
  have row : (s.cleared c rest).updRow r (fun row => row.updSide c fun d =>
      { d with sendState := .idle, renewed := false, cancelRequested := false, attemptCount := 0
               lastResult := resultOf o ((s.row r).side.get c).cancelRequested }) =
      (s.cleared c rest).updRow r fun row => endedRow row c o := by
    refine State.updRow_congr (s.cleared c rest) r ?_
    rw [resultOf_eq]
    rfl
  rw [State.endSend, row, State.recordEnd_eq, State.row_updRow_self]
  rfl

theorem State.returnRow_row_self (s : State) (r : RowId) (c : Channel) : (s.returnRow r c).row r =
    (s.row r).updSide c fun d => { d with sendState := .pending, renewed := false, cancelRequested := false } := by
  rw [State.returnRow, State.row_updCh, State.row_updRow_self]

/-- An outcome's application by its kind: retried, ended, or ended with the renewal's request. -/
theorem State.exec_attemptOutcome {s : State} {c : Channel} {o : AttemptOutcome} {rest : List SendRequest}
    {f : InFlight} (requests : (s.ch c).requests = .outcome o :: rest) (next : s.nextServed = some (.tx c))
    (flight : (s.ch c).inFlight = some f) {m : State}
    (applied : (if ((s.row f.row).side.get c).renewed && !((s.row f.row).side.get c).cancelRequested &&
          !retried o (s.row f.row) ((s.row f.row).side.get c) (s.ch c).retryLimit && o ≠ .aborted then
        ((if retried o (s.row f.row) ((s.row f.row).side.get c) (s.ch c).retryLimit then
            (s.cleared c rest).returnRow f.row c
          else s.sendEnded c rest f.row o).enqueue .renewal f.row (maskOf c)).1
      else if retried o (s.row f.row) ((s.row f.row).side.get c) (s.ch c).retryLimit then
        (s.cleared c rest).returnRow f.row c else s.sendEnded c rest f.row o) = m) :
    exec (.attemptOutcome c) s =
      .next (m.outcomeApplied f.row c o) := by
  have run : exec (.attemptOutcome c) s = .next (s.transact (.tx c) fun s => s.outcomeTransaction c o) := by
    simp only [exec, execAttemptOutcome, requests]
  have taken : ((s.sendTaken c rest).ch c).inFlight = some f := by
    rw [State.sendTaken_ch_self]
    exact flight
  rw [run, State.transact_turn next]
  refine congrArg (fun u : State => Host.Outcome.next (u.updCh c fun ce => ce.afterOutcome o).wakeAll) ?_
  rw [State.sendTaken_eq requests, State.applyOutcome, taken, ← applied, ← State.endSend_eq]
  have limit : ((s.sendTaken c rest).ch c).retryLimit = (s.ch c).retryLimit := by
    rw [State.sendTaken_ch_self]
    rfl
  dsimp only
  rw [limit]
  rfl

/-! ### What stands where the send ended -/

theorem State.sendEnded_row_self (s : State) (c : Channel) (rest : List SendRequest) (r : RowId) (o : AttemptOutcome) :
    (s.sendEnded c rest r o).row r = endedRow (s.row r) c o :=
  State.row_updRow_self (s.cleared c rest) r fun row => endedRow row c o

theorem State.sendEnded_row_ne (s : State) (c : Channel) (rest : List SendRequest) {r q : RowId} (o : AttemptOutcome)
    (other : q ≠ r) : (s.sendEnded c rest r o).row q = s.row q :=
  State.row_updRow_ne (s.cleared c rest) (fun row => endedRow row c o) (Ne.symm other)

/-- A channel engine with a failed attempt counted, where the outcome is one. -/
def ChannelEngine.failureCounted (ce : ChannelEngine) (o : AttemptOutcome) (cancel : Bool) : ChannelEngine :=
  if failsSend o cancel then ce.countFailedAttempt else ce

theorem ChannelEngine.failureCounted_rest (ce : ChannelEngine) (o : AttemptOutcome) (cancel : Bool) :
    { ce.failureCounted o cancel with counters := ce.counters } = ce := by
  unfold failureCounted
  split <;> rfl

theorem ChannelEngine.failureCounted_counts (ce : ChannelEngine) (o : AttemptOutcome) (cancel : Bool) :
    (ce.failureCounted o cancel).counters.failedAttempts.toNat =
        (if (o = .noConfirm ∨ o = .lineError) ∧ cancel = false then
          min 65535 (ce.counters.failedAttempts.toNat + 1)
        else ce.counters.failedAttempts.toNat) ∧
      { (ce.failureCounted o cancel).counters with failedAttempts := ce.counters.failedAttempts } = ce.counters := by
  unfold failureCounted
  by_cases fails : failsSend o cancel = true
  · rw [if_pos fails, if_pos (failsSend_iff.mp fails)]
    exact ⟨satInc_toNat _, rfl⟩
  · rw [if_neg fails, if_neg (mt failsSend_iff.mpr fails)]
    exact ⟨rfl, rfl⟩

theorem State.sendEnded_ch_self (s : State) (c : Channel) (rest : List SendRequest) (r : RowId) (o : AttemptOutcome) :
    (s.sendEnded c rest r o).ch c = ChannelEngine.failureCounted { s.ch c with requests := rest, inFlight := none } o
      ((s.row r).side.get c).cancelRequested := by
  rw [← State.cleared_ch_self s c rest]
  exact State.ch_updCh_self ((s.cleared c rest).updRow r fun row => endedRow row c o) c _

theorem State.sendEnded_ch_ne (s : State) {c e : Channel} (rest : List SendRequest) (r : RowId) (o : AttemptOutcome)
    (other : e ≠ c) : (s.sendEnded c rest r o).ch e = s.ch e :=
  (State.ch_updCh_ne ((s.cleared c rest).updRow r fun row => endedRow row c o) _ (Ne.symm other)).trans
    (s.cleared_ch_ne rest other)

theorem endedRow_sends (row : Row) (c e : Channel) (o : AttemptOutcome) :
    (endedRow row c o).sendStateOn e = .inFlight ↔ e ≠ c ∧ row.sendStateOn e = .inFlight := by
  by_cases own : e = c
  · subst own
    simp [endedRow, Row.sendStateOn]
  · simp [endedRow, Row.sendStateOn, own, Ne.symm own]

theorem SendEnded.of_sendEnded (s : State) (c : Channel) (rest : List SendRequest) (r : RowId) (o : AttemptOutcome) :
    SendEnded s (s.sendEnded c rest r o) c r rest where
  table := rfl
  served := ⟨rfl, rfl⟩
  rows := fun _ other => s.sendEnded_row_ne c rest o other
  engine := by
    rw [State.sendEnded_ch_self]
    exact (congrArg (fun ce : ChannelEngine => { ce with lists := (s.ch c).lists })
      (ChannelEngine.failureCounted_rest { s.ch c with requests := rest, inFlight := none } o
        ((s.row r).side.get c).cancelRequested) :)

theorem SendEnded.of_returned (s : State) (c : Channel) (rest : List SendRequest) (r : RowId) :
    SendEnded s ((s.cleared c rest).returnRow r c) c r rest where
  table := rfl
  served := ⟨rfl, rfl⟩
  rows := fun _ other => by
    rw [State.returnRow, State.row_updCh, State.row_updRow_ne _ _ (Ne.symm other)]
    rfl
  engine := by
    rw [State.returnRow, State.ch_updCh_self, State.ch_updRow, State.cleared_ch_self]

/-- A renewal's request leaves the attempt given up. -/
theorem SendEnded.renewed {s m : State} {c : Channel} {r : RowId} {rest : List SendRequest}
    (h : SendEnded s m c r rest) : SendEnded s (m.enqueue .renewal r (maskOf c)).1 c r rest where
  table := h.table.trans (m.enqueue_frame .renewal r (maskOf c)).tableOnly
  served := ⟨(m.enqueue_frame .renewal r (maskOf c)).served.trans h.served.1,
    (m.enqueue_frame .renewal r (maskOf c)).turn.trans h.served.2⟩
  rows := fun q other => ((m.enqueue_frame .renewal r (maskOf c)).rows q other).trans (h.rows q other)
  engine := (congrArg (fun ce : ChannelEngine => { ce with lists := (s.ch c).lists, counters := (s.ch c).counters })
    (m.enqueue_engine .renewal r (maskOf c) c)).trans h.engine

/-- With no RETIRING row to free, telling the command leaves the table. -/
theorem State.told_stays {m : State} {r : RowId} (c : Channel) (o : AttemptOutcome)
    (stays : (m.row r).state ≠ .retiring ∨ ∃ e, (m.row r).sendStateOn e = .inFlight) :
    ((m.report r c o).drainRetiring r).rows = m.rows ∧ ((m.report r c o).drainRetiring r).attention = m.attention ∧
      ((m.report r c o).drainRetiring r).iu = m.iu ∧
      ((m.report r c o).drainRetiring r).topicIndex = m.topicIndex := by
  obtain ⟨cu, same⟩ := State.report_frame m r c o
  rw [same, State.drainRetiring_of_not (s := { m with cu := cu }) stays]
  exact ⟨rfl, rfl, rfl, rfl⟩

/-- A RETIRING row in flight nowhere is freed as the command is told (R24, R75). -/
theorem State.told_frees {m : State} {r : RowId} (c : Channel) (o : AttemptOutcome)
    (retiring : (m.row r).state = .retiring) (nowhere : ∀ e, (m.row r).sendStateOn e ≠ .inFlight) :
    ((m.report r c o).drainRetiring r).row r = Row.free ∧
      (∀ e, e ∈ ((m.report r c o).drainRetiring r).topicIndex ↔ e ∈ m.topicIndex ∧ e.2 ≠ r) ∧
      ((m.report r c o).drainRetiring r).attention = m.attention.filter fun e => e.row ≠ r := by
  obtain ⟨cu, same⟩ := State.report_frame m r c o
  rw [same, State.drainRetiring_frees (s := { m with cu := cu }) retiring nowhere]
  refine ⟨State.freeRow_row_self { m with cu := cu } r, fun e => ?_, rfl⟩
  show e ∈ m.topicIndex.filter (fun e => e.2 ≠ r) ↔ _
  rw [List.mem_filter, decide_eq_true_eq]

theorem State.outcomeApplied_stays {m : State} {r : RowId} (c : Channel) (o : AttemptOutcome)
    (stays : (m.row r).state ≠ .retiring ∨ ∃ e, (m.row r).sendStateOn e = .inFlight) :
    (m.outcomeApplied r c o).rows = m.rows ∧ (m.outcomeApplied r c o).attention = m.attention ∧
      (m.outcomeApplied r c o).iu = m.iu ∧ (m.outcomeApplied r c o).topicIndex = m.topicIndex := by
  have told := State.told_stays c o stays
  unfold State.outcomeApplied
  generalize (m.report r c o).drainRetiring r = v at told ⊢
  exact told

theorem State.outcomeApplied_frees {m : State} {r : RowId} (c : Channel) (o : AttemptOutcome)
    (retiring : (m.row r).state = .retiring) (nowhere : ∀ e, (m.row r).sendStateOn e ≠ .inFlight) :
    (m.outcomeApplied r c o).row r = Row.free ∧
      (∀ e, e ∈ (m.outcomeApplied r c o).topicIndex ↔ e ∈ m.topicIndex ∧ e.2 ≠ r) ∧
      (m.outcomeApplied r c o).attention = m.attention.filter fun e => e.row ≠ r := by
  have told := State.told_frees c o retiring nowhere
  unfold State.outcomeApplied
  generalize (m.report r c o).drainRetiring r = v at told ⊢
  exact told

theorem Row.serves_not_retiring {row : Row} (serves : row.serves) : row.state ≠ .retiring := by
  intro retiring
  unfold Row.serves at serves
  rw [retiring] at serves
  exact absurd serves (by decide)

/-- Settles O51: what every outcome leaves is `SendEnded.common`; the row, the lists and the attention list are those of
its own kind of end, with the row returned, with its send ended, and with a renewal's request after that. -/
theorem outcomesRetryOrEndTheSend : Obligations.OutcomesRetryOrEndTheSend := by
  intro s c o rest f requests next flight r old d fails again elsewhere ended counted
  have run {m : State} := State.exec_attemptOutcome (m := m) requests next flight
  by_cases isAgain : again
  · have retries : retried o old d (s.ch c).retryLimit = true := retried_iff.mpr isAgain
    have run := run (m := (s.cleared c rest).returnRow r c) (by
      rw [retries]
      exact (if_neg (by simp)).trans (if_pos rfl))
    obtain ⟨served, free, port, attn, pending, told, rows, runs, silent, visit, lists, counters, others⟩ :=
      (SendEnded.of_returned s c rest r).common (o := o) rfl
    have row : ((s.cleared c rest).returnRow r c).row r = old.updSide c fun d =>
        { d with sendState := .pending, renewed := false, cancelRequested := false } :=
      State.returnRow_row_self (s.cleared c rest) r c
    have serves : old.state ≠ .retiring := Row.serves_not_retiring isAgain.2.2.2
    obtain ⟨table, attention, iu, topics⟩ := State.outcomeApplied_stays (m := (s.cleared c rest).returnRow r c) c o
      (.inl (by rw [row]; exact serves))
    have engine : ((s.cleared c rest).returnRow r c).ch c = { s.ch c with
        requests := rest, inFlight := none, lists := (s.ch c).lists.set old.cls (r ::
          (s.ch c).lists.get old.cls) } := by
      rw [State.returnRow, State.ch_updCh_self, State.ch_updRow, State.cleared_ch_self]
      rfl
    refine ⟨_, run, served, free, port, attn, pending, told, rows, runs.trans (by cases o <;> rfl), silent, visit,
      fun _ => ⟨?_, ?_, ?_, attention, iu, topics, fun e other => ?_⟩, fun no => absurd isAgain no,
      fun no => absurd isAgain no⟩
    · exact (congrArg (fun rows : Vector Row 256 => rows.get r) table).trans row
    · rw [lists, engine]
    · rw [counters, engine]
    · rw [others e other, State.returnRow, State.ch_updCh_ne _ _ (Ne.symm other), State.ch_updRow,
        State.cleared_ch_ne s rest other]
  · have ends : retried o old d (s.ch c).retryLimit = false :=
      Bool.eq_false_iff.mpr fun retries => isAgain (retried_iff.mp retries)
    have row := s.sendEnded_row_self c rest r o
    have count := ChannelEngine.failureCounted_counts { s.ch c with requests := rest, inFlight := none } o
      d.cancelRequested
    rw [← s.sendEnded_ch_self c rest r o] at count
    by_cases asks : d.renewed = true ∧ d.cancelRequested = false ∧ o ≠ .aborted ∧ old.serves
    · obtain ⟨renewed, kept, unaborted, serves⟩ := asks
      have run := run (m := ((s.sendEnded c rest r o).enqueue .renewal r (maskOf c)).1)
        (by simp [ends, renewed, kept, unaborted, r, d, old])
      obtain ⟨served, free, port, attn, pending, told, rows, runs, silent, visit, lists, counters, others⟩ :=
        (SendEnded.of_sendEnded s c rest r o).renewed.common (o := o) rfl
      obtain ⟨-, -, -, -, state⟩ := (s.sendEnded c rest r o).enqueue_keeps .renewal r (maskOf c)
      obtain ⟨table, attention, iu, topics⟩ := State.outcomeApplied_stays
        (m := ((s.sendEnded c rest r o).enqueue .renewal r (maskOf c)).1) c o
        (.inl (by rw [state, row]; exact Row.serves_not_retiring serves))
      have index : ((s.sendEnded c rest r o).enqueue .renewal r (maskOf c)).1.topicIndex = s.topicIndex :=
        (congrArg State.topicIndex ((SendEnded.of_sendEnded s c rest r o).renewed).table :)
      refine ⟨_, run, served, free, port, attn, pending, told, rows, runs.trans (by cases o <;> rfl), silent, visit,
        fun yes => absurd yes isAgain, fun _ none => ?_, fun _ _ _ _ _ => ⟨s.sendEnded c rest r o, row,
          fun q other => s.sendEnded_row_ne c rest o other, rfl, ?_, fun e other => s.sendEnded_ch_ne rest r o other,
          count, ?_, ⟨table, attention, iu, others⟩, lists, counters, topics.trans index⟩⟩
      · obtain no | no | no | no := none
        · rw [renewed] at no
          exact absurd no nofun
        · rw [kept] at no
          exact absurd no nofun
        · exact absurd no unaborted
        · exact absurd serves no
      · rw [← kept]
        rfl
      · rw [s.sendEnded_ch_self c rest r o]
        exact ChannelEngine.failureCounted_rest { s.ch c with requests := rest, inFlight := none } o d.cancelRequested
    · have run := run (m := s.sendEnded c rest r o) (by
        rw [ends]
        by_cases renews : (d.renewed && !d.cancelRequested && !false && o ≠ .aborted) = true
        · have refused : ¬ ((s.sendEnded c rest r o).row r).serves := by
            rw [row]
            intro serves
            simp only [Bool.not_false, Bool.and_true, Bool.and_eq_true, Bool.not_eq_true', decide_eq_true_eq] at renews
            exact asks ⟨renews.1.1, renews.1.2, renews.2, serves⟩
          rw [if_pos renews]
          exact State.enqueue_refused refused _ _
        · exact if_neg renews)
      obtain ⟨served, free, port, attn, pending, told, rows, runs, silent, visit, lists, counters, others⟩ :=
        (SendEnded.of_sendEnded s c rest r o).common (o := o) rfl
      have engine := s.sendEnded_ch_self c rest r o
      have like := ChannelEngine.failureCounted_rest { s.ch c with requests := rest, inFlight := none } o
        d.cancelRequested
      rw [← engine] at like
      refine ⟨_, run, served, free, port, attn, pending, told, rows, runs.trans (by cases o <;> rfl), silent, visit,
        fun yes => absurd yes isAgain, fun _ _ => ⟨?_, ?_, fun e other => ?_, fun stays => ?_,
          fun retiring nowhere => ?_⟩,
        fun _ renewed kept unaborted serves => absurd ⟨renewed, kept, unaborted, serves⟩ asks⟩
      · exact lists.trans (congrArg ChannelEngine.lists like :)
      · exact ⟨(congrArg (fun k : Counters => k.failedAttempts.toNat) counters).trans count.1,
          (congrArg (fun k : Counters => { k with failedAttempts := (s.ch c).counters.failedAttempts })
            counters).trans count.2⟩
      · rw [others e other, State.sendEnded_ch_ne s rest r o other]
      · have stays : ((s.sendEnded c rest r o).row r).state ≠ .retiring ∨
            ∃ e, ((s.sendEnded c rest r o).row r).sendStateOn e = .inFlight := by
          rw [row]
          exact stays.imp id fun ⟨e, other⟩ => ⟨e, (endedRow_sends old c e o).mpr other⟩
        obtain ⟨table, attention, iu, topics⟩ := State.outcomeApplied_stays c o stays
        exact ⟨(congrArg (fun rows : Vector Row 256 => rows.get r) table).trans row, iu, topics, attention⟩
      · obtain ⟨freed, index, attention⟩ := State.outcomeApplied_frees (m := s.sendEnded c rest r o) c o
          (by rw [row]; exact retiring)
          (by rw [row]; exact fun e flying => nowhere ⟨e, (endedRow_sends old c e o).mp flying⟩)
        exact ⟨freed, index, attention.trans (attentionAfter_freed _ _ _)⟩

end Sys2Proof.Machine
end

section
/-! PROOFS. The removal transaction (O52; R24, R75, R77, R78, R120, R148, R162). -/

namespace Sys2Proof.Machine

set_option Elab.async false

/-! ### The token logic of a channel with no row pending -/

namespace ChannelEngine

variable {ce : ChannelEngine}

theorem joinStep_requests (ce : ChannelEngine) : ce.joinStep.1.requests = ce.requests :=
  (congrArg requests ce.joinStep_eq :)

theorem joinStep_pendingCount (ce : ChannelEngine) : ce.joinStep.1.pendingCount = ce.pendingCount :=
  (congrArg pendingCount ce.joinStep_eq :)

theorem visitAlone_requests (nothing : ce.pendingCount = 0) : ce.visitAlone.requests = ce.requests := by
  by_cases owed : ce.inFlight ≠ none ∨ .removal ∈ ce.requests
  · rw [visitAlone_owed owed]
    rfl
  · obtain ⟨flight, removal⟩ := not_or.mp owed
    have flight : ce.inFlight = none := not_not.mp flight
    have same := ce.visits.joinStep_requests
    rcases step : ce.visits.joinStep with ⟨v, _ | g⟩
    all_goals rw [step] at same
    · rw [visitAlone_uncalled flight removal nothing step]
      exact same
    · rw [visitAlone_called flight removal nothing step]
      exact same

theorem passOn_requests (nothing : ce.pendingCount = 0) : ce.passOn.requests = ce.requests := by
  unfold passOn
  split
  · rfl
  · exact visitAlone_requests nothing

theorem afterAttempts_requests (nothing : ce.pendingCount = 0) : ce.afterAttempts.requests = ce.requests := by
  have same := ce.joinStep_requests
  have count := ce.joinStep_pendingCount
  rcases step : ce.joinStep with ⟨v, _ | g⟩
  all_goals rw [step] at same count
  · rw [afterAttempts_none step, passOn_requests (count.trans nothing)]
    exact same
  · rw [afterAttempts_some step]
    exact same

theorem runAttempts_requests (nothing : ce.pendingCount = 0) : ce.runAttempts.requests = ce.requests := by
  unfold runAttempts
  split
  · split
    · rfl
    · rw [if_neg fun h => h.2 nothing]
      exact afterAttempts_requests nothing
  · rfl

theorem begin_requests (ce : ChannelEngine) : ce.begin.requests = ce.requests := by
  obtain e | ⟨_, _, _, _, e⟩ := ce.begin_cases <;> rw [e]

theorem wake_requests (nothing : ce.pendingCount = 0) : ce.wake.requests = ce.requests := by
  obtain e | ⟨_, _, e⟩ := ce.wake_cases <;> rw [e]
  rw [begin_requests, runAttempts_requests nothing]

theorem pendingCount_of_core {ce x : ChannelEngine} (same : ce.core = x.core) : ce.pendingCount = x.pendingCount := by
  have lists : ce.lists = x.lists := congrArg (fun k => k.2.1) same
  unfold pendingCount
  rw [lists]

theorem begin_visitUnused (ce : ChannelEngine) : ce.begin.visitUnused = ce.visitUnused := by
  obtain e | ⟨_, _, _, _, e⟩ := ce.begin_cases <;> rw [e]
  rfl

/-- Outside step 1 of a visit, and in it while a removal waits, the visit does not go on. -/
theorem runAttempts_stays (stays : ce.state ≠ .holding ∨ .removal ∈ ce.requests ∨
    ∀ v, ce.visit = some v → v.step ≠ .attempts) : ce.runAttempts = ce ∧ ce.visitUnused = false := by
  by_cases holding : ce.state = .holding
  · have owed : .removal ∈ ce.requests ∨ ∀ v, ce.visit = some v → v.step ≠ .attempts := stays.neg_resolve_left holding
    cases visit : ce.visit with
    | none => exact ⟨by unfold runAttempts; rw [visit, holding], by unfold visitUnused; rw [visit, holding]⟩
    | some v =>
      refine ⟨runAttempts_waiting holding visit ?_, visitUnused_eq_false visit ?_⟩
      · exact owed.elim (fun mem => .inr (.inr mem)) fun other => .inl (other v visit)
      · exact owed.elim (fun mem => .inr (.inl mem)) fun other => .inr (.inr (.inr (other v visit)))
  · exact ⟨runAttempts_other holding, visitUnused_of_other holding⟩

end ChannelEngine

/-! ### The channel emptied -/

/-- The channel engine as a removal transaction leaves it to the token logic. -/
def ChannelEngine.stripped (ce : ChannelEngine) (rest : List SendRequest) : ChannelEngine :=
  { ce with requests := rest, inFlight := none, lists := Quad.all [] }

/-- The table of a removal before the command is told: the rows off the lists and the held masks, the attempt in flight
aborted (R77). -/
def State.removed (s : State) (c : Channel) : Option InFlight → State
  | none => State.emptied { s with served := .tx c, turn := none } c
  | some f => ((State.emptied { s with served := .tx c, turn := none } c).updCh c fun ce =>
      { ce with inFlight := none }).updRow f.row fun row => endedRow row c .aborted

/-- The command that awaits an aborted attempt told, and a RETIRING row freed; nothing where none was in flight. -/
def State.abortTold (s : State) (c : Channel) : Option InFlight → State
  | none => s
  | some f => (s.report f.row c .aborted).drainRetiring f.row

section Removed

variable {s : State} {c : Channel} {rest : List SendRequest}

theorem State.exec_removalTransaction (requests : (s.ch c).requests = .removal :: rest)
    (next : s.nextServed = some (.tx c)) : exec (.removalTransaction c) s =
      .next (((s.removed c (s.ch c).inFlight).abortTold c (s.ch c).inFlight).updCh c fun ce =>
        ce.runAttempts.begin).wakeAll := by
  have run : exec (.removalTransaction c) s = .next (s.transact (.tx c) fun s => s.removalTransaction c) := by
    simp only [exec, execRemovalTransaction, requests]
  have flight : ((State.emptied { s with served := .tx c, turn := none } c).ch c).inFlight = (s.ch c).inFlight := by
    rw [State.emptied_ch_self]
    rfl
  rw [run, State.transact_turn next]
  refine congrArg (fun t : State => Host.Outcome.next (t.updCh c fun ce => ce.runAttempts.begin).wakeAll) ?_
  show (State.emptied { s with served := .tx c, turn := none } c).applyOutcome c .aborted = _
  cases found : (s.ch c).inFlight with
  | none => exact State.applyOutcome_none (flight.trans found)
  | some f => exact State.applyOutcome_aborted (flight.trans found)

theorem State.removed_table (s : State) (c : Channel) (o : Option InFlight) : TableOnly s (s.removed c o) := by
  cases o <;> rfl

theorem State.removed_served (s : State) (c : Channel) (o : Option InFlight) : (s.removed c o).servedBy (.tx c) := by
  cases o <;> exact ⟨rfl, rfl⟩

theorem State.removed_ch_self (requests : (s.ch c).requests = .removal :: rest) :
    (s.removed c (s.ch c).inFlight).ch c = (s.ch c).stripped rest := by
  have popped : (State.emptied { s with served := .tx c, turn := none } c).ch c =
      { s.ch c with requests := rest, lists := Quad.all [] } := by
    rw [State.emptied_ch_self]
    show ({ s.ch c with requests := (s.ch c).requests.drop 1, lists := Quad.all [] } : ChannelEngine) = _
    rw [requests]
    rfl
  cases found : (s.ch c).inFlight with
  | none =>
    show (State.emptied { s with served := .tx c, turn := none } c).ch c = _
    rw [popped, ChannelEngine.stripped, ← found]
  | some f =>
    show (((State.emptied { s with served := .tx c, turn := none } c).updCh c fun ce =>
      { ce with inFlight := none }).updRow f.row fun row => endedRow row c .aborted).ch c = _
    rw [State.ch_updRow, State.ch_updCh_self, popped]
    rfl

theorem State.removed_ch_ne (s : State) {c e : Channel} (o : Option InFlight) (other : e ≠ c) :
    (s.removed c o).ch e = s.ch e := by
  have same : (State.emptied { s with served := .tx c, turn := none } c).ch e = s.ch e :=
    State.emptied_ch_ne _ (Ne.symm other)
  cases o with
  | none => exact same
  | some f =>
    rw [State.removed, State.ch_updRow, State.ch_updCh_ne _ _ (Ne.symm other)]
    exact same

theorem State.removed_row (s : State) (c : Channel) {r : RowId} {o : Option InFlight}
    (rests : ∀ f, o = some f → f.row ≠ r) :
    (s.removed c o).row r = (s.row r).removeFrom c ((s.ch c).listsContain r) := by
  have same : (State.emptied { s with served := .tx c, turn := none } c).row r =
      (s.row r).removeFrom c ((s.ch c).listsContain r) := State.emptied_row _ c r
  cases o with
  | none => exact same
  | some f => exact (State.row_updRow_ne _ _ (rests f rfl)).trans same

theorem State.removed_row_flying (s : State) (c : Channel) (f : InFlight) :
    (s.removed c (some f)).row f.row =
      endedRow ((s.row f.row).removeFrom c ((s.ch c).listsContain f.row)) c .aborted := by
  have same : (State.emptied { s with served := .tx c, turn := none } c).row f.row =
      (s.row f.row).removeFrom c ((s.ch c).listsContain f.row) := State.emptied_row _ c f.row
  rw [← same]
  exact State.row_updRow_self _ _ _

/-! ### The rows by their send state on the channel (R11, R12, R77) -/

theorem AgreeOn.listsContain_eq {row : Row} {r : RowId} {ce : ChannelEngine} (a : AgreeOn row r ce c) :
    ce.listsContain r = decide (row.sendStateOn c = .pending) := by
  rw [Bool.eq_iff_iff, ChannelEngine.listsContain_iff, decide_eq_true_eq]
  simp only [a.listed]
  exact ⟨fun ⟨_, pending, _⟩ => pending, fun pending => ⟨row.cls, pending, rfl⟩⟩

theorem AgreeOn.inMask_eq {row : Row} {r : RowId} {ce : ChannelEngine} (a : AgreeOn row r ce c) :
    inMask row.heldMask c = decide (row.sendStateOn c = .held) := by
  rw [Bool.eq_iff_iff, decide_eq_true_eq]
  exact a.held

/-- A removal leaves a row alone that is neither listed nor held on the channel. -/
theorem AgreeOn.removeFrom_other {row : Row} {r : RowId} {ce : ChannelEngine} (a : AgreeOn row r ce c)
    (pending : row.sendStateOn c ≠ .pending) (held : row.sendStateOn c ≠ .held) :
    row.removeFrom c (ce.listsContain r) = row := by
  rw [a.listsContain_eq, decide_eq_false pending]
  exact Row.removeFrom_none row c (a.inMask_eq.trans (decide_eq_false held))

theorem AgreeOn.removeFrom_pending {row : Row} {r : RowId} {ce : ChannelEngine} (a : AgreeOn row r ce c)
    (pending : row.sendStateOn c = .pending) : row.removeFrom c (ce.listsContain r) =
      row.updSide c fun d => { d with sendState := .idle, attemptCount := 0, lastResult := .channelOff } := by
  have off : inMask row.heldMask c = false := a.inMask_eq.trans (by rw [pending]; rfl)
  rw [a.listsContain_eq, decide_eq_true pending]
  exact if_neg (Bool.eq_false_iff.mp off)

theorem AgreeOn.removeFrom_held {row : Row} {r : RowId} {ce : ChannelEngine} (a : AgreeOn row r ce c)
    (held : row.sendStateOn c = .held) : row.removeFrom c (ce.listsContain r) =
      { row.updSide c (fun d => { d with sendState := .idle, lastResult := .channelOff }) with
        heldMask := maskErase row.heldMask c } := by
  have on : inMask row.heldMask c = true := a.held.mpr held
  have unlisted : ce.listsContain r = false := a.listsContain_eq.trans (by rw [held]; rfl)
  rw [unlisted]
  exact if_pos on

/-! ### The table after the command is told -/

theorem State.abortTold_frame (m : State) (c : Channel) (o : Option InFlight) :
    (m.abortTold c o).port = m.port ∧ (m.abortTold c o).attnEnable = m.attnEnable ∧
      (m.abortTold c o).pending = m.pending ∧ (m.abortTold c o).resetCause = m.resetCause ∧
      (m.abortTold c o).served = m.served ∧ (m.abortTold c o).turn = m.turn ∧
      (∀ e, (m.abortTold c o).ch e = m.ch e) ∧
      ∀ q, (∀ f, o = some f → f.row ≠ q) → (m.abortTold c o).row q = m.row q := by
  cases o with
  | none => exact ⟨rfl, rfl, rfl, rfl, rfl, rfl, fun _ => rfl, fun _ _ => rfl⟩
  | some f =>
    obtain ⟨port, attn, pending, cause, served, turn, _, ch, rows⟩ := m.told_frame f.row c .aborted
    exact ⟨port, attn, pending, cause, served, turn, ch, fun q rests => rows q (Ne.symm (rests f rfl))⟩

/-- The table a removal transaction leaves. -/
def State.afterRemoval (s : State) (c : Channel) : State :=
  (s.removed c (s.ch c).inFlight).abortTold c (s.ch c).inFlight

variable {r : RowId}

/-- A row that is not in flight on the channel is as the removal left it. -/
theorem State.afterRemoval_row (agrees : s.Agrees) (rests : (s.row r).sendStateOn c ≠ .inFlight) :
    (s.afterRemoval c).row r = (s.row r).removeFrom c ((s.ch c).listsContain r) := by
  have other : ∀ f, (s.ch c).inFlight = some f → f.row ≠ r := fun f flight own =>
    rests ((agrees.each r c).flying.mp ⟨f, flight, own⟩)
  obtain ⟨-, -, -, -, -, -, -, rows⟩ := (s.removed c (s.ch c).inFlight).abortTold_frame c (s.ch c).inFlight
  exact (rows r other).trans (s.removed_row c other)

/-- The row in flight on the channel, its attempt aborted but its command not told. -/
theorem State.removed_row_aborted (agrees : s.Agrees) {f : InFlight} (flight : (s.ch c).inFlight = some f) :
    (s.removed c (some f)).row f.row = endedRow (s.row f.row) c .aborted := by
  have on : (s.row f.row).sendStateOn c = .inFlight := (agrees.each f.row c).flying.mp ⟨f, flight, rfl⟩
  rw [s.removed_row_flying c f, (agrees.each f.row c).removeFrom_other (by rw [on]; exact nofun)
    (by rw [on]; exact nofun)]

theorem State.removed_stays (agrees : s.Agrees) {f : InFlight} (flight : (s.ch c).inFlight = some f)
    (stays : (s.row f.row).state ≠ .retiring ∨ ∃ e, e ≠ c ∧ (s.row f.row).sendStateOn e = .inFlight) :
    ((s.removed c (some f)).row f.row).state ≠ .retiring ∨
      ∃ e, ((s.removed c (some f)).row f.row).sendStateOn e = .inFlight := by
  rw [State.removed_row_aborted agrees flight]
  exact stays.imp id fun ⟨e, elsewhere⟩ => ⟨e, (endedRow_sends _ c e .aborted).mpr elsewhere⟩

/-- An aborted row that is not freed. -/
theorem State.afterRemoval_aborted (agrees : s.Agrees) (on : (s.row r).sendStateOn c = .inFlight)
    (stays : (s.row r).state ≠ .retiring ∨ ∃ e, e ≠ c ∧ (s.row r).sendStateOn e = .inFlight) :
    (s.afterRemoval c).row r = endedRow (s.row r) c .aborted := by
  obtain ⟨f, flight, rfl⟩ := (agrees.each r c).flying.mpr on
  obtain ⟨table, -⟩ := State.told_stays c .aborted (State.removed_stays agrees flight stays)
  rw [← State.removed_row_aborted agrees flight]
  unfold State.afterRemoval
  rw [flight]
  exact (congrArg (fun rows : Vector Row 256 => rows.get f.row) table :)

/-- An aborted row that is RETIRING and in flight nowhere else is freed (R24). -/
theorem State.afterRemoval_freed (agrees : s.Agrees) (on : (s.row r).sendStateOn c = .inFlight)
    (retiring : (s.row r).state = .retiring) (nowhere : ∀ e, e ≠ c → (s.row r).sendStateOn e ≠ .inFlight) :
    (s.afterRemoval c).row r = Row.free ∧
      (∀ e, e ∈ (s.afterRemoval c).topicIndex ↔ e ∈ s.topicIndex ∧ e.2 ≠ r) ∧
      (s.afterRemoval c).attention = s.attention.filter fun e => e.row ≠ r := by
  obtain ⟨f, flight, rfl⟩ := (agrees.each r c).flying.mpr on
  have row := State.removed_row_aborted agrees flight
  unfold State.afterRemoval
  rw [flight]
  exact State.told_frees (m := s.removed c (some f)) c .aborted (by rw [row]; exact retiring)
    (by rw [row]; exact fun e flying => ((endedRow_sends _ c e .aborted).mp flying).elim (nowhere e))

/-- With no RETIRING row in flight on the channel a removal frees none. -/
theorem State.afterRemoval_keeps (agrees : s.Agrees)
    (none : ∀ r, (s.row r).sendStateOn c = .inFlight → (s.row r).state ≠ .retiring) :
    (s.afterRemoval c).attention = s.attention ∧ (s.afterRemoval c).topicIndex = s.topicIndex ∧
      (s.afterRemoval c).iu = s.iu := by
  unfold State.afterRemoval
  cases flight : (s.ch c).inFlight with
  | none => exact ⟨rfl, rfl, rfl⟩
  | some f =>
    have on : (s.row f.row).sendStateOn c = .inFlight := (agrees.each f.row c).flying.mp ⟨f, flight, rfl⟩
    obtain ⟨_, attention, iu, topics⟩ :=
      State.told_stays c .aborted (State.removed_stays agrees flight (.inl (none f.row on)))
    exact ⟨attention, topics, iu⟩

end Removed

/-- The token logic after a removal (R78, R148): it keeps the emptied channel but for its visit. -/
theorem ChannelEngine.stripped_goesOn (ce : ChannelEngine) (rest : List SendRequest) :
    (ce.stripped rest).runAttempts.begin.wake.core = (ce.stripped rest).core ∧
      (ce.stripped rest).runAttempts.begin.wake.requests = rest := by
  have core : (ce.stripped rest).runAttempts.begin.core = (ce.stripped rest).core :=
    (begin_core _).trans (runAttempts_core _)
  have empty : (ce.stripped rest).runAttempts.begin.pendingCount = 0 := pendingCount_of_core core
  exact ⟨(wake_core _).trans core, (wake_requests empty).trans ((begin_requests _).trans (runAttempts_requests rfl))⟩

/-- Settles O52: the rows by their send state on the channel, which the agreement of rows and channels gives; the
channel by `ChannelEngine.stripped_goesOn` and the two ways its visit can stand. -/
theorem removalEmptiesTheChannel : Obligations.RemovalEmptiesTheChannel := by
  intro s c rest agrees requests next x
  have run := State.exec_removalTransaction requests next
  obtain ⟨port, attn, pending, cause, served, turn, chs, -⟩ :=
    (s.removed c (s.ch c).inFlight).abortTold_frame c (s.ch c).inFlight
  have table := s.removed_table c (s.ch c).inFlight
  obtain ⟨chosen, noTurn⟩ := s.removed_served c (s.ch c).inFlight
  have told : s.afterRemoval c = (s.removed c (s.ch c).inFlight).abortTold c (s.ch c).inFlight := rfl
  rw [← told] at run port attn pending cause served turn chs
  have engine : (((s.afterRemoval c).updCh c fun ce => ce.runAttempts.begin).wakeAll).ch c =
      x.runAttempts.begin.wake := by
    rw [State.wakeAll_ch, State.ch_updCh_self, chs, State.removed_ch_self requests]
    rfl
  obtain ⟨core, kept⟩ := (s.ch c).stripped_goesOn rest
  have core : x.runAttempts.begin.wake.core = x.core := core
  have lists : x.runAttempts.begin.wake.lists = Quad.all [] := congrArg (fun k => k.2.1) core
  refine ⟨_, run, ⟨served.trans chosen, turn.trans noTurn⟩, ?_, fun k => ?_, ?_, ?_, ?_, fun e other => ?_,
    port.trans (congrArg State.port table :), attn.trans (congrArg State.attnEnable table :),
    cause.trans (congrArg State.resetCause table :), pending.trans (congrArg State.pending table :),
    ⟨fun stays => ?_, fun v holding visit step removal quiet asc _ => ?_⟩, fun r => ?_,
    State.afterRemoval_keeps agrees, fun f flight => ?_, fun quiet => ?_⟩
  · rw [engine]
    exact congrArg (fun k => k.2.2.2.2) core
  · rw [engine, lists]
    exact Quad.get_all [] k
  · rw [engine]
    exact kept
  · rw [engine]
    exact congrArg (fun k => k.2.2.1) core
  · rw [engine]
    exact congrArg (fun k => k.2.2.2.1) core
  · rw [State.wakeAll_ch, State.ch_updCh_ne _ _ (Ne.symm other), chs, State.removed_ch_ne s _ other]
  · obtain ⟨same, unused⟩ := ChannelEngine.runAttempts_stays (ce := x) stays
    have settled : x.begin.wake = x.begin :=
      ChannelEngine.wake_of_used (x.begin_visitUnused.trans unused)
    rw [engine, same, settled]
    exact ⟨fun quiet => ChannelEngine.begin_of_quiet quiet, fun t waits => ChannelEngine.begin_of_waiting waits⟩
  · rw [engine]
    obtain ⟨_, goes⟩ := ChannelEngine.runAttempts_goesOn (ce := x) holding visit step rfl removal quiet asc
    exact goes (.inr rfl)
  · have agree := agrees.each r c
    intro old d gone
    have row : (((s.afterRemoval c).updCh c fun ce => ce.runAttempts.begin).wakeAll).row r =
      (s.afterRemoval c).row r := rfl
    rw [row]
    refine ⟨fun idle => ?_, fun listed => ?_, fun held => ?_, fun flies stays => ?_, fun ⟨flies, retiring, nowhere⟩ =>
      State.afterRemoval_freed agrees flies retiring nowhere⟩
    · have on : old.sendStateOn c = .idle := idle
      rw [State.afterRemoval_row agrees (by rw [on]; exact nofun)]
      exact agree.removeFrom_other (by rw [on]; exact nofun) (by rw [on]; exact nofun)
    · have on : old.sendStateOn c = .pending := listed
      rw [State.afterRemoval_row agrees (by rw [on]; exact nofun)]
      exact agree.removeFrom_pending on
    · have on : old.sendStateOn c = .held := held
      rw [State.afterRemoval_row agrees (by rw [on]; exact nofun), agree.removeFrom_held on]
      exact ⟨inMask_maskErase_ne old.heldMask c, rfl⟩
    · refine State.afterRemoval_aborted agrees flies ?_
      by_cases retiring : old.state = .retiring
      · by_contra none
        obtain ⟨_, nowhere⟩ := not_or.mp none
        exact stays ⟨flies, retiring, fun e other flying => nowhere ⟨e, other, flying⟩⟩
      · exact .inl retiring
  · have unit : (s.removed c (s.ch c).inFlight).cu = s.cu := (congrArg State.cu table :)
    rw [flight] at unit
    refine State.report_tells (t := s.removed c (some f)) unit ?_
    obtain ⟨-, -, -, -, -, -, cu, -⟩ := (s.removed c (some f)).told_frame f.row c .aborted
    show (s.afterRemoval c).cu = _
    rw [told, flight]
    exact cu
  · show (s.afterRemoval c).cu = s.cu
    rw [told, quiet]
    rfl

end Sys2Proof.Machine
end

section
/-! PROOFS. The telegram's layout (O55; R120 to R125, R128, R193, R201): in bytes it reads back as itself, and in levels
as its bytes. -/

namespace Sys2Proof.Machine

set_option Elab.async false

/-! ### The layout in bytes (R122, R124, R201) -/

theorem bytesWord_of_wordBytes (w : Word) : bytesWord (BitVec.ofNat 8 (w.toNat / 256))
    (BitVec.ofNat 8 w.toNat) = w := by
  have bound := w.isLt
  refine BitVec.eq_of_toNat_eq ?_
  simp only [bytesWord, BitVec.toNat_ofNat]
  omega

theorem firstByte_toNat {kind : Nat} (bound : kind < 16) (cls : Fin 4) :
    (firstByte kind cls).toNat = kind * 16 + cls.val := by
  have low := cls.isLt
  rw [firstByte, BitVec.toNat_ofNat]
  omega

theorem firstByte_kind {kind : Nat} (bound : kind < 16) (cls : Fin 4) : (firstByte kind cls).toNat / 16 = kind := by
  have low := cls.isLt
  rw [firstByte_toNat bound]
  omega

theorem classOf_firstByte {kind : Nat} (bound : kind < 16) (cls : Fin 4) : classOf (firstByte kind cls) = cls := by
  have low := cls.isLt
  refine Fin.ext ?_
  show (firstByte kind cls).toNat % 4 % 4 = cls.val
  rw [firstByte_toNat bound]
  omega

/-- The payload's length byte of a telegram of the right size. -/
theorem payload_length_toNat {payload : List Byte} (sized : payload.length ≤ Config.maxLength) :
    (BitVec.ofNat 8 payload.length).toNat = payload.length := by
  have bound : payload.length ≤ 16 := sized
  rw [BitVec.toNat_ofNat]
  omega

theorem parseBody_telegramBody {t : Telegram} (sized : telegramSized t = true) :
    parseBody (telegramBody t) = .known t := by
  cases t with
  | publish p =>
    have fits : p.payload.length ≤ Config.maxLength := of_decide_eq_true sized
    have kind := firstByte_kind (kind := 1) (by decide) p.cls
    have cls := classOf_firstByte (kind := 1) (by decide) p.cls
    simp only [telegramBody, parseBody, wordBytes, List.cons_append, List.nil_append, kind, cls,
      payload_length_toNat fits, fits, and_self, if_true, bytesWord_of_wordBytes]
  | confirm q =>
    have kind := firstByte_kind (kind := 2) (by decide) 0
    simp only [telegramBody, parseBody, wordBytes, List.cons_append, List.nil_append, kind, bytesWord_of_wordBytes]
  | token a b => rfl
  | joinCall a b => rfl
  | joinReply a b => rfl
  | _ q =>
    have kind := firstByte_kind (kind := 3) (by decide) q.cls
    have cls := classOf_firstByte (kind := 3) (by decide) q.cls
    simp only [telegramBody, parseBody, wordBytes, kind, cls, bytesWord_of_wordBytes]

theorem telegramBody_length {t : Telegram} (sized : telegramSized t = true) :
    3 ≤ (telegramBody t).length ∧ (telegramBody t).length ≤ 23 := by
  cases t with
  | publish p =>
    have fits : p.payload.length ≤ 16 := of_decide_eq_true sized
    simp only [telegramBody, wordBytes, List.cons_append, List.nil_append, List.length_cons]
    omega
  | confirm q => exact ⟨(by decide : 3 ≤ 6), (by decide : 6 ≤ 23)⟩
  | token a b => exact ⟨(by decide : 3 ≤ 3), (by decide : 3 ≤ 23)⟩
  | joinCall a b => exact ⟨(by decide : 3 ≤ 3), (by decide : 3 ≤ 23)⟩
  | joinReply a b => exact ⟨(by decide : 3 ≤ 3), (by decide : 3 ≤ 23)⟩
  | _ q => exact ⟨(by decide : 3 ≤ 5), (by decide : 5 ≤ 23)⟩

theorem telegramBytes_length (t : Telegram) : (telegramBytes t).length = (telegramBody t).length + 2 :=
  List.length_append

theorem telegramBytes_take (t : Telegram) :
    (telegramBytes t).take ((telegramBytes t).length - 2) = telegramBody t := by
  rw [telegramBytes_length]
  exact List.take_left

theorem telegramBytes_drop (t : Telegram) :
    (telegramBytes t).drop ((telegramBytes t).length - 2) = wordBytes (crc (telegramBody t)) := by
  rw [telegramBytes_length]
  exact List.drop_left

theorem telegramBytes_bounds {t : Telegram} (sized : telegramSized t = true) :
    5 ≤ (telegramBytes t).length ∧ (telegramBytes t).length ≤ 25 := by
  obtain ⟨low, high⟩ := telegramBody_length sized
  rw [telegramBytes_length]
  exact ⟨Nat.add_le_add_right low 2, Nat.add_le_add_right high 2⟩

theorem parseTelegram_telegramBytes {t : Telegram} (sized : telegramSized t = true) :
    parseTelegram (telegramBytes t) = .known t := by
  obtain ⟨low, high⟩ := telegramBytes_bounds sized
  have long : ¬ ((telegramBytes t).length < Config.telegramMin ∨ Config.telegramMax < (telegramBytes t).length) :=
    not_or.mpr ⟨Nat.not_lt.mpr low, Nat.not_lt.mpr high⟩
  unfold parseTelegram
  dsimp only
  rw [if_neg long, telegramBytes_take, telegramBytes_drop, if_pos rfl, parseBody_telegramBody sized]

/-! ### The layout in levels (R120) -/

theorem flatMap_byteLevels_length (bytes : List Byte) : (bytes.flatMap byteLevels).length = 10 * bytes.length := by
  induction bytes with
  | nil => rfl
  | cons b bytes ih =>
    rw [List.flatMap_cons, List.length_append, byteLevels_length, ih, List.length_cons]
    omega

theorem lineLevels_length (bytes : List Byte) : (lineLevels bytes).length = 10 * bytes.length + 4 := by
  rw [lineLevels, List.length_append, flatMap_byteLevels_length, List.length_replicate]
  rfl

/-- The levels of the byte in place n stand from the bit time 10 n on. -/
theorem levels_getElem? {bytes : List Byte} {n j : Nat} {b : Byte} (tail : List Bool) (at_n : bytes[n]? = some b)
    (bound : j < 10) : (bytes.flatMap byteLevels ++ tail)[10 * n + j]? = (byteLevels b)[j]? := by
  induction bytes generalizing n with
  | nil => exact absurd at_n nofun
  | cons a bytes ih =>
    rw [List.flatMap_cons, List.append_assoc]
    cases n with
    | zero =>
      obtain rfl : a = b := Option.some.inj at_n
      rw [Nat.mul_zero, Nat.zero_add, List.getElem?_append_left bound]
    | succ n =>
      have after : (byteLevels a).length ≤ 10 * (n + 1) + j := by
        rw [byteLevels_length]
        omega
      have index : 10 * (n + 1) + j - (byteLevels a).length = 10 * n + j := by
        rw [byteLevels_length]
        omega
      rw [List.getElem?_append_right after, index]
      exact ih at_n

theorem byteLevels_data (b : Byte) {i : Nat} (bound : i < 8) : (byteLevels b)[1 + i]? = some (b.getLsbD (7 - i)) := by
  interval_cases i <;> rfl

theorem lineLevels_endGap (bytes : List Byte) {i : Nat} (bound : i < 4) :
    (lineLevels bytes)[10 * bytes.length + i]? = some true := by
  rw [lineLevels, ← flatMap_byteLevels_length, List.getElem?_append_right (Nat.le_add_right _ _),
    Nat.add_sub_cancel_left, List.getElem?_replicate]
  exact if_pos bound

/-! ### The levels read back (R121) -/

theorem readLevels_bytes {bytes got : List Byte} (rest : List Bool) (bound : got.length + bytes.length ≤ 25) :
    readLevels got (bytes.flatMap byteLevels ++ rest) = readLevels (got ++ bytes) rest := by
  induction bytes generalizing got with
  | nil => rw [List.flatMap_nil, List.nil_append, List.append_nil]
  | cons b bytes ih =>
    rw [List.length_cons] at bound
    have room : ¬ Config.telegramMax ≤ got.length := Nat.not_le.mpr (show got.length < 25 by omega)
    have left : (got ++ [b]).length + bytes.length ≤ 25 := by
      rw [List.length_append, List.length_singleton]
      omega
    rw [List.flatMap_cons, List.append_assoc, readLevels_byte, if_neg room, ih left, List.append_assoc]
    rfl

theorem readLevels_byte26 {bytes got : List Byte} (rest : List Bool) (room : got.length ≤ 25)
    (many : 25 < got.length + bytes.length) :
    readLevels got (bytes.flatMap byteLevels ++ rest) = .fault .byte26 := by
  induction bytes generalizing got with
  | nil => exact absurd many (Nat.not_lt.mpr room)
  | cons b bytes ih =>
    rw [List.flatMap_cons, List.append_assoc, readLevels_byte]
    by_cases full : Config.telegramMax ≤ got.length
    · exact if_pos full
    · have below : got.length < 25 := Nat.not_le.mp full
      have length : (got ++ [b]).length = got.length + 1 := List.length_append
      rw [List.length_cons] at many
      rw [if_neg full]
      exact ih (by omega) (by omega)

theorem readLevels_lineLevels {bytes : List Byte} (bound : bytes.length ≤ 25) : readLevels [] (lineLevels bytes) =
    if bytes.length < Config.telegramMin then .fault .tooShort else .completed bytes := by
  have gap := readLevels_endGap bytes []
  rw [List.append_nil] at gap
  rw [lineLevels, readLevels_bytes _ (by simpa using bound), List.nil_append, gap]

theorem readLevels_lowStopBit {bytes : List Byte} (b : Byte) (rest : List Bool) (room : bytes.length < 25) :
    readLevels bytes ((byteLevels b).take 9 ++ false :: rest) = .fault .lowStopBit := by
  have below : ¬ Config.telegramMax ≤ bytes.length := Nat.not_le.mpr room
  simp only [byteLevels, List.map, List.cons_append, List.nil_append, List.take, readLevels, if_neg below,
    Bool.false_eq_true, if_false]

theorem readLevels_shortGap (bytes : List Byte) (rest : List Bool) {k : Nat} (some : 1 ≤ k) (few : k ≤ 3) :
    readLevels bytes (List.replicate k true ++ false :: rest) = .fault .shortGap := by
  interval_cases k <;> simp only [List.replicate, List.cons_append, List.nil_append, readLevels]

/-! ### The pins (R128, R193) -/

theorem ChannelEngine.ltx_quiet {ce : ChannelEngine} (quiet : ce.sending = none) : ce.ltx = [] := by
  rw [ltx, quiet]

theorem ChannelEngine.ltx_sending {ce : ChannelEngine} {x : Transmission} (sends : ce.sending = some x) :
    ce.ltx = lineLevels (telegramBytes x.telegram) := by
  rw [ltx, sends]

/-- Settles O55: the bytes by their layout's parts, the levels by induction on the bytes laid out. -/
theorem telegramsReadBackAsThemselves : Obligations.TelegramsReadBackAsThemselves := by
  refine ⟨fun t sized => ?_, fun bytes => ⟨lineLevels_length bytes, fun n b at_n => ⟨?_, fun i bound => ?_, ?_⟩,
    fun i bound => lineLevels_endGap bytes bound⟩, fun ce => ⟨?_, ce.ltx_quiet, fun x sends => ce.ltx_sending sends⟩,
    fun s c => ⟨Quad.get_tabulate _ c, fun n => ?_⟩, fun bytes => ⟨fun _ few => ?_, fun low high => ?_, fun many => ?_⟩,
    fun bytes rest => ⟨fun b room => ?_, fun k some few _ bound => ?_⟩⟩
  · obtain ⟨low, high⟩ := telegramBytes_bounds sized
    have reads := parseTelegram_telegramBytes sized
    refine ⟨low, high, reads, fun own => ?_⟩
    rw [judgeBytes, reads]
  · exact levels_getElem? _ at_n (j := 0) (by decide)
  · rw [Nat.add_assoc, lineLevels, levels_getElem? _ at_n (by omega), byteLevels_data b bound]
  · exact levels_getElem? _ at_n (j := 9) (by decide)
  · rw [ChannelEngine.ltxen, Option.isSome_iff_ne_none]
  · have driven : s.pins.ltx.get c = (s.ch c).ltx.map levelOf := Quad.get_tabulate _ c
    rw [driven, List.getElem?_map]
    rfl
  · exact (readLevels_lineLevels (by omega)).trans (if_pos few)
  · exact (readLevels_lineLevels high).trans (if_neg (Nat.not_lt.mpr low))
  · exact readLevels_byte26 _ (Nat.zero_le _) (by simpa using many)
  · rw [List.append_assoc, readLevels_bytes _ (by simpa using room.le), List.nil_append]
    exact readLevels_lowStopBit b rest room
  · rw [List.append_assoc, readLevels_bytes _ (by simpa using bound), List.nil_append]
    exact readLevels_shortGap bytes rest some few

end Sys2Proof.Machine
end
